-- ==== Sys2Proof/Word.lean ====
section
/-! DEFINITION. Bytes, two-byte fields and the plain counter arithmetic of 00_scope.md ("Counters and wrapping"). -/

namespace Sys2Proof

/-- One byte of a frame or of the configuration record. -/
abbrev Byte := BitVec 8

/-- A node's address on the RCL, 0 to 15 (00_scope.md, Terms). -/
abbrev Addr := BitVec 4

/-- The number a high and a low byte spell, the high byte first (R205). -/
def word16 (hi lo : Byte) : Nat := hi.toNat * 256 + lo.toNat

/-- The high and the low byte of a two-byte field, sent high byte first (R205). -/
def bytes16 (n : Nat) : List Byte := [BitVec.ofNat 8 (n / 256), BitVec.ofNat 8 n]

/-- The four bytes of a four-byte field, sent high byte first (R205). -/
def bytes32 (n : Nat) : List Byte := bytes16 (n / 65536) ++ bytes16 (n % 65536)

/-- The `n` bits of a byte from bit `k` up, as a number. -/
def field (b : Byte) (k n : Nat) : Nat := b.toNat / 2 ^ k % 2 ^ n

/-- A byte's bit `k` as a flag (bit 0 is the least significant, R205). -/
def flag (b : Byte) (k : Nat) : Bool := b.getLsbD k

/-- One more, stopping at the stated maximum (a saturating counter). -/
def satInc (max n : Nat) : Nat := if n < max then n + 1 else max

/-- One more, passing from the stated maximum to zero (a wrapping counter). -/
def wrapInc (max n : Nat) : Nat := if n < max then n + 1 else 0

/-- The nearest value of the range `lo` to `hi`. -/
def clamp (lo hi n : Nat) : Nat := if n < lo then lo else if hi < n then hi else n

/-- The nearest value of the signed range `lo` to `hi`. -/
def clampInt (lo hi n : Int) : Int := if n < lo then lo else if hi < n then hi else n

/-- The distance between two positions, `|p - q|`. -/
def distance (p q : Nat) : Nat := if p < q then q - p else p - q

/-- One bit as a number. -/
def bit (b : Bool) : Nat := if b then 1 else 0

end Sys2Proof
end

