-- ==== Sys2Proof/Syntax.lean ====
section
/-! DEFINITION. The commands of the part: one constructor of `Instr` for each row of spec/opcode_table.json, with the
operands that the row's rule needs. A command stands for one whole event at the part (95_what_each_step_holds.md). -/

namespace Sys2Proof

/-- One of the car's two pantographs (00_scope.md, Terms). -/
inductive Pan where
  | a | b
  deriving DecidableEq, Repr

/-- The station's other pantograph. -/
def Pan.other : Pan → Pan
  | .a => .b
  | .b => .a

/-- The node kind carried in every frame header (section 12.1). -/
inductive NodeKind where
  | roof | control
  deriving DecidableEq, Repr

/-- The nine filtered level inputs (section 10.2). -/
inductive LevelInput where
  | upA | downA | upB | downB | airA | airB | brkFb | eloop | dir
  deriving DecidableEq, Repr

/-- One flag for each of the nine level inputs. As pin levels, `true` is a high pin; as accepted levels, `true` is
asserted, OK, CLOSED, closed or END1_LEADING (R190, R191). -/
structure Levels where
  upA : Bool
  downA : Bool
  upB : Bool
  downB : Bool
  airA : Bool
  airB : Bool
  brkFb : Bool
  eloop : Bool
  dir : Bool
  deriving DecidableEq, Repr

/-- All nine flags clear. -/
def Levels.negated : Levels := ⟨false, false, false, false, false, false, false, false, false⟩

/-- What the header of a received frame says beside its type and its payload length (section 12.1). -/
structure RxHeader where
  src : Addr
  kind : NodeKind
  seq : Byte
  deriving DecidableEq, Repr

/-- The check of R174 that a received frame failed. -/
inductive RxFault where
  | coding | crc | length | frameType | typeLength
  deriving DecidableEq, Repr

/-- The commands, one for each row of spec/opcode_table.json, in the table's order. -/
inductive Instr where
  /-- POWER_ON_RESET (R200). -/
  | powerOnReset
  /-- RST_ASSERTED (R200): RST read low for so many of its one-millisecond samples. -/
  | rstAsserted (lowMs : Nat)
  /-- RESET_RELEASE (R201): the pin levels and the address straps at the release. -/
  | resetRelease (pins : Levels) (straps : Addr)
  /-- CONFIG_READ_END (R202): the 128 bytes that arrived, and the pin levels at this event (R191). -/
  | configReadEnd (record : Vector Byte 128) (pins : Levels)
  /-- CONFIG_READ_TIMEOUT (R202). -/
  | configReadTimeout
  /-- CONFIG_RETRY_TIMER_EXPIRY (R202). -/
  | configRetryTimerExpiry
  /-- SAMPLE_EVENT (R1): the signed code of VSENSE and the validity mark. -/
  | sampleEvent (code : BitVec 14) (valid : Bool)
  /-- LEVEL_ACCEPTED (R190): the input and the logical level accepted. -/
  | levelAccepted (input : LevelInput) (level : Bool)
  /-- OPEN_CONFIRM_TIMER_EXPIRY (R51). -/
  | openConfirmTimerExpiry
  /-- RAISE_TIMER_EXPIRY (R33). -/
  | raiseTimerExpiry (p : Pan)
  /-- HEIGHT_TIMER_EXPIRY (R35). -/
  | heightTimerExpiry (p : Pan)
  /-- LOWER_TIMER_EXPIRY (R42). -/
  | lowerTimerExpiry (p : Pan)
  /-- RAMP_TICK (R31): the ramp periods of both controllers run free from the same reset, so one tick is both. -/
  | rampTick
  /-- DEMAND_RECEIVED (R64). -/
  | demandReceived (h : RxHeader) (payload : Vector Byte 10)
  /-- STATUS_RECEIVED (R60). -/
  | statusReceived (h : RxHeader) (payload : Vector Byte 28)
  /-- CLAIM_RECEIVED (R62). -/
  | claimReceived (h : RxHeader) (payload : Vector Byte 8)
  /-- WITHDRAW_RECEIVED (R63): the payload is the serial alone. -/
  | withdrawReceived (h : RxHeader) (serial : Byte)
  /-- RECORD_RECEIVED (R55): a payload of 0 to 28 bytes. -/
  | recordReceived (h : RxHeader) (payload : List Byte)
  /-- RECEIVE_ERROR (R174): the check the frame failed first. -/
  | receiveError (fault : RxFault)
  /-- LEARNING_ENTRY_REMOVAL (R56), of the entry at the address. -/
  | learningEntryRemoval (addr : Addr)
  /-- ENTRY_LOST (R57), of the entry at the address. -/
  | entryLost (addr : Addr)
  /-- LOST_HOLD_END (R57), of the entry at the address. -/
  | lostHoldEnd (addr : Addr)
  /-- HEARD_CLAIM_AGE_OUT (R63), of the entry at the address. -/
  | heardClaimAgeOut (addr : Addr)
  /-- SILENCE_TIMER_EXPIRY (R66). -/
  | silenceTimerExpiry
  /-- LEARNING_PERIOD_END (R70). -/
  | learningPeriodEnd
  /-- RE_TEST_TIMER_EXPIRY (R88). -/
  | reTestTimerExpiry
  /-- RETRY_HOLD_END (R93). -/
  | retryHoldEnd
  /-- HOLD_OFF_EXPIRY (R92). -/
  | holdOffExpiry
  /-- GRACE_TIMER_EXPIRY (R97). -/
  | graceTimerExpiry (p : Pan)
  /-- ODOMETER_PULSE (R194): an edge on ODO, rising or falling, at a time in microseconds. -/
  | odometerPulse (rising : Bool) (atUs : Nat)
  /-- LEG_1_END (R112). -/
  | leg1End
  /-- LEG_2_END (R113). -/
  | leg2End
  /-- LEG_3_END (R116). -/
  | leg3End
  /-- REQUALIFY_TIMER_EXPIRY (R119). -/
  | requalifyTimerExpiry
  /-- ARC_EDGE (R193): an edge on an arc input, rising or falling, at a time in microseconds. -/
  | arcEdge (p : Pan) (rising : Bool) (atUs : Nat)
  /-- SCRAPE_COUNTDOWN_END (R145). -/
  | scrapeCountdownEnd
  /-- COOLDOWN_END (R146). -/
  | cooldownEnd
  /-- RESTORE_TIMER_EXPIRY (R162). -/
  | restoreTimerExpiry
  /-- TRANSMIT_START (R170): the bit times for which the line has been idle. -/
  | transmitStart (idleBits : Nat)
  /-- TRANSMIT_END (R171). -/
  | transmitEnd
  /-- FAILED_ATTEMPT (R172). -/
  | failedAttempt
  /-- ERROR_PERIOD_END (R177). -/
  | errorPeriodEnd
  /-- STATUS_COUNTDOWN_EXPIRY (R179). -/
  | statusCountdownExpiry
  /-- STATUS_GAP_END (R180). -/
  | statusGapEnd
  /-- BUCKET_CLOSE (R196). -/
  | bucketClose
  /-- STATIONARY_TIMER_EXPIRY (R197). -/
  | stationaryTimerExpiry
  /-- AMBIENT_CONVERSION (R199): the reading in 0.5 degree steps. -/
  | ambientConversion (reading : Int)
  /-- LEVEL_INPUT_SAMPLE (R190): the pin levels at the millisecond sample. -/
  | levelInputSample (pins : Levels)
  deriving DecidableEq, Repr

end Sys2Proof
end

