-- ==== Sys2Proof/Config.lean ====
section
/-! DEFINITION. The constants that the spec fixes for every part, and the values that it leaves open. An open value is an
opaque constant: nothing can be proved of it, so a claim holds whatever it is. -/

namespace Sys2Proof.Config

/-- Samples in one window of the Line Qualifier (section 1.3). -/
def windowSamples : Nat := 2304

/-- More invalid samples than this in one window give reason SAMPLES (R12). -/
def invalidLimit : Nat := 32

/-- UNKNOWN results in a row that make Q UNKNOWN (R22). -/
def unknownLimit : Nat := 8

/-- Height timer, ms (R35). -/
def heightMs : Nat := 500

/-- Ramp period, ms (R31). -/
def rampMs : Nat := 50

/-- LOST hold of a peer entry, ms (R57). -/
def lostHoldMs : Nat := 2000

/-- What a heard claim may outlive its hold-off by, ms (R63). -/
def claimGraceMs : Nat := 500

/-- Announced interval of a roof entry until its first STATUS, and the longest one taken, ms (section 3.1, R60). -/
def defaultIntervalMs : Nat := 500

/-- Re-test timer and retry hold, ms (R88, R93). -/
def retestMs : Nat := 1000

/-- Read timeout of the configuration memory, ms (R202). -/
def readMs : Nat := 10

/-- Retry timer after a bad verdict, ms (R202). -/
def configRetryMs : Nat := 10000

/-- Failed attempts at which a frame is discarded (R173). -/
def maxAttempts : Nat := 8

/-- Idle bit times before any delay of a node's own (R170). -/
def idleBits : Nat := 16

/-- STATUS gap, ms (R180). -/
def statusGapMs : Nat := 20

/-- STATUS period in config-fault mode, ms (R179). -/
def faultPeriodMs : Nat := 100

/-- Error period, ms, and the receive errors at which the line is degraded (R177, R178). -/
def errorPeriodMs : Nat := 10000
def errorLimit : Nat := 16

/-- Bucket period and stationary time, ms (R196, R197). -/
def bucketMs : Nat := 250
def stationaryMs : Nat := 2000

/-- Suppression after an arc edge and after an odometer pulse, µs (R193, R194). -/
def arcQuietUs : Nat := 1000
def odoQuietUs : Nat := 50

/-- Advances with a low arc sum that end CLEARING in AUTO (R137). -/
def clearAdvances : Nat := 16

/-- A FORCED ice mode is warm above +10.0 °C, in 0.5 degree steps (R128). -/
def warmLimit : Int := 20

/-- The valid readings of TEMP, -50.0 to +80.0 °C, in 0.5 degree steps (R199). -/
def ambientMin : Int := -100
def ambientMax : Int := 160

/-- OPEN VALUE (log 8). The present flag that STATUS carries for a pantograph while no configuration is known; the first
argument numbers the frames. -/
opaque unknownPresent : Nat → Pan → Bool

/-- OPEN VALUE (log 8). The position that STATUS carries for a pantograph while no configuration is known. -/
opaque unknownPosition : Nat → Pan → Nat

/-- OPEN VALUE (log 8). The system-set code that STATUS carries for a pantograph while no configuration is known. -/
opaque unknownSet : Nat → Pan → Nat

/-- OPEN VALUE (log 9). Bits 0 to 6 of STATUS byte 19 while no top alert is present. -/
opaque absentAlertBits : Nat

end Sys2Proof.Config
end

