-- ==== Sys2Proof/Decode.lean ====
section
/-! DEFINITION. The commands that words and line bytes spell. The table of this block gives no row any bits, so no word
spells a command. A frame on the RCL does: its bytes, from the first header byte to the second CRC byte, are checked by
R174 and become the command of the row that takes them. -/

namespace Sys2Proof

/-- The command that a word spells by the table's bits. spec/opcode_table.json gives bits to no row. -/
def decodeTableWord (_nbits _w : Nat) : Option Instr := none

/-- One bit of the CRC register: polynomial x^16 + x^12 + x^5 + 1, most significant bit first (R206). -/
def crcBit (r : BitVec 16) : BitVec 16 := if r.getLsbD 15 then (r <<< 1) ^^^ 0x1021#16 else r <<< 1

/-- `n` bits of the CRC register. -/
def crcBits : Nat → BitVec 16 → BitVec 16
  | 0, r => r
  | n + 1, r => crcBits n (crcBit r)

/-- One covered byte, shifted in most significant bit first (R206). -/
def crcByte (r : BitVec 16) (b : Byte) : BitVec 16 := crcBits 8 (r ^^^ (b.setWidth 16 <<< 8))

/-- The CRC-16 of frames and of the configuration record: a register of all ones, no reflection, no inversion (R206). -/
def crc16 (bytes : List Byte) : BitVec 16 := bytes.foldl crcByte 0xFFFF#16

/-- The CRC's two bytes, the high byte first (R206). -/
def crcBytes (bytes : List Byte) : List Byte := bytes16 (crc16 bytes).toNat

/-- The type byte of each frame (section 12.1). -/
def typeStatus : Byte := 1
def typeClaim : Byte := 2
def typeWithdraw : Byte := 3
def typeRecord : Byte := 4
def typeDemand : Byte := 8

/-- A payload as a vector of the row's length, when it has that length. -/
def exactly (n : Nat) (l : List Byte) : Option (Vector Byte n) :=
  if h : l.length = n then some ⟨l.toArray, by simp [h]⟩ else none

/-- The command of a frame that passed the coding, CRC and length checks: the type check and the type-length check of
R174 are made here. -/
def frameCommand (ty : Byte) (h : RxHeader) (payload : List Byte) : Instr :=
  if ty = typeStatus then (exactly 28 payload).elim (.receiveError .typeLength) (.statusReceived h)
  else if ty = typeClaim then (exactly 8 payload).elim (.receiveError .typeLength) (.claimReceived h)
  else if ty = typeWithdraw then
    match payload with
    | [serial] => .withdrawReceived h serial
    | _ => .receiveError .typeLength
  else if ty = typeRecord then
    if payload.length ≤ 28 then .recordReceived h payload else .receiveError .typeLength
  else if ty = typeDemand then (exactly 10 payload).elim (.receiveError .typeLength) (.demandReceived h)
  else .receiveError .frameType

/-- The kind that header byte 1 carries in bit 4; bits 5 to 7 are unassigned and disregarded (R205, section 12.1). -/
def headerKind (b : Byte) : NodeKind := if b.getLsbD 4 then .control else .roof

/-- The command of the bytes of one frame, header to CRC, by the checks of R174 in its order: CRC, length, type, type
length (a coding fault leaves no bytes). Fewer than the six bytes of header and CRC fail the length check. -/
def decodeLineFrame (bytes : List Byte) : Instr :=
  match bytes with
  | ty :: who :: seq :: len :: rest =>
    if rest.length < 2 then .receiveError .length
    else
      let payload := rest.take (rest.length - 2)
      let crc := rest.drop (rest.length - 2)
      if crc ≠ crcBytes (ty :: who :: seq :: len :: payload) then .receiveError .crc
      else if len.toNat ≠ payload.length then .receiveError .length
      else frameCommand ty ⟨who.setWidth 4, headerKind who, seq⟩ payload
  | _ => .receiveError .length

/-- Header byte 1 (section 12.1). -/
def headerWho (h : RxHeader) : Byte :=
  BitVec.ofNat 8 (h.src.toNat + match h.kind with | .roof => 0 | .control => 16)

/-- The bytes of a frame of a type, from a node, with a payload: header, payload, CRC (section 12.1, R206). -/
def frameBytes (ty : Byte) (h : RxHeader) (payload : List Byte) : List Byte :=
  let covered := [ty, headerWho h, h.seq, BitVec.ofNat 8 payload.length] ++ payload
  covered ++ crcBytes covered

/-- The bytes on the line whose reception is the command; none for a command that is no frame. -/
def encodeLineFrame : Instr → Option (List Byte)
  | .statusReceived h p => some (frameBytes typeStatus h p.toList)
  | .claimReceived h p => some (frameBytes typeClaim h p.toList)
  | .withdrawReceived h serial => some (frameBytes typeWithdraw h [serial])
  | .recordReceived h p => some (frameBytes typeRecord h p)
  | .demandReceived h p => some (frameBytes typeDemand h p.toList)
  | _ => none

end Sys2Proof
end

