-- ==== Sys2Proof/Machine/State.lean ====
section
/-! DEFINITION. The state of the part, block by block, as plain data, and the state in which a reset leaves it. Each block's
record lists what its chapter's "State held by" section lists. -/

namespace Sys2Proof.Machine

/-- A timer: stopped, or running with the milliseconds run so far. Its limit is where its rule names it. -/
abbrev Timer := Option Nat

/-- A timer that starts from 0. -/
abbrev Timer.started : Timer := some 0

/-! ### Shared codes (00_scope.md, section 12.6) -/

/-- A line class (00_scope.md, "Line classes and system sets"). -/
inductive LineClass where
  | unknown | dead | ac25 | ac15 | dc3 | dc15
  deriving DecidableEq, Repr

/-- A pantograph's system set. -/
inductive SystemSet where
  | ac | dc | both
  deriving DecidableEq, Repr

/-- The expected system of a DEMAND frame: a live class, or ANY. -/
inductive Expected where
  | sys (c : LineClass)
  | any
  deriving DecidableEq, Repr

/-- The direction view (00_scope.md, "Positions and lead distance"). -/
inductive Direction where
  | end1 | end2
  deriving DecidableEq, Repr

/-- The kind of a want or a claim (R81, section 12.3). -/
inductive ClaimKind where
  | raise | scrape | heat
  deriving DecidableEq, Repr

/-- The alert kinds, in the order of their numbers (section 9.2). -/
inductive AlertKind where
  | configFault | emergency | panFaultA | panFaultB | breakerStuck | forcedSectionDrop | changeoverFail | wrongSystem
  | arcSevere | controlSilent | controlConflict | addressClash | peerConflict | linkDegraded | sensorFault | configClamped
  deriving DecidableEq, Repr

/-! ### Line Qualifier (section 1.1) -/

/-- The side of the crossing tracker (R6). -/
inductive Side where
  | none | neg | pos
  deriving DecidableEq, Repr

/-- The reason of a window (R12). -/
inductive WindowReason where
  | ok | samples | clip
  deriving DecidableEq, Repr

/-- The window result record (R14). -/
structure WindowResult where
  number : Nat
  cls : LineClass
  reason : WindowReason
  mean : Int
  rac : Nat
  freq : Option Nat
  invalid : Nat
  clipped : Nat
  deriving DecidableEq, Repr

/-- State held by the LQ (section 1.1). -/
structure LQ where
  s1 : Int
  s2 : Nat
  invalid : Nat
  clipped : Nat
  index : Nat
  lastUsed : Int
  side : Side
  crossings : Nat
  first : Option Nat
  last : Option Nat
  resultCounter : Nat
  result : WindowResult
  cand : Option LineClass
  candCount : Nat
  unknownStreak : Nat
  deadCount : Nat
  q : LineClass
  deriving DecidableEq, Repr

/-! ### Pantograph Controllers (section 2.1) -/

/-- The state of a pantograph (R27). -/
inductive PanState where
  | down | rising | up | lowering | fault
  deriving DecidableEq, Repr

/-- A lowering in progress in RISING or UP (R39). -/
inductive Lowering where
  | softWait | softRamp
  deriving DecidableEq, Repr

/-- A fault cause (section 2.1, section 12.6). -/
inductive FaultCause where
  | raiseTimeout | lowerTimeout | heightLoss | uncommandedDown | airLoss
  deriving DecidableEq, Repr

/-- State held by one Pantograph Controller, with its VALVE, FORCE and DISC outputs. The connection is COLLECTING
exactly while `disc` is on (R29), so it is stored once. -/
structure PC where
  state : PanState
  disc : Bool
  valve : Bool
  lowering : Option Lowering
  pendingFault : Option FaultCause
  fault : Option FaultCause
  fset : Nat
  target : Nat
  duty : Nat
  raiseT : Timer
  lowerT : Timer
  heightT : Timer
  deriving DecidableEq, Repr

/-! ### Breaker Interface (section 2.7) -/

/-- The hold-open set: for each of its five possible members, whether it is in the set (R49). -/
structure HoldOpen where
  pcA : Bool
  pcB : Bool
  cc : Bool
  ds : Bool
  cl : Bool
  deriving DecidableEq, Repr

/-- State held by the Breaker Interface; `permit` is the BRK_PERMIT output, `closed` the breaker state (R48). -/
structure BI where
  hold : HoldOpen
  permit : Bool
  closed : Bool
  openConfirm : Timer
  stuck : Bool
  deriving DecidableEq, Repr

/-! ### Peer View (section 3.1) -/

/-- The state of a peer entry (section 3.1). -/
inductive EntryState where
  | learning | valid | lost
  deriving DecidableEq, Repr

/-- A pantograph record of a roof entry; `coll` is the connection COLLECTING (R60). -/
structure PanRecord where
  present : Bool
  p : Nat
  set : SystemSet
  state : PanState
  coll : Bool
  heater : Bool
  deriving DecidableEq, Repr

/-- A heard claim (R62); `holdOff` and `age` in ms. -/
structure HeardClaim where
  serial : Nat
  kind : ClaimKind
  pan : Pan
  p : Nat
  amount : Nat
  holdOff : Nat
  age : Nat
  deriving DecidableEq, Repr

/-- What a ROOF entry holds beside the common fields; `interval` in ms. -/
structure RoofData where
  interval : Nat
  recA : Option PanRecord
  recB : Option PanRecord
  draw : Nat
  configFault : Bool
  claim : Option HeardClaim
  deriving DecidableEq, Repr

/-- The ice mode (R127). -/
inductive IceMode where
  | off | auto | forced
  deriving DecidableEq, Repr

/-- A section record of a demand; `next` is UNKNOWN only in a merged record (R64, R68). -/
structure SectionRecord where
  id : Nat
  dist : Nat
  len : Nat
  next : LineClass
  deriving DecidableEq, Repr

/-- The demand record of a CONTROL entry (R64). -/
structure DemandRecord where
  active : Bool
  up : Bool
  forceDrop : Bool
  expected : Expected
  ice : Option IceMode
  sect : Option SectionRecord
  deriving DecidableEq, Repr

/-- The three toggle values last seen from a control node (R69). -/
structure Toggles where
  restore : Nat
  clear : Nat
  report : Nat
  deriving DecidableEq, Repr

/-- What a CONTROL entry holds beside the common fields. The toggle record is absent until the first DEMAND. -/
structure ControlData where
  demand : DemandRecord
  toggles : Option Toggles
  deriving DecidableEq, Repr

/-- The part of an entry that depends on its node kind. -/
inductive EntryBody where
  | roof (r : RoofData)
  | control (c : ControlData)
  deriving DecidableEq, Repr

/-- A peer entry; `age` is the time since the end of its last good frame and `lostAge` the time since it became LOST
(running in LOST alone), in ms. -/
structure Entry where
  addr : Addr
  state : EntryState
  lastSeq : Nat
  age : Nat
  lostAge : Timer
  body : EntryBody
  deriving DecidableEq, Repr

/-- The presence of the demand in force (R65). -/
inductive Presence where
  | none | governing | merged
  deriving DecidableEq, Repr

/-- The pantograph demand of the demand in force (R65, R68). -/
inductive PanDemand where
  | up | down | hold
  deriving DecidableEq, Repr

/-- The demand in force, as handed on (R65). -/
structure DemandInForce where
  presence : Presence
  pan : PanDemand
  forceDrop : Bool
  expected : Option Expected
  ice : Option IceMode
  sect : Option SectionRecord
  deriving DecidableEq, Repr

/-- The silence timer (R66). -/
inductive Silence where
  | stopped
  | running (ms : Nat)
  | expired
  deriving DecidableEq, Repr

/-- State held by the Peer View. The peer table stands in strictly rising address order. -/
structure PV where
  table : List Entry
  force : DemandInForce
  governing : Option Addr
  heldIce : Option IceMode
  silence : Silence
  learningT : Timer
  learning : Bool
  missedSeq : Nat
  deriving DecidableEq, Repr

/-! ### Admission Unit (section 4.1) -/

/-- The profile group (R73). -/
inductive ProfileGroup where
  | ac | dc | any
  deriving DecidableEq, Repr

/-- The source of a RAISE want (R81). -/
inductive WantSource where
  | demand | changeover
  deriving DecidableEq, Repr

/-- A RAISE want (R81). -/
structure RaiseWant where
  pan : Pan
  source : WantSource
  deriving DecidableEq, Repr

/-- A HEAT want (R81). -/
structure HeatWant where
  pan : Pan
  amount : Nat
  deriving DecidableEq, Repr

/-- The state of the own claim (section 4.6). -/
inductive ClaimState where
  | none | waiting | sent | holding
  deriving DecidableEq, Repr

/-- What an open claim carries beside its serial; `holdOff` in ms (R89). -/
structure ClaimBody where
  kind : ClaimKind
  pan : Pan
  p : Nat
  amount : Nat
  holdOff : Nat
  deriving DecidableEq, Repr

/-- State held by the Admission Unit. `profile` is an index 0 to 3, or none for FALLBACK; the want list holds at most
one want of each kind, so it is three optional wants. The profile table is in the configuration image. -/
structure AU where
  group : ProfileGroup
  profile : Option Nat
  raise : Option RaiseWant
  scrape : Option Pan
  heat : Option HeatWant
  claim : ClaimState
  serial : Nat
  body : Option ClaimBody
  holdOffT : Timer
  retestT : Timer
  retryT : Timer
  graceA : Timer
  graceB : Timer
  markA : Bool
  markB : Bool
  deriving DecidableEq, Repr

/-! ### Changeover Controller (section 5.1) -/

/-- The changeover phase (section 5.4). -/
inductive Phase where
  | normal | armed | opening | stowing | coasting | requalify | closing | aborted
  deriving DecidableEq, Repr

/-- The current section; `inExec` is the mark IN EXECUTION, else RETAINED. A section taken up from the pending slot has
a distance that may be negative (R105). -/
structure CurrentSection where
  id : Nat
  dist : Int
  len : Nat
  next : LineClass
  inExec : Bool
  deriving DecidableEq, Repr

/-- The pending section, with the train distance at which it was taken (R102). -/
structure PendingSection where
  record : SectionRecord
  takenAt : Nat
  deriving DecidableEq, Repr

/-- A leg of the section countdown (R107). -/
inductive Leg where
  | one | two | three
  deriving DecidableEq, Repr

/-- The section countdown (section 5.1). -/
inductive Countdown where
  | stopped
  | running (leg : Leg) (pulses : Nat)
  | ended
  deriving DecidableEq, Repr

/-- State held by the Changeover Controller; leg lengths in pulses. -/
structure CC where
  phase : Phase
  current : Option CurrentSection
  pendingSec : Option PendingSection
  nextPan : Option Pan
  leg2 : Int
  leg3 : Int
  countdown : Countdown
  raiseAsk : Bool
  rqTimer : Timer
  rqCount : Nat
  forcedDrop : Bool
  deriving DecidableEq, Repr

/-! ### Ice-Clearing Unit (section 6.1) -/

/-- The ice state (section 6.4). -/
inductive IceState where
  | off | watch | clearing | suspended
  deriving DecidableEq, Repr

/-- The fields of the arc record (R132). -/
structure ArcFields where
  pan : Pan
  window : Nat
  distance : Nat
  speed : Nat
  q : LineClass
  deriving DecidableEq, Repr

/-- State held by the ICU, with its HEAT outputs. The rings run oldest to newest; countdowns in pulses. -/
structure ICU where
  mode : IceMode
  state : IceState
  winA : Nat
  winB : Nat
  ringA : List Nat
  ringB : List Nat
  arcPan : Option Pan
  arcSum : Nat
  clearStreak : Nat
  heaterA : Bool
  heaterB : Bool
  draw : Nat
  scrape : Option Pan
  scrapeCount : Option Nat
  cooldown : Option Nat
  arcCount : Nat
  arcFields : Option ArcFields
  severe : Bool
  deriving DecidableEq, Repr

/-! ### Drop Supervisor (section 7.1) -/

/-- The drop conditions, in the drop bit order of section 12.6. -/
inductive DropCondition where
  | emergency | airLossA | airLossB | forced | wrongSystem | controlSilent | lineLost | arcSevere
  deriving DecidableEq, Repr

/-- One flag for each drop condition: the latches, or the cause states (section 7.1). -/
structure DropSet where
  emergency : Bool
  airLossA : Bool
  airLossB : Bool
  forced : Bool
  wrongSystem : Bool
  controlSilent : Bool
  lineLost : Bool
  arcSevere : Bool
  deriving DecidableEq, Repr

/-- State held by the Drop Supervisor. -/
structure DS where
  latch : DropSet
  cause : DropSet
  restoreT : Timer
  deriving DecidableEq, Repr

/-! ### Link Access Unit (section 8.2) -/

/-- The fields of a CLAIM payload; the hold-off in 10 ms units (section 12.3). -/
structure ClaimFrame where
  serial : Nat
  kind : ClaimKind
  pan : Pan
  p : Nat
  amount : Nat
  holdOff : Nat
  deriving DecidableEq, Repr

/-- What a STATUS carries of one pantograph; `set` is the code of section 12.6. -/
structure PanStatus where
  present : Bool
  heater : Bool
  state : PanState
  coll : Bool
  p : Nat
  set : Nat
  deriving DecidableEq, Repr

/-- The restart cause field (R201). -/
inductive RestartCause where
  | none | powerOn | resetLine
  deriving DecidableEq, Repr

/-- The open claim as STATUS carries it (section 12.2). -/
structure OpenClaim where
  kind : ClaimKind
  pan : Pan
  serial : Nat
  amount : Nat
  deriving DecidableEq, Repr

/-- One snapshot of the fields of a STATUS frame (R188); the interval in 10 ms units, the frequency in cHz. -/
structure StatusFrame where
  interval : Nat
  configFault : Bool
  learning : Bool
  view : Direction
  cause : RestartCause
  panA : PanStatus
  panB : PanStatus
  q : LineClass
  phase : Phase
  sectionId : Nat
  windowClass : LineClass
  windowReason : WindowReason
  rac : Nat
  mean : Int
  freq : Nat
  draw : Nat
  drop : DropSet
  top : Option (AlertKind × Nat)
  speed : Nat
  ice : IceState
  claim : Option OpenClaim
  arcSum : Nat
  deriving DecidableEq, Repr

/-- One snapshot of the fields of a RECORD frame (R187). `lastMode` is the arc record mode LAST. -/
structure RecordFrame where
  requests : BitVec 16
  latches : DropSet
  faultA : Option FaultCause
  faultB : Option FaultCause
  rxErrors : Nat
  collisions : Nat
  txDrops : Nat
  missedSeq : Nat
  invalid : Nat
  clipped : Nat
  arcCount : Nat
  lastMode : Bool
  arc : Option ArcFields
  deriving DecidableEq, Repr

/-- A frame in its slot: failed attempts, and its sequence number once its first attempt has given it one (R169). -/
structure Slot (α : Type) where
  frame : α
  fails : Nat
  seq : Option Nat
  deriving DecidableEq, Repr

/-- A roof frame of one of the four types. -/
inductive Frame where
  | withdraw (serial : Nat)
  | claim (c : ClaimFrame)
  | status (f : StatusFrame)
  | record (f : RecordFrame)
  deriving DecidableEq, Repr

/-- The attempt in progress: the frame now on the line. -/
structure Attempt where
  frame : Frame
  fails : Nat
  seq : Nat
  deriving DecidableEq, Repr

/-- State held by the Link Access Unit. The RCL driver is on exactly while `onLine` holds an attempt. -/
structure LAU where
  wdSlot : Option (Slot Nat)
  clSlot : Option (Slot ClaimFrame)
  stSlot : Option (Slot StatusFrame)
  rcSlot : Option (Slot RecordFrame)
  onLine : Option Attempt
  seq : Nat
  rxErrors : Nat
  collisions : Nat
  txDrops : Nat
  periodErrors : Nat
  periodDrop : Bool
  periodClock : Nat
  degraded : Bool
  statusT : Timer
  gapT : Timer
  statusPending : Bool
  faultMode : Bool
  deriving DecidableEq, Repr

/-! ### Alert Unit (section 9.1) -/

/-- State held by the Alert Unit; bit n of `flags` is the request flag of kind n, `flt` the FLT output. Enables, levels
and the lamp threshold are in the configuration image. -/
structure AL where
  flags : BitVec 16
  top : Option (AlertKind × Nat)
  flt : Bool
  deriving DecidableEq, Repr

/-! ### Input Conditioning and Odometry (chapter 10) -/

/-- The run counts of the nine level inputs (R190). -/
structure RunCounts where
  upA : Nat
  downA : Nat
  upB : Nat
  downB : Nat
  airA : Nat
  airB : Nat
  brkFb : Nat
  eloop : Nat
  dir : Nat
  deriving DecidableEq, Repr

/-- State held by the IOC. -/
structure IOC where
  levels : Levels
  runs : RunCounts
  lastArcA : Option Nat
  lastArcB : Option Nat
  lastOdo : Option Nat
  distance : Nat
  remainder : Nat
  bucket : Nat
  closed1 : Nat
  closed2 : Nat
  closed3 : Nat
  closed4 : Nat
  bucketClock : Nat
  speed : Nat
  stationary : Bool
  stationaryT : Timer
  view : Direction
  ambient : Option Int
  tempInvalid : Bool
  deriving DecidableEq, Repr

/-! ### Configuration Loader (chapter 11) -/

/-- The applies-to code of a profile; `undefined` is a code that section 12.6 does not name (R203). -/
inductive AppliesTo where
  | off | ac | dc | both | undefined
  deriving DecidableEq, Repr

/-- An admission profile (R72). -/
structure Profile where
  low : Nat
  high : Nat
  applies : AppliesTo
  maxCollecting : Nat
  minSpacing : Nat
  maxScraping : Nat
  leadExclusion : Nat
  deriving DecidableEq, Repr

/-- The fields of one pantograph in the record; `set` is none for an undefined code (R203). -/
structure PanConfig where
  present : Bool
  set : Option SystemSet
  p : Nat
  fBase : Nat
  rating : Nat
  deriving DecidableEq, Repr

/-- The four drop masks, ON being `true` (section 7.1). -/
structure DropMasks where
  wrongSystem : Bool
  controlSilent : Bool
  lineLost : Bool
  arcSevere : Bool
  deriving DecidableEq, Repr

/-- The input polarities, INVERTED being `true` (R191, section 12.7). -/
structure Polarities where
  levels : Levels
  arcA : Bool
  arcB : Bool
  odo : Bool
  deriving DecidableEq, Repr

/-- The configuration image: the fields of section 11.4 in the record's own units (section 12.7). -/
structure Image where
  panA : PanConfig
  panB : PanConfig
  trainLength : Nat
  ppm : Nat
  ts : Nat
  th : Nat
  tctl : Nat
  kq : Nat
  h : Nat
  nDead : Nat
  profile0 : Profile
  profile1 : Profile
  profile2 : Profile
  profile3 : Profile
  budget : Nat
  ambientLimit : Int
  tIce : Nat
  tClear : Nat
  tSevere : Nat
  fIce : Nat
  fScrape : Nat
  scrapeDist : Nat
  cooldownDist : Nat
  mOpen : Nat
  mClose : Nat
  tRq : Nat
  tRaise : Nat
  tLower : Nat
  tBrk : Nat
  rampStep : Nat
  fFull : Nat
  masks : DropMasks
  autoRestore : Bool
  delayCode : Nat
  enables : BitVec 16
  levels : List Nat
  lampThreshold : Nat
  polarities : Polarities
  arcLast : Bool
  deriving DecidableEq, Repr

/-- State held by the Configuration Loader: the image is held exactly while the configuration is good (R204). -/
structure CL where
  image : Option Image
  clamped : Bool
  read : Timer
  retryT : Timer
  verdictGiven : Bool
  address : Addr
  cause : RestartCause
  deriving DecidableEq, Repr

/-- Which of the two resets is held or was released last (R201). -/
inductive ResetCause where
  | powerOn | resetLine
  deriving DecidableEq, Repr

/-- The state of the part, and the queue of the commands that wait. -/
structure State where
  lq : LQ
  pcA : PC
  pcB : PC
  rampClock : Nat
  bi : BI
  pv : PV
  au : AU
  cc : CC
  icu : ICU
  ds : DS
  lau : LAU
  al : AL
  ioc : IOC
  cl : CL
  released : Bool
  resetCause : ResetCause
  freeCount : Nat
  pending : List Instr
  deriving DecidableEq, Repr

/-- The reasons for which a step stops with a fault. The spec gives the part none: every command has an effect in every
state (NOTES.md, "Stops"), so the type has no constructor. -/
inductive Fault where
  deriving DecidableEq, Repr

/-- The reasons for which a step refuses a command. -/
inductive Refusal where
  /-- Raised by exec alone, for a command that has no meaning in this model yet; safe. No command of this model is. -/
  | notModelled (mnemonic : String)
  deriving DecidableEq, Repr

/-! ### The state after reset -/

/-- R25. -/
def LQ.reset : LQ where
  s1 := 0
  s2 := 0
  invalid := 0
  clipped := 0
  index := 0
  lastUsed := 0
  side := .none
  crossings := 0
  first := none
  last := none
  resultCounter := 0
  result := ⟨0, .unknown, .ok, 0, 0, none, 0, 0⟩
  cand := none
  candCount := 0
  unknownStreak := 0
  deadCount := 0
  q := .unknown

/-- R46. The state is DOWN or LOWERING by the DOWN sensor, which is taken at reset release (R192). -/
def PC.reset (downAsserted : Bool) : PC where
  state := if downAsserted then .down else .lowering
  disc := false
  valve := false
  lowering := none
  pendingFault := none
  fault := none
  fset := 0
  target := 0
  duty := 0
  raiseT := none
  lowerT := none
  heightT := none

/-- R53. The breaker state is taken at reset release (R48); the value before it is this model's (DESIGN CHOICE, log 4). -/
def BI.reset : BI where
  hold := ⟨false, false, false, false, true⟩
  permit := false
  closed := false
  openConfirm := none
  stuck := false

/-- The demand in force NONE, read as R65 states. -/
def DemandInForce.absent : DemandInForce where
  presence := .none
  pan := .hold
  forceDrop := false
  expected := none
  ice := none
  sect := none

/-- R71. -/
def PV.reset : PV where
  table := []
  force := .absent
  governing := none
  heldIce := none
  silence := .stopped
  learningT := none
  learning := true
  missedSeq := 0

/-- R100. -/
def AU.reset : AU where
  group := .any
  profile := none
  raise := none
  scrape := none
  heat := none
  claim := .none
  serial := 0
  body := none
  holdOffT := none
  retestT := none
  retryT := none
  graceA := none
  graceB := none
  markA := false
  markB := false

/-- R126; the leg lengths have no stated reset value (DESIGN CHOICE 0, log 4). -/
def CC.reset : CC where
  phase := .normal
  current := none
  pendingSec := none
  nextPan := none
  leg2 := 0
  leg3 := 0
  countdown := .stopped
  raiseAsk := false
  rqTimer := none
  rqCount := 0
  forcedDrop := false

/-- R149. -/
def ICU.reset : ICU where
  mode := .off
  state := .off
  winA := 0
  winB := 0
  ringA := [0, 0, 0, 0, 0, 0, 0, 0]
  ringB := [0, 0, 0, 0, 0, 0, 0, 0]
  arcPan := none
  arcSum := 0
  clearStreak := 0
  heaterA := false
  heaterB := false
  draw := 0
  scrape := none
  scrapeCount := none
  cooldown := none
  arcCount := 0
  arcFields := none
  severe := false

/-- No drop condition. -/
def DropSet.empty : DropSet := ⟨false, false, false, false, false, false, false, false⟩

/-- R165. -/
def DS.reset : DS where
  latch := .empty
  cause := .empty
  restoreT := none

/-- R181. -/
def LAU.reset : LAU where
  wdSlot := none
  clSlot := none
  stSlot := none
  rcSlot := none
  onLine := none
  seq := 0
  rxErrors := 0
  collisions := 0
  txDrops := 0
  periodErrors := 0
  periodDrop := false
  periodClock := 0
  degraded := false
  statusT := none
  gapT := none
  statusPending := false
  faultMode := false

/-- R189. -/
def AL.reset : AL where
  flags := 0
  top := none
  flt := true

/-- All nine run counts 0 (R192). -/
def RunCounts.zero : RunCounts := ⟨0, 0, 0, 0, 0, 0, 0, 0, 0⟩

/-- R193 to R199. The accepted levels and the direction view are taken at reset release (R192, R198); their values
before it are this model's (DESIGN CHOICE, log 4). -/
def IOC.reset : IOC where
  levels := .negated
  runs := .zero
  lastArcA := none
  lastArcB := none
  lastOdo := none
  distance := 0
  remainder := 0
  bucket := 0
  closed1 := 0
  closed2 := 0
  closed3 := 0
  closed4 := 0
  bucketClock := 0
  speed := 0
  stationary := false
  stationaryT := none
  view := .end2
  ambient := none
  tempInvalid := false

/-- R201, R202. Address and restart cause are read at reset release; their values before it are this model's (DESIGN
CHOICE, log 4). -/
def CL.reset : CL where
  image := none
  clamped := false
  read := none
  retryT := none
  verdictGiven := false
  address := 0
  cause := .none

/-- The state in which a reset of the given cause holds the part until its release: every block at its reset values
(R200 and each block's own reset rule). -/
def State.held (cause : ResetCause) : State where
  lq := .reset
  pcA := .reset false
  pcB := .reset false
  rampClock := 0
  bi := .reset
  pv := .reset
  au := .reset
  cc := .reset
  icu := .reset
  ds := .reset
  lau := .reset
  al := .reset
  ioc := .reset
  cl := .reset
  released := false
  resetCause := cause
  freeCount := 0
  pending := []

/-- The part right after a power-on reset: held in it until RESET_RELEASE, with no command waiting. -/
def State.reset : State := State.held .powerOn

end Sys2Proof.Machine
end

