-- ==== Sys2Proof/Machine/Operands.lean ====
section
/-! DEFINITION. Every operand form: the field codes of section 12.6, what a received payload says (R60, R62, R64 with
their mending), the configuration record (section 12.7) with its clamping (R203), and the derived settings. -/

namespace Sys2Proof.Machine

/-! ### Line classes and system sets (00_scope.md) -/

/-- A live class is one of the four system classes. -/
def LineClass.live : LineClass → Bool
  | .ac25 | .ac15 | .dc3 | .dc15 => true
  | .unknown | .dead => false

/-- A class is contained in a set when its group is the set, or the set is BOTH. -/
def SystemSet.contains : SystemSet → LineClass → Bool
  | .ac, .ac25 | .ac, .ac15 | .dc, .dc3 | .dc, .dc15 => true
  | .both, c => c.live
  | _, _ => false

/-- The line class codes (section 12.6). -/
def LineClass.code : LineClass → Nat
  | .unknown => 0
  | .dead => 1
  | .ac25 => 2
  | .ac15 => 3
  | .dc3 => 4
  | .dc15 => 5

/-- The live class of a system code, 2 to 5 (section 12.6). -/
def liveOfCode : Nat → Option LineClass
  | 2 => some .ac25
  | 3 => some .ac15
  | 4 => some .dc3
  | 5 => some .dc15
  | _ => none

/-- The system-set codes (section 12.6). -/
def setOfCode : Nat → Option SystemSet
  | 1 => some .ac
  | 2 => some .dc
  | 3 => some .both
  | _ => none

/-- The code of a system set; an undefined set stands for the record's code 0 (log 16). -/
def setCode : Option SystemSet → Nat
  | some .ac => 1
  | some .dc => 2
  | some .both => 3
  | none => 0

/-! ### A received STATUS (section 12.2, R60) -/

/-- The pantograph state of a code; a code outside the table is taken as UP (R60). -/
def panStateOfCode : Nat → PanState
  | 0 => .down
  | 1 => .rising
  | 2 => .up
  | 3 => .lowering
  | 4 => .fault
  | _ => .up

/-- The pantograph record of three STATUS bytes, mended by R60 for a train of the given length: an undefined connection
is COLLECTING, an undefined set BOTH, a position above L is L. -/
def panRecordOf (trainLength : Nat) (flags hi lo : Byte) : PanRecord where
  present := flag flags 0
  p := min (word16 hi lo % 4096) trainLength
  set := (setOfCode (word16 hi lo / 4096 % 4)).getD .both
  state := panStateOfCode (field flags 2 3)
  coll := field flags 5 2 ≠ 0
  heater := flag flags 1

/-- What the Peer View takes from a STATUS payload. -/
structure StatusContent where
  interval : Nat
  configFault : Bool
  learning : Bool
  recA : PanRecord
  recB : PanRecord
  draw : Nat
  claim : Option Nat
  deriving DecidableEq, Repr

/-- The content of a STATUS payload. The interval is mended to 50 to 500 ms (R60); `claim` is the serial of the claim
field, absent for kind NONE (R63). -/
def statusContent (trainLength : Nat) (b : Vector Byte 28) : StatusContent where
  interval := clamp 50 500 (b[0].toNat * 10)
  configFault := flag b[1] 0
  learning := flag b[1] 1
  recA := panRecordOf trainLength b[2] b[3] b[4]
  recB := panRecordOf trainLength b[5] b[6] b[7]
  draw := b[17].toNat
  claim := if field b[23] 0 2 = 0 then none else some b[24].toNat

/-! ### A received CLAIM (section 12.3, R62) -/

/-- The claim kind codes. -/
def claimKindOfCode : Nat → Option ClaimKind
  | 1 => some .raise
  | 2 => some .scrape
  | 3 => some .heat
  | _ => none

/-- The pantograph codes. -/
def panOfCode : Nat → Option Pan
  | 0 => some .a
  | 1 => some .b
  | _ => none

/-- The heard claim of a CLAIM payload; none for a kind or pantograph outside its table (R62). -/
def claimContent (trainLength : Nat) (b : Vector Byte 8) : Option HeardClaim :=
  match claimKindOfCode b[1].toNat, panOfCode b[2].toNat with
  | some kind, some pan => some
      { serial := b[0].toNat, kind := kind, pan := pan, p := min (word16 b[3] b[4]) trainLength,
        amount := word16 b[5] b[6], holdOff := b[7].toNat * 10, age := 0 }
  | _, _ => none

/-! ### A received DEMAND (section 12.4, R64) -/

/-- The section record that a DEMAND carries: none for id 0, for a next system that is no live class and for length 0;
distance and length mended (R64). -/
def sectionOf (id : Byte) (dist len : Nat) (next : Byte) : Option SectionRecord :=
  if id = 0 ∨ len = 0 then none
  else (liveOfCode next.toNat).map fun c =>
    { id := id.toNat, dist := min dist 8000, len := clamp 10 2000 len, next := c }

/-- The ice mode of a code, or the mode the entry had before (R64). -/
def iceOfCode (before : Option IceMode) : Nat → Option IceMode
  | 0 => some .off
  | 1 => some .auto
  | 2 => some .forced
  | _ => before

/-- The demand record of a DEMAND payload, mended by R64; `before` is the entry's previous ice mode. -/
def demandContent (before : Option IceMode) (b : Vector Byte 10) : DemandRecord where
  active := flag b[0] 0
  up := flag b[0] 1
  forceDrop := flag b[0] 2
  expected := match liveOfCode (field b[1] 0 4) with
    | some c => .sys c
    | none => .any
  ice := iceOfCode before (field b[1] 4 4)
  sect := sectionOf b[4] (word16 b[5] b[6]) (word16 b[7] b[8]) b[9]

/-- The toggle values of a DEMAND payload (section 12.4). -/
def togglesOf (b : Vector Byte 10) : Toggles where
  restore := field b[2] 0 4
  clear := field b[2] 4 4
  report := field b[3] 0 4

/-! ### The configuration record (section 12.7) -/

/-- The applies-to codes (section 12.6). -/
def appliesOfCode : Nat → AppliesTo
  | 0 => .off
  | 1 => .ac
  | 2 => .dc
  | 3 => .both
  | _ => .undefined

/-- A byte as a two's complement number (R205). -/
def signedByte (b : Byte) : Int := b.toInt

/-- The byte at an offset of the record; offsets used are below 128. -/
def recordByte (b : Vector Byte 128) (k : Nat) : Byte := b[k]?.getD 0

/-- The two-byte field at an offset of the record. -/
def recordWord (b : Vector Byte 128) (k : Nat) : Nat := word16 (recordByte b k) (recordByte b (k + 1))

/-- The five bytes of one pantograph. -/
def panConfigOf (b : Vector Byte 128) (k : Nat) : PanConfig where
  present := flag (recordByte b k) 0
  set := setOfCode (field (recordByte b k) 1 2)
  p := recordWord b (k + 1)
  fBase := (recordByte b (k + 3)).toNat
  rating := (recordByte b (k + 4)).toNat

/-- The eleven bytes of one profile. -/
def profileOf (b : Vector Byte 128) (k : Nat) : Profile where
  low := recordWord b k
  high := recordWord b (k + 2)
  applies := appliesOfCode (recordByte b (k + 4)).toNat
  maxCollecting := (recordByte b (k + 5)).toNat
  minSpacing := recordWord b (k + 6)
  maxScraping := (recordByte b (k + 8)).toNat
  leadExclusion := recordWord b (k + 9)

/-- The sixteen alert levels, two to a byte from byte 91, the even kind in the low half. -/
def alertLevelsOf (b : Vector Byte 128) : List Nat :=
  (List.range 16).map fun k => field (recordByte b (91 + k / 2)) (k % 2 * 4) 4

/-- The input polarities: bits 0 to 11 of bytes 100 and 101 (section 12.7). -/
def polaritiesOf (b : Vector Byte 128) : Polarities :=
  let w := recordWord b 100
  { levels := ⟨w.testBit 0, w.testBit 1, w.testBit 2, w.testBit 3, w.testBit 4, w.testBit 5, w.testBit 8, w.testBit 9,
      w.testBit 10⟩,
    arcA := w.testBit 6, arcB := w.testBit 7, odo := w.testBit 11 }

/-- The fields of a record as they stand in it, before clamping. -/
def rawImage (b : Vector Byte 128) : Image where
  panA := panConfigOf b 0
  panB := panConfigOf b 5
  trainLength := recordWord b 10
  ppm := (recordByte b 12).toNat
  ts := (recordByte b 13).toNat
  th := (recordByte b 14).toNat
  tctl := (recordByte b 15).toNat
  kq := (recordByte b 16).toNat
  h := recordWord b 17
  nDead := (recordByte b 19).toNat
  profile0 := profileOf b 20
  profile1 := profileOf b 31
  profile2 := profileOf b 42
  profile3 := profileOf b 53
  budget := recordWord b 64
  ambientLimit := signedByte (recordByte b 66)
  tIce := (recordByte b 67).toNat
  tClear := (recordByte b 68).toNat
  tSevere := (recordByte b 69).toNat
  fIce := (recordByte b 70).toNat
  fScrape := (recordByte b 71).toNat
  scrapeDist := recordWord b 72
  cooldownDist := recordWord b 74
  mOpen := recordWord b 76
  mClose := recordWord b 78
  tRq := (recordByte b 80).toNat
  tRaise := (recordByte b 81).toNat
  tLower := (recordByte b 82).toNat
  tBrk := recordWord b 83
  rampStep := (recordByte b 85).toNat
  fFull := recordWord b 86
  masks := ⟨flag (recordByte b 88) 0, flag (recordByte b 88) 1, flag (recordByte b 88) 2, flag (recordByte b 88) 3⟩
  autoRestore := flag (recordByte b 88) 4
  delayCode := field (recordByte b 88) 5 3
  enables := BitVec.ofNat 16 (recordWord b 89)
  levels := alertLevelsOf b
  lampThreshold := (recordByte b 99).toNat
  polarities := polaritiesOf b
  arcLast := flag (recordByte b 102) 0

/-- The single-field ranges of one pantograph (R203 step 1). -/
def clampPan (c : PanConfig) : PanConfig := { c with fBase := clamp 40 140 c.fBase, rating := clamp 0 100 c.rating }

/-- The single-field ranges of one profile (R72, R203 step 1). -/
def clampProfile (f : Profile) : Profile :=
  { f with
    low := clamp 0 400 f.low, high := clamp 0 400 f.high, maxCollecting := clamp 1 8 f.maxCollecting,
    minSpacing := clamp 0 800 f.minSpacing, maxScraping := clamp 0 4 f.maxScraping,
    leadExclusion := clamp 0 400 f.leadExclusion }

/-- R203 step 1: each field is brought into its own range (section 11.4). -/
def clampFields (i : Image) : Image :=
  { i with
    panA := clampPan i.panA, panB := clampPan i.panB, trainLength := clamp 10 800 i.trainLength,
    ppm := clamp 1 16 i.ppm, ts := clamp 5 50 i.ts, th := clamp 10 100 i.th, tctl := clamp 5 50 i.tctl,
    kq := clamp 2 8 i.kq, h := clamp 20 500 i.h, nDead := clamp 4 250 i.nDead,
    profile0 := clampProfile i.profile0, profile1 := clampProfile i.profile1,
    profile2 := clampProfile i.profile2, profile3 := clampProfile i.profile3,
    budget := clamp 0 2000 i.budget, ambientLimit := clampInt (-20) 20 i.ambientLimit,
    tIce := clamp 1 100 i.tIce, tClear := clamp 0 50 i.tClear, tSevere := clamp 2 255 i.tSevere,
    fIce := clamp 0 40 i.fIce, fScrape := clamp 30 100 i.fScrape,
    scrapeDist := clamp 500 10000 i.scrapeDist, cooldownDist := clamp 0 20000 i.cooldownDist,
    mOpen := clamp 50 1000 i.mOpen, mClose := clamp 10 500 i.mClose, tRq := clamp 2 20 i.tRq,
    tRaise := clamp 4 15 i.tRaise, tLower := clamp 3 10 i.tLower, tBrk := clamp 100 2000 i.tBrk,
    rampStep := clamp 1 20 i.rampStep, fFull := clamp 100 300 i.fFull, delayCode := clamp 0 4 i.delayCode,
    levels := i.levels.map (clamp 0 7), lampThreshold := clamp 0 7 i.lampThreshold }

/-- R203 step 2 for one pantograph: an undefined set code clears the present flag. -/
def clampSet (c : PanConfig) : PanConfig := if c.set.isNone then { c with present := false } else c

/-- R203 step 2 for one profile: an undefined applies-to code is OFF. -/
def clampApplies (f : Profile) : Profile := if f.applies = .undefined then { f with applies := .off } else f

/-- R203 step 2: the undefined codes. -/
def clampCodes (i : Image) : Image :=
  { i with
    panA := clampSet i.panA, panB := clampSet i.panB,
    profile0 := clampApplies i.profile0, profile1 := clampApplies i.profile1,
    profile2 := clampApplies i.profile2, profile3 := clampApplies i.profile3 }

/-- R203 steps 3 to 5: positions, hold-off and ice thresholds, each on the values left before it. -/
def clampAgainst (i : Image) : Image :=
  { i with
    panA := { i.panA with p := min i.panA.p i.trainLength }, panB := { i.panB with p := min i.panB.p i.trainLength },
    th := max i.th (2 * i.ts),
    tClear := if i.tIce ≤ i.tClear then i.tIce - 1 else i.tClear,
    tSevere := if i.tSevere ≤ i.tIce then i.tIce + 1 else i.tSevere }

/-- The clamping of R203, in its order. -/
def clampImage (i : Image) : Image := clampAgainst (clampCodes (clampFields i))

/-- The verdict on a record all of whose bytes arrived: the CRC over bytes 0 to 125 equals the stored one (R202, R206). -/
def recordGood (b : Vector Byte 128) : Bool := crcBytes (b.toList.take 126) = [recordByte b 126, recordByte b 127]

/-! ### Settings derived from the image, in milliseconds and pulses -/

/-- The configured fields of one pantograph. -/
def Image.pan (i : Image) : Pan → PanConfig
  | .a => i.panA
  | .b => i.panB

/-- The four profiles, by index. -/
def Image.profiles (i : Image) : List Profile := [i.profile0, i.profile1, i.profile2, i.profile3]

/-- T_s in ms (section 12.7: 10 ms units). -/
def Image.tsMs (i : Image) : Nat := i.ts * 10

/-- T_h in ms (10 ms units). -/
def Image.thMs (i : Image) : Nat := i.th * 10

/-- T_ctl in ms (0.1 s units). -/
def Image.tctlMs (i : Image) : Nat := i.tctl * 100

/-- The restore delay of a delay code, ms (section 7.1). -/
def Image.restoreMs (i : Image) : Nat :=
  match i.delayCode with
  | 0 => 0
  | 1 => 2000
  | 2 => 5000
  | 3 => 10000
  | _ => 30000

/-! ### Level inputs -/

/-- The level of one input. -/
def levelOf (l : Levels) : LevelInput → Bool
  | .upA => l.upA
  | .downA => l.downA
  | .upB => l.upB
  | .downB => l.downB
  | .airA => l.airA
  | .airB => l.airB
  | .brkFb => l.brkFb
  | .eloop => l.eloop
  | .dir => l.dir

/-- The levels with one input's level replaced. -/
def withLevel (l : Levels) (i : LevelInput) (v : Bool) : Levels :=
  match i with
  | .upA => { l with upA := v }
  | .downA => { l with downA := v }
  | .upB => { l with upB := v }
  | .downB => { l with downB := v }
  | .airA => { l with airA := v }
  | .airB => { l with airB := v }
  | .brkFb => { l with brkFb := v }
  | .eloop => { l with eloop := v }
  | .dir => { l with dir := v }

/-- The run count of one input. -/
def RunCounts.get (r : RunCounts) : LevelInput → Nat
  | .upA => r.upA
  | .downA => r.downA
  | .upB => r.upB
  | .downB => r.downB
  | .airA => r.airA
  | .airB => r.airB
  | .brkFb => r.brkFb
  | .eloop => r.eloop
  | .dir => r.dir

/-- The run counts with one input's count replaced. -/
def RunCounts.set (r : RunCounts) (i : LevelInput) (n : Nat) : RunCounts :=
  match i with
  | .upA => { r with upA := n }
  | .downA => { r with downA := n }
  | .upB => { r with upB := n }
  | .downB => { r with downB := n }
  | .airA => { r with airA := n }
  | .airB => { r with airB := n }
  | .brkFb => { r with brkFb := n }
  | .eloop => { r with eloop := n }
  | .dir => { r with dir := n }

/-- The nine level inputs, in the order of section 12.7's polarity bits. -/
def levelInputs : List LevelInput := [.upA, .downA, .upB, .downB, .airA, .airB, .brkFb, .eloop, .dir]

/-- The class time of a level input, in samples (R190). -/
def classTime : LevelInput → Nat
  | .eloop | .airA | .airB => 2
  | .upA | .downA | .upB | .downB | .brkFb => 20
  | .dir => 100

/-- The logical levels of pin levels under a polarity: INVERTED reads the opposite level (R191). -/
def logical (polarity pins : Levels) : Levels where
  upA := polarity.upA ^^ pins.upA
  downA := polarity.downA ^^ pins.downA
  upB := polarity.upB ^^ pins.upB
  downB := polarity.downB ^^ pins.downB
  airA := polarity.airA ^^ pins.airA
  airB := polarity.airB ^^ pins.airB
  brkFb := polarity.brkFb ^^ pins.brkFb
  eloop := polarity.eloop ^^ pins.eloop
  dir := polarity.dir ^^ pins.dir

/-- The direction that an accepted DIR level names (section 10.1). -/
def directionOf (level : Bool) : Direction := if level then .end1 else .end2

end Sys2Proof.Machine
end

