-- ==== Sys2Proof/Machine/Ops.lean ====
section
/-! DEFINITION. The named operations that the blocks share: reading and writing a controller, the sensors, the hold-open
set, alert requests, drop latches, lead distances, and placing CLAIM and WITHDRAW frames. -/

namespace Sys2Proof.Machine

/-! ### Controllers and sensors -/

/-- The controller of a pantograph. -/
def State.pc (s : State) : Pan → PC
  | .a => s.pcA
  | .b => s.pcB

/-- The state with the controller of a pantograph replaced. -/
def State.setPc (s : State) (p : Pan) (c : PC) : State :=
  match p with
  | .a => { s with pcA := c }
  | .b => { s with pcB := c }

/-- Apply an operation that needs the configuration image; without one nothing happens (R204). -/
def State.ifGood (s : State) (f : Image → State → State) : State :=
  match s.cl.image with
  | some im => f im s
  | none => s

/-- The configuration is good (R204). -/
def State.good (s : State) : Bool := s.cl.image.isSome

/-- The pantograph is marked present in the image; before the configuration is good it is not known to be (R28). -/
def State.present (s : State) (p : Pan) : Bool :=
  match s.cl.image with
  | some im => (im.pan p).present
  | none => false

/-- The controller acts on its sensors, requests and RESTORE: always, but for a pantograph that the image marks absent
(R28; before the configuration is good both controllers follow R47). -/
def State.acts (s : State) (p : Pan) : Bool :=
  match s.cl.image with
  | some im => (im.pan p).present
  | none => true

/-- The UP sensor of a pantograph reads asserted (accepted level). -/
def State.upSensor (s : State) : Pan → Bool
  | .a => s.ioc.levels.upA
  | .b => s.ioc.levels.upB

/-- The DOWN sensor of a pantograph reads asserted (accepted level). -/
def State.downSensor (s : State) : Pan → Bool
  | .a => s.ioc.levels.downA
  | .b => s.ioc.levels.downB

/-- The air switch of a pantograph reads OK (accepted level). -/
def State.airOk (s : State) : Pan → Bool
  | .a => s.ioc.levels.airA
  | .b => s.ioc.levels.airB

/-- In state RISING or UP. -/
def PC.risingOrUp (c : PC) : Bool := c.state = .rising ∨ c.state = .up

/-- Raised: in state RISING, UP or LOWERING (00_scope.md, Terms). -/
def PanState.raised : PanState → Bool
  | .rising | .up | .lowering => true
  | .down | .fault => false

/-- UP in COLLECTING connection. -/
def PC.upCollecting (c : PC) : Bool := c.state = .up ∧ c.disc = true

/-- Raised in COLLECTING connection, the condition of the law of R32. -/
def PC.raisedCollecting (c : PC) : Bool := c.state.raised && c.disc

/-- The own pantograph that satisfies a test, A before B. -/
def State.findPan (s : State) (f : PC → Bool) : Option Pan :=
  if f s.pcA then some .a else if f s.pcB then some .b else none

/-- Some own pantograph is UP in COLLECTING connection. -/
def State.anyUpCollecting (s : State) : Bool := s.pcA.upCollecting || s.pcB.upCollecting

/-! ### Timers -/

/-- A timer has reached its limit. -/
def due (t : Timer) (limit : Nat) : Bool := t.any fun n => limit ≤ n

/-! ### The hold-open set (R49) -/

/-- The set is empty when none of the five is in it. -/
def HoldOpen.isEmpty (h : HoldOpen) : Bool := !(h.pcA || h.pcB || h.cc || h.ds || h.cl)

/-- A Pantograph Controller enters (`true`) or leaves the set. -/
def State.holdPan (s : State) (p : Pan) (v : Bool) : State :=
  match p with
  | .a => { s with bi := { s.bi with hold := { s.bi.hold with pcA := v } } }
  | .b => { s with bi := { s.bi with hold := { s.bi.hold with pcB := v } } }

/-- The Changeover Controller enters or leaves the set. -/
def State.holdCC (s : State) (v : Bool) : State := { s with bi := { s.bi with hold := { s.bi.hold with cc := v } } }

/-- The Drop Supervisor enters or leaves the set. -/
def State.holdDS (s : State) (v : Bool) : State := { s with bi := { s.bi with hold := { s.bi.hold with ds := v } } }

/-- The Configuration Loader enters or leaves the set. -/
def State.holdCL (s : State) (v : Bool) : State := { s with bi := { s.bi with hold := { s.bi.hold with cl := v } } }

/-! ### Alert requests (R182) -/

/-- The number of an alert kind (section 9.2). -/
def AlertKind.number : AlertKind → Nat
  | .configFault => 0
  | .emergency => 1
  | .panFaultA => 2
  | .panFaultB => 3
  | .breakerStuck => 4
  | .forcedSectionDrop => 5
  | .changeoverFail => 6
  | .wrongSystem => 7
  | .arcSevere => 8
  | .controlSilent => 9
  | .controlConflict => 10
  | .addressClash => 11
  | .peerConflict => 12
  | .linkDegraded => 13
  | .sensorFault => 14
  | .configClamped => 15

/-- A request sets the flag of its kind and no other; a flag already set stays set (R182). -/
def State.request (s : State) (k : AlertKind) : State :=
  { s with al := { s.al with flags := s.al.flags ||| BitVec.twoPow 16 k.number } }

/-- The flag of a kind is set. -/
def AL.requested (a : AL) (k : AlertKind) : Bool := a.flags.getLsbD k.number

/-- The PAN_FAULT kind of a pantograph. -/
def panFaultKind : Pan → AlertKind
  | .a => .panFaultA
  | .b => .panFaultB

/-! ### The drop set (section 7.1) -/

/-- The flag of one condition. -/
def DropSet.get (d : DropSet) : DropCondition → Bool
  | .emergency => d.emergency
  | .airLossA => d.airLossA
  | .airLossB => d.airLossB
  | .forced => d.forced
  | .wrongSystem => d.wrongSystem
  | .controlSilent => d.controlSilent
  | .lineLost => d.lineLost
  | .arcSevere => d.arcSevere

/-- The set with one condition's flag replaced. -/
def DropSet.set (d : DropSet) (c : DropCondition) (v : Bool) : DropSet :=
  match c with
  | .emergency => { d with emergency := v }
  | .airLossA => { d with airLossA := v }
  | .airLossB => { d with airLossB := v }
  | .forced => { d with forced := v }
  | .wrongSystem => { d with wrongSystem := v }
  | .controlSilent => { d with controlSilent := v }
  | .lineLost => { d with lineLost := v }
  | .arcSevere => { d with arcSevere := v }

/-- No condition of the set: as the latches, the raise inhibit is then empty (R153). -/
def DropSet.isEmpty (d : DropSet) : Bool :=
  !(d.emergency || d.airLossA || d.airLossB || d.forced || d.wrongSystem || d.controlSilent || d.lineLost || d.arcSevere)

/-- R151 points 2 to 4: the condition joins the drop set, the DS enters the hold-open set, and a running restore timer
is stopped and set to 0. -/
def State.setLatch (s : State) (c : DropCondition) : State :=
  { s with ds := { s.ds with latch := s.ds.latch.set c true, restoreT := none } }.holdDS true

/-- The AIR_LOSS condition of a pantograph. -/
def airLossOf : Pan → DropCondition
  | .a => .airLossA
  | .b => .airLossB

/-! ### Lead distance (R75) -/

/-- The lead distance of a position: `p` when End 1 leads, `L - p` when End 2 leads. -/
def leadDistance (view : Direction) (trainLength p : Nat) : Nat :=
  match view with
  | .end1 => p
  | .end2 => trainLength - p

/-- The lead distance of an own pantograph, from the image and the direction view as they stand. -/
def State.lead (s : State) (im : Image) (p : Pan) : Nat := leadDistance s.ioc.view im.trainLength (im.pan p).p

/-! ### Placing CLAIM and WITHDRAW (R168) -/

/-- A new CLAIM enters its slot with no failed attempt; a CLAIM that waits there is replaced. -/
def State.placeClaim (s : State) (f : ClaimFrame) : State :=
  { s with lau := { s.lau with clSlot := some ⟨f, 0, none⟩ } }

/-- A WITHDRAW removes the CLAIM of its serial that stands in the CLAIM slot, and is then not sent itself; otherwise it
enters its own slot. -/
def State.placeWithdraw (s : State) (serial : Nat) : State :=
  if s.lau.clSlot.any (fun c => c.frame.serial == serial) then { s with lau := { s.lau with clSlot := none } }
  else { s with lau := { s.lau with wdSlot := some ⟨serial, 0, none⟩ } }

end Sys2Proof.Machine
end

