-- ==== Sys2Proof/Machine/LineQualifier.lean ====
section
/-! DEFINITION. The Line Qualifier (01): taking a sample, the window-end arithmetic, the class table, qualification and
abandonment. -/

namespace Sys2Proof.Machine

/-! ### Taking a sample (R1 to R6) -/

/-- The used value of a sample (R2, R3): its code when valid, else the last used sample, and 0 at index 0. -/
def LQ.used (q : LQ) (code : BitVec 14) (valid : Bool) : Int :=
  if valid then code.toInt else if q.index = 0 then 0 else q.lastUsed

/-- A valid sample at either end of the converter's range is clipped (R3). -/
def clips (code : BitVec 14) (valid : Bool) : Bool := valid && (code.toInt == 8191 || code.toInt == -8192)

/-- The crossing tracker takes a used value at the current index (R6). -/
def LQ.track (q : LQ) (h : Nat) (u : Int) : LQ :=
  if u ≤ -(h : Int) then { q with side := .neg }
  else if (h : Int) ≤ u then
    if q.side = .neg then
      { q with
        side := .pos, crossings := q.crossings + 1, last := some q.index,
        first := if q.crossings = 0 then some q.index else q.first }
    else { q with side := .pos }
  else q

/-- One sample is taken into the window in progress (R1). -/
def LQ.take (q : LQ) (h : Nat) (code : BitVec 14) (valid : Bool) : LQ :=
  let u := q.used code valid
  let t := q.track h u
  { t with
    s1 := q.s1 + u, s2 := q.s2 + u.natAbs * u.natAbs,
    invalid := q.invalid + bit (!valid), clipped := q.clipped + bit (clips code valid),
    lastUsed := u, index := q.index + 1 }

/-- The accumulators, the last used sample and the tracker as every window starts with them (R4). -/
def LQ.clearWindow (q : LQ) : LQ :=
  { q with
    s1 := 0, s2 := 0, invalid := 0, clipped := 0, index := 0, lastUsed := 0, side := .none, crossings := 0,
    first := none, last := none }

/-! ### The window-end arithmetic (R8 to R13) -/

/-- The mean M (R8). -/
def meanOf (s1 : Int) : Int :=
  let m := (2 * s1.natAbs + 2304) / 4608
  if s1 < 0 then -(m : Int) else m

/-- VAR (R9): the mean square less the squared mean, 0 when that is negative. -/
def varianceOf (s1 : Int) (s2 : Nat) : Nat := s2 / 2304 - (meanOf s1).natAbs * (meanOf s1).natAbs

/-- The largest root no greater than `v`'s, found bit by bit from bit `k - 1` down, starting from `r`. -/
def rootBits (v : Nat) : Nat → Nat → Nat
  | 0, r => r
  | k + 1, r => rootBits v k (if (r + 2 ^ k) * (r + 2 ^ k) ≤ v then r + 2 ^ k else r)

/-- The integer square root (R10). -/
def isqrt (v : Nat) : Nat := rootBits v (v.log2 / 2 + 1) 0

/-- The AC magnitude Rac (R10). -/
def racOf (s1 : Int) (s2 : Nat) : Nat := isqrt (varianceOf s1 s2)

/-- The frequency F in mHz, absent below three crossings (R11). -/
def freqOf (n : Nat) (first last : Option Nat) : Option Nat :=
  if n < 3 then none
  else
    match first, last with
    | some i, some j => some ((n - 1) * 4800000 / (j - i))
    | _, _ => none

/-- The reason of a window (R12). -/
def reasonOf (clipped invalid : Nat) : WindowReason :=
  if 0 < clipped then .clip else if Config.invalidLimit < invalid then .samples else .ok

/-- The class of a window (R13). -/
def classOf (r : WindowReason) (m : Int) (rac : Nat) (f : Option Nat) : LineClass :=
  if r ≠ .ok then .unknown
  else if rac < 100 ∧ m.natAbs < 100 then .dead
  else if f.any (fun f => 47000 ≤ f ∧ f ≤ 52000) ∧ 2917 ≤ rac ∧ rac ≤ 4833 ∧ m.natAbs ≤ 250 then .ac25
  else if f.any (fun f => 15500 ≤ f ∧ f ≤ 17500) ∧ 1834 ≤ rac ∧ rac ≤ 3000 ∧ m.natAbs ≤ 250 then .ac15
  else if 334 ≤ m ∧ m ≤ 650 ∧ rac ≤ 100 then .dc3
  else if 167 ≤ m ∧ m ≤ 325 ∧ rac ≤ 100 then .dc15
  else .unknown

/-- The result of the window in progress (R14). -/
def LQ.resultOf (q : LQ) : WindowResult where
  number := wrapInc 65535 q.resultCounter
  reason := reasonOf q.clipped q.invalid
  mean := meanOf q.s1
  rac := racOf q.s1 q.s2
  freq := freqOf q.crossings q.first q.last
  cls := classOf (reasonOf q.clipped q.invalid) (meanOf q.s1) (racOf q.s1 q.s2) (freqOf q.crossings q.first q.last)
  invalid := q.invalid
  clipped := q.clipped

/-! ### Qualification (R20 to R23) -/

/-- The candidate count after a result of a class (R20). -/
def LQ.nextCount (q : LQ) (c : LineClass) : Nat := if q.cand = some c then satInc 255 q.candCount else 1

/-- The unknown streak after a result of a class (R22). -/
def LQ.nextUnknown (q : LQ) (c : LineClass) : Nat := if c = .unknown then satInc 255 q.unknownStreak else 0

/-- Q after a result of a class (R21, R22). -/
def LQ.nextQ (q : LQ) (kq : Nat) (c : LineClass) : LineClass :=
  match c with
  | .dead => .dead
  | .unknown => if Config.unknownLimit ≤ q.nextUnknown .unknown then .unknown else q.q
  | c => if kq ≤ q.nextCount c then c else q.q

/-- A result of a class is qualified (R20 to R23). -/
def LQ.qualify (q : LQ) (kq : Nat) (c : LineClass) : LQ :=
  { q with
    cand := some c, candCount := q.nextCount c, unknownStreak := q.nextUnknown c,
    deadCount := if c = .dead then satInc 255 q.deadCount else 0,
    q := q.nextQ kq c }

/-- The window end (R4, R14, R15): the result replaces the record, is qualified, and the next window is clear. -/
def LQ.close (q : LQ) (kq : Nat) : LQ :=
  let r := q.resultOf
  { q.clearWindow.qualify kq r.cls with result := r, resultCounter := r.number }

/-- The SENSOR_FAULT cause of the LQ (R15). -/
def LQ.sensorFault (q : LQ) : Bool := Config.invalidLimit < q.result.invalid

/-! ### Abandonment (R17 to R19, R26) -/

/-- What an abandoning event does inside the LQ; in an empty window only the streak and the dead count (R19). -/
def LQ.abandon (q : LQ) : LQ := { q.clearWindow with cand := none, candCount := 0, deadCount := 0 }

/-- The wiring that VSENSE sees differs between two states (R17): a pantograph entered or left UP in COLLECTING
connection, or a DISC output changed. -/
def wiringChanged (s t : State) : Bool :=
  s.pcA.upCollecting != t.pcA.upCollecting || s.pcB.upCollecting != t.pcB.upCollecting ||
    s.pcA.disc != t.pcA.disc || s.pcB.disc != t.pcB.disc

/-- The number of the window in progress (R14). -/
def LQ.windowNumber (q : LQ) : Nat := wrapInc 65535 q.resultCounter

end Sys2Proof.Machine
end

