-- ==== Sys2Proof/Machine/Flags.lean ====
section
/-! DEFINITION. The status and flag computations: the alert causes (section 9.2), the top alert and the lamp (R183, R184),
clearing (R185), and the announced fields of STATUS (R180). -/

namespace Sys2Proof.Machine

/-! ### Alert causes (section 9.2) -/

/-- The emergency loop reads open. -/
def State.eloopOpen (s : State) : Bool := !s.ioc.levels.eloop

/-- The direction view is held against DIR (R198). -/
def State.directionHeld (s : State) : Bool := s.ioc.view != directionOf s.ioc.levels.dir

/-- The silence of control is active (R66). -/
def PV.silent (v : PV) : Bool := v.silence = .expired

/-- A PAN_FAULT cause (R44). -/
def PC.faulted (c : PC) : Bool := c.state = .fault ∨ c.pendingFault.isSome = true

/-- The cause of a kind, as its owner counts it for the clear toggle (section 9.2). -/
def State.alertCause (s : State) : AlertKind → Bool
  | .configFault => !s.good
  | .emergency => s.eloopOpen || s.ds.latch.emergency
  | .panFaultA => s.pcA.faulted
  | .panFaultB => s.pcB.faulted
  | .breakerStuck => s.bi.stuck
  | .forcedSectionDrop => s.cc.forcedDrop
  | .changeoverFail => s.cc.phase = .aborted
  | .wrongSystem => s.ds.cause.wrongSystem
  | .arcSevere => s.icu.severe
  | .controlSilent => s.pv.silent
  | .controlConflict => s.pv.force.presence = .merged
  | .addressClash => false
  | .peerConflict => s.au.markA || s.au.markB
  | .linkDegraded => s.lau.degraded
  | .sensorFault => s.lq.sensorFault || s.directionHeld || s.ioc.tempInvalid
  | .configClamped => s.cl.clamped

/-! ### The top alert (R183) and FLT (R184) -/

/-- The sixteen kinds in the order of their numbers. -/
def alertKinds : List AlertKind :=
  [.configFault, .emergency, .panFaultA, .panFaultB, .breakerStuck, .forcedSectionDrop, .changeoverFail, .wrongSystem,
    .arcSevere, .controlSilent, .controlConflict, .addressClash, .peerConflict, .linkDegraded, .sensorFault,
    .configClamped]

/-- The configured level of a kind. -/
def Image.alertLevel (i : Image) (k : AlertKind) : Nat := i.levels.getD k.number 0

/-- The first of a list of kinds with the lowest level. -/
def lowestLevel (i : Image) : List AlertKind → Option (AlertKind × Nat)
  | [] => none
  | k :: ks =>
    match lowestLevel i ks with
    | some (k', l) => if l < i.alertLevel k then some (k', l) else some (k, i.alertLevel k)
    | none => some (k, i.alertLevel k)

/-- The top alert (R183): before the configuration is good only CONFIG_FAULT, at level 0, takes part. -/
def topAlert (image : Option Image) (flags : BitVec 16) : Option (AlertKind × Nat) :=
  match image with
  | some i => lowestLevel i (alertKinds.filter fun k => flags.getLsbD k.number && i.enables.getLsbD k.number)
  | none => if flags.getLsbD 0 then some (.configFault, 0) else none

/-- The fault lamp (R184). -/
def lampOf (image : Option Image) (top : Option (AlertKind × Nat)) : Bool :=
  match image with
  | some i => top.any fun t => t.2 ≤ i.lampThreshold
  | none => true

/-- The top alert and FLT are formed afresh. -/
def State.formAlerts (s : State) : State :=
  let top := topAlert s.cl.image s.al.flags
  { s with al := { s.al with top := top, flt := lampOf s.cl.image top } }

/-! ### Clearing (R185) -/

/-- The request flags after a clear: a flag whose cause is inactive is cleared. -/
def State.clearedFlags (s : State) : BitVec 16 :=
  alertKinds.foldl (fun f k => if s.alertCause k then f else f &&& ~~~BitVec.twoPow 16 k.number) s.al.flags

/-- A clear toggle in its one event (R133, R176, R185): flags, link counters and arc record. -/
def State.clearToggle (s : State) : State :=
  { s with
    al := { s.al with flags := s.clearedFlags },
    lau := { s.lau with rxErrors := 0, collisions := 0, txDrops := 0 },
    pv := { s.pv with missedSeq := 0 },
    icu := { s.icu with arcCount := 0, arcFields := none } }

/-! ### The announced fields of STATUS (R180) -/

/-- The claim that is open: SENT or HOLDING. -/
def AU.claimOpen (a : AU) : Bool := a.claim = .sent ∨ a.claim = .holding

/-- The section id that STATUS carries (R125): of the section in execution, 0 in NORMAL. -/
def CC.shownId (c : CC) : Nat :=
  if c.phase = .normal then 0
  else
    match c.current with
    | some sec => sec.id
    | none => 0

/-- The fields whose change brings a STATUS forward. -/
structure Announced where
  stateA : PanState
  stateB : PanState
  discA : Bool
  discB : Bool
  heaterA : Bool
  heaterB : Bool
  q : LineClass
  phase : Phase
  sectionId : Nat
  draw : Nat
  drop : DropSet
  top : Option (AlertKind × Nat)
  claimOpen : Bool
  serial : Nat
  ice : IceState
  learning : Bool
  configFault : Bool
  deriving DecidableEq, Repr

/-- The serial of the open claim as STATUS carries it, 0 while none is open (section 12.2). -/
def AU.shownSerial (a : AU) : Nat := if a.claimOpen then a.serial else 0

/-- The announced fields of a state. -/
def State.announced (s : State) : Announced where
  stateA := s.pcA.state
  stateB := s.pcB.state
  discA := s.pcA.disc
  discB := s.pcB.disc
  heaterA := s.icu.heaterA
  heaterB := s.icu.heaterB
  q := s.lq.q
  phase := s.cc.phase
  sectionId := s.cc.shownId
  draw := s.icu.draw
  drop := s.ds.latch
  top := s.al.top
  claimOpen := s.au.claimOpen
  serial := s.au.shownSerial
  ice := s.icu.state
  learning := s.pv.learning
  configFault := !s.good

end Sys2Proof.Machine
end

