-- ==== Sys2Proof/Machine/Pantograph.lean ====
section
/-! DEFINITION. The Pantograph Controllers (02, sections 2.2 to 2.6): force, raising, the watched faults, the two ways of
lowering, FAULT and restoration. -/

namespace Sys2Proof.Machine

/-! ### Force (R30, R31) -/

/-- The FORCE duty of a setpoint: `⌊F_set × 1000 / F_full⌋`, clamped to 0 to 1000 (R31). -/
def dutyOf (fFull n : Nat) : Nat := min 1000 (n * 1000 / fFull)

/-- F_full of the image. Before the configuration is good F_set is 0 and so is the duty. -/
def State.fFull (s : State) : Nat :=
  match s.cl.image with
  | some im => im.fFull
  | none => 1

/-- F_set and, at the same event, the duty (R31). -/
def PC.setForce (c : PC) (fFull n : Nat) : PC := { c with fset := n, duty := dutyOf fFull n }

/-- F_set and the duty at 0 at once (R31, "Immediate zero"). -/
def PC.zeroForce (c : PC) : PC := { c with fset := 0, duty := 0 }

/-- The force target of a pantograph (R27, R30): 0 outside RISING and UP and in SOFT-RAMP, F_scrape when ISOLATED,
F_base when COLLECTING, with F_ice while the ICU is CLEARING and Q is a live class of the pantograph's set. -/
def State.forceTarget (s : State) (p : Pan) : Nat :=
  match s.cl.image with
  | none => 0
  | some im =>
    let c := s.pc p
    if !c.risingOrUp || c.lowering = some .softRamp then 0
    else if !c.disc then im.fScrape
    else
      let fits := (im.pan p).set.any (fun set => set.contains s.lq.q)
      clamp 40 140 ((im.pan p).fBase + if s.icu.state = .clearing ∧ fits = true then im.fIce else 0)

/-- The force targets of both controllers, formed afresh (R30). -/
def State.formTargets (s : State) : State :=
  { s with pcA := { s.pcA with target := s.forceTarget .a }, pcB := { s.pcB with target := s.forceTarget .b } }

/-- One step of F_set toward its target (R31): by the ramp step, or onto the target when it is no further. -/
def rampStep (step target n : Nat) : Nat :=
  if n < target then (if step < target - n then n + step else target)
  else if step < n - target then n - step else target

/-- One tick of a controller's ramp period (R31). -/
def PC.ramp (c : PC) (im : Image) : PC := c.setForce im.fFull (rampStep im.rampStep c.target c.fset)

/-! ### Lowering (R38 to R42) -/

/-- VALVE off, the raise and height timers stopped, the lower timer started, state LOWERING. -/
def PC.vent (c : PC) : PC :=
  { c with valve := false, lowering := none, state := .lowering, raiseT := none, heightT := none, lowerT := .started }

/-- A soft lowering in RISING or UP moves on by the breaker state and F_set (R39): SOFT-WAIT becomes SOFT-RAMP when the
breaker reads OPEN, and SOFT-RAMP vents when F_set is 0 and the breaker reads OPEN. -/
def PC.advance (c : PC) (breakerClosed : Bool) : PC :=
  if breakerClosed || !c.risingOrUp then c
  else
    match c.lowering with
    | some .softWait => if c.fset = 0 then c.vent else { c with lowering := some .softRamp }
    | some .softRamp => if c.fset = 0 then c.vent else c
    | none => c

/-- Both controllers' soft lowerings move on. -/
def State.advancePan (s : State) (p : Pan) : State := s.setPc p ((s.pc p).advance s.bi.closed)

/-- A soft lower request (R38): SOFT-WAIT with a hold-open entry for a collecting pantograph in RISING or UP (R39),
LOWERING at once for an isolated one (R40), no effect otherwise. -/
def State.softLower (s : State) (p : Pan) : State :=
  let c := s.pc p
  if s.acts p && c.risingOrUp && c.lowering.isNone then
    if c.disc then
      (s.setPc p (({ c with lowering := some .softWait, raiseT := none } : PC).advance s.bi.closed)).holdPan p true
    else s.setPc p c.vent
  else s

/-- A fast drop (R38, R41): in RISING or UP the pantograph vents with F_set 0 at once, whatever lowering was in
progress, and a collecting one enters the hold-open set; in LOWERING a remaining F_set goes to 0. -/
def State.fastDrop (s : State) (p : Pan) : State :=
  let c := s.pc p
  if !s.acts p then s
  else if c.risingOrUp then
    let t := s.setPc p c.vent.zeroForce
    if c.disc then t.holdPan p true else t
  else if c.state = .lowering then s.setPc p c.zeroForce
  else s

/-- A fast drop by the controller's own fault: the pending fault cause is set, the first one standing, and PAN_FAULT is
requested at once (R41). -/
def State.faultDrop (s : State) (p : Pan) (cause : FaultCause) : State :=
  let t := s.fastDrop p
  let c := t.pc p
  (t.setPc p { c with pendingFault := some (c.pendingFault.getD cause) }).request (panFaultKind p)

/-- The DOWN sensor asserted in FAULT turns DISC off and takes the controller out of the hold-open set (R44). -/
def State.downInFault (s : State) (p : Pan) : State := (s.setPc p { s.pc p with disc := false }).holdPan p false

/-- Entry to FAULT (R44): outputs off, timers stopped, the cause recorded, PAN_FAULT requested, and the hold-open entry
of a collecting pantograph; DISC goes off at once where the DOWN sensor is asserted. -/
def State.enterFault (s : State) (p : Pan) (cause : FaultCause) : State :=
  let c := s.pc p
  let f : PC :=
    { c with
      state := .fault, valve := false, fset := 0, duty := 0, lowering := none, pendingFault := none, fault := some cause,
      raiseT := none, lowerT := none, heightT := none }
  let t := (s.setPc p f).request (panFaultKind p)
  let u := if c.disc then t.holdPan p true else t
  if u.downSensor p then u.downInFault p else u

/-- The DOWN sensor asserted in LOWERING (R42): FAULT with the pending cause, or DOWN with F_set 0, the lower timer
stopped and no hold-open entry. -/
def State.downInLowering (s : State) (p : Pan) : State :=
  match (s.pc p).pendingFault with
  | some cause => s.enterFault p cause
  | none => (s.setPc p { (s.pc p).zeroForce with state := .down, lowerT := none }).holdPan p false

/-- The lower timer's expiry (R42): FAULT with the pending cause, or with LOWER_TIMEOUT. -/
def State.lowerTimeout (s : State) (p : Pan) : State := s.enterFault p ((s.pc p).pendingFault.getD .lowerTimeout)

/-- The air-loss event at the Drop Supervisor (R156): it latches AIR_LOSS unless that is latched already. The cause state that
section 7.1 holds for AIR_LOSS stays inactive, as no rule says when it is active (log 39, DESIGN CHOICE). -/
def State.latchAirLoss (s : State) (p : Pan) : State :=
  if s.ds.latch.get (airLossOf p) then s else s.setLatch (airLossOf p)

/-- An air loss (R37): a fast drop with pending cause AIR_LOSS, and the air-loss event in the same event. -/
def State.airLoss (s : State) (p : Pan) : State := (s.faultDrop p .airLoss).latchAirLoss p

/-- What the sensors of a pantograph ask of its controller, by their accepted levels (R33, R36, R37, R42, R44): one
transition at most. -/
def State.sense (s : State) (p : Pan) : State :=
  let c := s.pc p
  if !s.acts p then s
  else
    match c.state with
    | .rising =>
      if !s.airOk p then s.airLoss p
      else if s.upSensor p then s.setPc p { c with state := .up, raiseT := none }
      else s
    | .up =>
      if !s.airOk p then s.airLoss p
      else if s.downSensor p then s.enterFault p .uncommandedDown
      else s
    | .lowering => if s.downSensor p then s.downInLowering p else s
    | .fault => if s.downSensor p then s.downInFault p else s
    | .down => s

/-- The watch on an isolated pantograph (R34): it is lowered when the other is not UP in COLLECTING connection or the
phase is not NORMAL. -/
def State.watchIsolated (s : State) (p : Pan) : State :=
  let c := s.pc p
  if s.acts p && c.risingOrUp && !c.disc && !((s.pc p.other).upCollecting && s.cc.phase = .normal) then s.setPc p c.vent
  else s

/-- Both controllers take their sensors, their soft lowerings and their isolated watch. -/
def State.pantographs (s : State) : State :=
  (((((s.sense .a).sense .b).advancePan .a).advancePan .b).watchIsolated .a).watchIsolated .b

/-! ### Raising and restoring (R32, R45) -/

/-- The other pantograph bars a collecting raise: COLLECTING in RISING, UP or LOWERING, or in FAULT with DISC on (R32,
R86). -/
def PC.barsCollecting (c : PC) : Bool := c.disc && (c.state.raised || c.state = .fault)

/-- A controller takes a grant (R32). -/
def State.grantTaken (s : State) (p : Pan) (collecting : Bool) : Bool :=
  s.acts p && (s.pc p).state = .down && s.downSensor p && s.airOk p &&
    if collecting then !s.bi.closed && !(s.pc p.other).barsCollecting
    else (s.pc p.other).upCollecting && s.cc.phase = .normal

/-- What a taken grant does (R32): DISC by the connection, VALVE on, F_set 0, the raise timer started, state RISING. -/
def State.raisePan (s : State) (p : Pan) (collecting : Bool) : State :=
  s.setPc p
    { (s.pc p).zeroForce with
      disc := collecting, valve := true, lowering := none, raiseT := .started, state := .rising }

/-- RESTORE at a controller (R45): FAULT with the DOWN sensor asserted becomes DOWN. -/
def State.restorePan (s : State) (p : Pan) : State :=
  if s.acts p && (s.pc p).state = .fault && s.downSensor p then s.setPc p { s.pc p with state := .down } else s

/-- A controller whose pantograph the image marks absent is held DOWN and ISOLATED with its outputs off (R28, R47). -/
def State.holdAbsent (s : State) (p : Pan) : State :=
  if s.acts p then s else (s.setPc p (PC.reset true)).holdPan p false

/-- At the configuration-good event the lower timer of a LOWERING controller starts (R47). -/
def State.startLower (s : State) (p : Pan) : State :=
  if (s.pc p).state = .lowering then s.setPc p { s.pc p with lowerT := .started } else s

end Sys2Proof.Machine
end

