-- ==== Sys2Proof/Machine/Changeover.lean ====
section
/-! DEFINITION. The Changeover Controller (05): taking section records, set-up and the legs, the phases, aborting and the
return to NORMAL; with it the permit conditions of R50, which CLOSING waits for. -/

namespace Sys2Proof.Machine

/-! ### The permit conditions (R50) -/

/-- Conditions 3 and 4 for one pantograph: UP in COLLECTING connection, and Q a live class contained in its set. -/
def State.feeds (s : State) (im : Image) (p : Pan) : Bool :=
  (s.pc p).upCollecting && (im.pan p).set.any fun set => set.contains s.lq.q

/-- Conditions 1 to 4 of R50. -/
def State.readyToClose (s : State) : Bool :=
  match s.cl.image with
  | some im => s.bi.hold.isEmpty && (s.feeds im .a || s.feeds im .b)
  | none => false

/-! ### Choosing the next collecting pantograph (R106) -/

/-- A candidate: present, not in FAULT, its set containing the next system. -/
def State.candidate (s : State) (im : Image) (next : LineClass) (p : Pan) : Bool :=
  (im.pan p).present && (s.pc p).state ≠ .fault && (im.pan p).set.any fun set => set.contains next

/-- The choice: the candidate now COLLECTING in RISING or UP, else A, else B. -/
def State.chooseNext (s : State) (im : Image) (next : LineClass) : Option Pan :=
  let live (p : Pan) : Bool := s.candidate im next p && (s.pc p).risingOrUp && (s.pc p).disc
  if live .a then some .a
  else if live .b then some .b
  else if s.candidate im next .a then some .a
  else if s.candidate im next .b then some .b
  else none

/-! ### Leaving the sequence (R121, R122) -/

/-- Entry to ABORTED (R122): CHANGEOVER_FAIL, countdown and timer stopped, the ask cleared, the hold-open entry. -/
def State.abort (s : State) : State :=
  (({ s with
      cc := { s.cc with phase := .aborted, countdown := .stopped, rqTimer := none, raiseAsk := false } } : State).request
    .changeoverFail).holdCC true

/-- Entry to OPENING at the end of leg 1 (R112). -/
def State.enterOpening (s : State) : State := { s with cc := { s.cc with phase := .opening } }.holdCC true

/-- The set of a present pantograph excludes the next system of the section in execution (R114). -/
def State.excluded (s : State) (p : Pan) : Bool :=
  match s.cl.image, s.cc.current with
  | some im, some sec => (im.pan p).present && !(im.pan p).set.any fun set => set.contains sec.next
  | _, _ => false

/-- Entry to STOWING (R114): the excluded pantographs in RISING or UP are lowered softly. -/
def State.enterStowing (s : State) : State :=
  let t := { s with cc := { s.cc with phase := .stowing } }
  let u := if t.excluded .a then t.softLower .a else t
  if u.excluded .b then u.softLower .b else u

/-- FORCED_SECTION_DROP is requested and the forced-drop mark set. -/
def State.markForcedDrop (s : State) : State :=
  { s with cc := { s.cc with forcedDrop := true } }.request .forcedSectionDrop

/-- The section-entry forced drop out of OPENING (R113): every raised pantograph, whatever its set. -/
def State.forcedDropAll (s : State) : State :=
  let t := ((s.fastDrop .a).fastDrop .b).markForcedDrop
  { t with cc := { t.cc with phase := .coasting } }

/-- An excluded pantograph still in RISING or UP at the end of leg 2 in STOWING (R115). -/
def State.lateStowing (s : State) (p : Pan) : Bool := s.excluded p && (s.pc p).risingOrUp

/-- The end of leg 2 in STOWING (R115). -/
def State.forcedDropStowing (s : State) : State :=
  if s.lateStowing .a || s.lateStowing .b then
    let t := if s.lateStowing .a then s.fastDrop .a else s
    (if s.lateStowing .b then t.fastDrop .b else t).markForcedDrop
  else s

/-! ### The section countdown (R107, R108) -/

/-- Leg 3 is loaded; a length of zero or less ends it at once. What its end asks is a rule of COASTING (R116). -/
def State.loadLeg3 (s : State) : State :=
  { s with
    cc := { s.cc with countdown := if s.cc.leg3 ≤ 0 then .ended else .running .three s.cc.leg3.toNat } }

/-- What the end of leg 2 asks of the phase (R113, R115, R116). -/
def State.leg2Effect (s : State) : State :=
  match s.cc.phase with
  | .opening => if s.bi.closed then s.forcedDropAll else s.enterStowing.forcedDropStowing
  | .stowing => s.forcedDropStowing
  | _ => s

/-- The end of leg 2. -/
def State.endLeg2 (s : State) : State := s.leg2Effect.loadLeg3

/-- Leg 2 is loaded. Its length is never zero or less: m_open is at least 50 m and PPM at least 1 (R107). -/
def State.loadLeg2 (s : State) : State :=
  { s with cc := { s.cc with countdown := .running .two s.cc.leg2.toNat } }

/-- The end of leg 1 (R111, R112). -/
def State.endLeg1 (s : State) : State := s.enterOpening.loadLeg2

/-- Leg 1 is loaded. -/
def State.loadLeg1 (s : State) (len : Int) : State :=
  if len ≤ 0 then s.endLeg1 else { s with cc := { s.cc with countdown := .running .one len.toNat } }

/-- The end of leg 3. -/
def State.endLeg3 (s : State) : State := { s with cc := { s.cc with countdown := .ended } }

/-- e_min (R107): the lead distance of the pantograph raised in COLLECTING connection, else of the next collecting one. -/
def State.eMin (s : State) (im : Image) (next : Pan) : Nat :=
  match s.findPan PC.raisedCollecting with
  | some p => s.lead im p
  | none => s.lead im next

/-- The lengths of the three legs in pulses (R107). -/
def State.legs (s : State) (im : Image) (sec : CurrentSection) (next : Pan) : Int × Int × Int :=
  let eMin : Int := s.eMin im next
  let eNext : Int := s.lead im next
  ((sec.dist + eMin - im.mOpen) * im.ppm, (im.mOpen : Int) * im.ppm, (sec.len + im.mClose + eNext - eMin) * im.ppm)

/-- The set-up of a section that becomes the current one (R106, R107): ARMED with leg 1 loaded, or ABORTED. -/
def State.setUp (s : State) (im : Image) (sec : CurrentSection) : State :=
  let t := { s with cc := { s.cc with current := some sec, countdown := .stopped, nextPan := none } }
  match t.chooseNext im sec.next with
  | none => t.abort
  | some next =>
    let l := t.legs im sec next
    { t with cc := { t.cc with phase := .armed, nextPan := some next, leg2 := l.2.1, leg3 := l.2.2 } }.loadLeg1 l.1

/-- The current section made of a section record (R102). -/
def SectionRecord.current (r : SectionRecord) : CurrentSection :=
  { id := r.id, dist := r.dist, len := r.len, next := r.next, inExec := true }

/-- The pending section is taken up at the return to NORMAL (R105), its distance less the metres run since. -/
def State.takeUpPending (s : State) (im : Image) : State :=
  match s.cc.pendingSec with
  | none => s
  | some w =>
    let run : Nat := (s.ioc.distance + 4294967296 - w.takenAt) % 4294967296
    let sec : CurrentSection := { w.record.current with dist := (w.record.dist : Int) - run }
    { s with cc := { s.cc with pendingSec := none } }.setUp im sec

/-- The return to NORMAL (R121): what it clears, the hold-open entry of ABORTED, and the section kept RETAINED; then the
pending section. -/
def State.returnToNormal (s : State) (im : Image) : State :=
  let retained := s.cc.current.map fun sec => { sec with inExec := false }
  ({ s with
      cc := { s.cc with
        phase := .normal, current := retained, nextPan := none, countdown := .stopped, raiseAsk := false,
        rqTimer := none, forcedDrop := false } }.holdCC false).takeUpPending im

/-! ### Section records and RESTORE (R101 to R103, R123) -/

/-- A record goes into the pending slot with the train distance (R102). -/
def State.keepPending (s : State) (r : SectionRecord) : State :=
  { s with cc := { s.cc with pendingSec := some ⟨r, s.ioc.distance⟩ } }

/-- A section record whose id is new (R102). -/
def State.takeRecord (s : State) (im : Image) (r : SectionRecord) : State :=
  match s.cc.phase with
  | .normal | .armed => s.setUp im r.current
  | .aborted => (s.keepPending r).returnToNormal im
  | _ => s.keepPending r

/-- A demand read as id 0 (R103, R123). -/
def State.takeIdZero (s : State) (im : Image) : State :=
  match s.cc.phase with
  | .normal => { s with cc := { s.cc with current := none } }
  | .armed | .aborted => { s with cc := { s.cc with current := none } }.returnToNormal im
  | _ => s

/-- The id of the pending section. -/
def CC.pendingId (c : CC) : Option Nat := c.pendingSec.map fun w => w.record.id

/-- The id of the current section. -/
def CC.currentId (c : CC) : Option Nat := c.current.map fun sec => sec.id

/-- A RESTORE at the CC (R123). -/
def State.restoreCC (s : State) (im : Image) : State := if s.cc.phase = .aborted then s.returnToNormal im else s

/-- A section record of the demand in force, with the RESTORE that came with it (R101, R123): a record of the current
section is ignored, one of the pending section too, but it leaves ABORTED. -/
def State.sectionRecord (s : State) (im : Image) (r : SectionRecord) (restore : Bool) : State :=
  if s.cc.currentId = some r.id then (if restore then s.restoreCC im else s)
  else if s.cc.pendingId = some r.id then s.restoreCC im
  else s.takeRecord im r

/-- The section part of a demand in force, with a RESTORE that came with it (R101, R123). In ABORTED, where R123 keeps the
failed section on a RESTORE and discards it on id 0 and says nothing of the two in one DEMAND, the id 0 decides: the failed
section is discarded, and the return to NORMAL that the two share takes the pending section up (log 40, DESIGN CHOICE). -/
def State.ccDemand (s : State) (im : Image) (d : DemandInForce) (restore : Bool) : State :=
  match d.presence with
  | .none => if restore then s.restoreCC im else s
  | _ =>
    match d.sect with
    | some r => s.sectionRecord im r restore
    | none => s.takeIdZero im

/-- The demand in force at the CC. While the learning period runs no section record is taken: after a reset the record,
repeated, is taken once the period has ended, with d as carried then (R126; log 35, DEDUCED). -/
def State.ccHanded (s : State) (im : Image) (d : DemandInForce) (restore : Bool) : State :=
  if s.pv.learning && d.sect.isSome then (if restore then s.restoreCC im else s) else s.ccDemand im d restore

/-! ### Direction changes (R104) -/

/-- A change of the direction view at the CC. -/
def State.ccDirection (s : State) (im : Image) : State :=
  let t := { s with cc := { s.cc with pendingSec := none } }
  match s.cc.phase with
  | .normal | .aborted => t
  | .armed => t.returnToNormal im
  | _ => t.abort

/-! ### Requalification (R117 to R120) -/

/-- The next collecting pantograph is UP in COLLECTING connection. -/
def State.nextUp (s : State) : Bool := s.cc.nextPan.any fun p => (s.pc p).upCollecting

/-- The next system of the section in execution. -/
def CC.nextSystem (c : CC) : Option LineClass := c.current.map fun sec => sec.next

/-- Entry to CLOSING (R120). -/
def State.enterClosing (s : State) : State :=
  { s with cc := { s.cc with phase := .closing, rqTimer := none, raiseAsk := false } }.holdCC false

/-- Requalification fails (R119): the next collecting pantograph is lowered, and the phase is ABORTED. -/
def State.failRequalify (s : State) : State :=
  match s.cc.nextPan with
  | some p => (s.softLower p).abort
  | none => s.abort

/-- The class that a window end qualifies (R118). -/
def State.qualifying (s : State) (im : Image) : Option LineClass :=
  match s.lq.cand with
  | some c => if im.kq ≤ s.cc.rqCount ∧ c.live = true ∧ im.kq ≤ s.lq.candCount then some c else none
  | none => none

/-- The CC's judgement at a window end with a result (R118), after the qualification of the Line Qualifier. -/
def State.judgeWindow (s : State) (im : Image) : State :=
  if s.cc.rqTimer.isSome then
    let t := { s with cc := { s.cc with rqCount := satInc 255 s.cc.rqCount } }
    match t.qualifying im with
    | some c => if t.cc.nextSystem = some c then t.enterClosing else t.failRequalify
    | none => t
  else s

/-! ### The phases' own conditions (R109, R112, R114, R116, R117, R120) -/

/-- A section is in execution from ARMED through CLOSING. -/
def Phase.executing : Phase → Bool
  | .normal | .aborted => false
  | _ => true

/-- R109: the next collecting pantograph in FAULT is replaced; in REQUALIFY and CLOSING the timer is stopped and the
count 0, and CLOSING falls back. -/
def State.reactFault (s : State) (im : Image) : State :=
  match s.cc.nextPan, s.cc.nextSystem with
  | some p, some next =>
    if s.cc.phase.executing && (s.pc p).state = .fault then
      match s.chooseNext im next with
      | none => s.abort
      | some q =>
        let t := { s with cc := { s.cc with nextPan := some q } }
        match s.cc.phase with
        | .requalify => { t with cc := { t.cc with rqTimer := none, rqCount := 0 } }
        | .closing => { t with cc := { t.cc with phase := .requalify, rqTimer := none, rqCount := 0 } }.holdCC true
        | _ => t
    else s
  | _, _ => s

/-- R112: OPENING becomes STOWING when the breaker reads OPEN. -/
def State.reactOpening (s : State) : State := if s.cc.phase = .opening ∧ s.bi.closed = false then s.enterStowing else s

/-- R114: STOWING is complete when no excluded pantograph is raised. -/
def State.reactStowing (s : State) : State :=
  let busy (p : Pan) : Bool := s.excluded p && (s.pc p).state.raised
  if s.cc.phase = .stowing ∧ !(busy .a || busy .b) then { s with cc := { s.cc with phase := .coasting } } else s

/-- R116: COASTING with the countdown ENDED becomes REQUALIFY; its timer stands stopped until R117 starts it. -/
def State.reactCoasting (s : State) : State :=
  if s.cc.phase = .coasting ∧ s.cc.countdown = .ended then
    { s with cc := { s.cc with phase := .requalify, rqTimer := none, rqCount := 0 } }
  else s

/-- R120: CLOSING falls back, or returns to NORMAL. -/
def State.reactClosing (s : State) (im : Image) : State :=
  if s.cc.phase = .closing then
    if !s.nextUp || s.cc.nextSystem ≠ some s.lq.q then
      { s with cc := { s.cc with phase := .requalify, rqTimer := none, rqCount := 0 } }.holdCC true
    else if s.readyToClose then s.returnToNormal im
    else s
  else s

/-- R117: in REQUALIFY the raise ask stands while the next collecting pantograph is not UP in COLLECTING connection, and
the requalify timer starts when it is. -/
def State.reactRequalify (s : State) : State :=
  if s.cc.phase = .requalify then
    if s.nextUp then
      if s.cc.rqTimer.isSome then { s with cc := { s.cc with raiseAsk := false } }
      else { s with cc := { s.cc with raiseAsk := false, rqTimer := .started, rqCount := 0 } }
    else { s with cc := { s.cc with raiseAsk := true, rqTimer := none, rqCount := 0 } }
  else s

/-- All that the phases ask by their own conditions. -/
def State.ccReact (s : State) (im : Image) : State :=
  ((((s.reactFault im).reactOpening.reactStowing).reactCoasting).reactClosing im).reactRequalify

/-! ### Metres and pulses -/

/-- One odometer pulse at the section countdown (R108). -/
def State.countPulse (s : State) : State :=
  match s.cc.countdown with
  | .running leg n =>
    if n ≤ 1 then
      match leg with
      | .one => s.endLeg1
      | .two => s.endLeg2
      | .three => s.endLeg3
    else { s with cc := { s.cc with countdown := .running leg (n - 1) } }
  | _ => s

end Sys2Proof.Machine
end

