-- ==== Sys2Proof/Machine/Admission.lean ====
section
/-! DEFINITION. The Admission Unit (04): profiles, ranks, the admission and heat budget tests, the want list, the own
claim, and late conflict. -/

namespace Sys2Proof.Machine

/-! ### Profiles (R72 to R74) -/

/-- The group of a live class. -/
def groupOf : LineClass → Option ProfileGroup
  | .ac25 | .ac15 => some .ac
  | .dc3 | .dc15 => some .dc
  | .unknown | .dead => none

/-- The group of an expected system; none for ANY and for an absent one. -/
def expectedGroup : Option Expected → Option ProfileGroup
  | some (.sys c) => groupOf c
  | _ => none

/-- The profile group, by the first case of R73 that applies. -/
def State.profileGroup (s : State) : ProfileGroup :=
  if s.cc.phase = .requalify then (s.cc.nextSystem.bind groupOf).getD .any
  else
    match groupOf s.lq.q with
    | some g => g
    | none => (expectedGroup s.pv.force.expected).getD .any

/-- The applies-to of a profile serves a group (R72). -/
def AppliesTo.serves : AppliesTo → ProfileGroup → Bool
  | .both, _ => true
  | .ac, .ac => true
  | .dc, .dc => true
  | _, _ => false

/-- A profile matches a speed and a group (R72). -/
def Profile.fits (f : Profile) (speed : Nat) (g : ProfileGroup) : Bool :=
  f.low ≤ speed && speed ≤ f.high && f.applies.serves g

/-- The index of the first profile of a list that matches. -/
def firstFit (speed : Nat) (g : ProfileGroup) : List Profile → Nat → Option Nat
  | [], _ => none
  | f :: fs, k => if f.fits speed g then some k else firstFit speed g fs (k + 1)

/-- The profile in force (R74): the lowest index that matches, none for FALLBACK. -/
def profileLookup (im : Image) (speed : Nat) (g : ProfileGroup) : Option Nat := firstFit speed g im.profiles 0

/-- The fallback profile (R74). -/
def fallbackProfile : Profile := ⟨0, 400, .both, 1, 0, 0, 0⟩

/-- The limits of the profile in force. -/
def limitsOf (im : Image) (index : Option Nat) : Profile := (index.bind fun k => im.profiles[k]?).getD fallbackProfile

/-- The limits now in force. -/
def State.limits (s : State) (im : Image) : Profile := limitsOf im s.au.profile

/-- The group and the profile in force are formed afresh. -/
def State.formProfile (s : State) (im : Image) : State :=
  let g := s.profileGroup
  { s with au := { s.au with group := g, profile := profileLookup im s.ioc.speed g } }

/-! ### Ranks (R75 to R77) -/

/-- A pantograph as the tests see it: connection, position, lead distance, station and letter. -/
structure Seen where
  coll : Bool
  p : Nat
  e : Nat
  addr : Addr
  pan : Pan
  deriving DecidableEq, Repr

/-- The letters' order: A is ahead of B. -/
def panBefore : Pan → Pan → Bool
  | .a, .b => true
  | _, _ => false

/-- The pantograph rank (R76): the first is ahead of the second. -/
def panAhead (x y : Seen) : Bool :=
  if x.coll ≠ y.coll then x.coll
  else if x.e ≠ y.e then y.e < x.e
  else if x.addr ≠ y.addr then x.addr < y.addr
  else panBefore x.pan y.pan

/-- The heat rank (R77): the first is ahead of the second. -/
def heatAhead (x y : Seen) : Bool :=
  if x.coll ≠ y.coll then x.coll
  else if x.e ≠ y.e then x.e < y.e
  else if x.addr ≠ y.addr then x.addr < y.addr
  else panBefore x.pan y.pan

/-! ### The candidate view (R78) -/

/-- A peer's record of one pantograph. -/
def RoofData.pan (r : RoofData) : Pan → Option PanRecord
  | .a => r.recA
  | .b => r.recB

/-- A record that the view counts as raised (R61). -/
def PanRecord.raised (r : PanRecord) : Bool := r.present && r.state.raised

/-- A record that the view counts as a heater (R61). -/
def PanRecord.heating (r : PanRecord) : Bool := r.present && r.heater

/-- The pantograph of a peer's record, when the view counts it. -/
def State.peerPan (s : State) (im : Image) (addr : Addr) (r : RoofData) (p : Pan) : List Seen :=
  match r.pan p with
  | some c =>
    if c.raised then [⟨c.coll, c.p, leadDistance s.ioc.view im.trainLength c.p, addr, p⟩] else []
  | none => []

/-- The counted peers' raised pantographs. -/
def State.peerPans (s : State) (im : Image) : List Seen :=
  s.pv.table.flatMap fun e =>
    match e.body with
    | .roof r => s.peerPan im e.addr r .a ++ s.peerPan im e.addr r .b
    | .control _ => []

/-- A heard RAISE or SCRAPE claim that the view counts: ranked ahead of the own claim, and its pantograph not yet shown
raised by its entry's record. -/
def State.heardClaims (s : State) (im : Image) (own : Seen) : List Seen :=
  s.pv.table.flatMap fun e =>
    match e.body with
    | .roof r =>
      match r.claim with
      | some c =>
        let seen : Seen := ⟨c.kind == .raise, c.p, leadDistance s.ioc.view im.trainLength c.p, e.addr, c.pan⟩
        if c.kind ≠ .heat && !(r.pan c.pan).any PanRecord.raised && panAhead seen own then [seen] else []
      | none => []
    | .control _ => []

/-- An own pantograph as the tests see it, in a given connection. -/
def State.ownSeen (s : State) (im : Image) (p : Pan) (coll : Bool) : Seen :=
  ⟨coll, (im.pan p).p, s.lead im p, s.cl.address, p⟩

/-- An own raised pantograph, when the view counts it. -/
def State.ownPan (s : State) (im : Image) (p : Pan) : List Seen :=
  if (im.pan p).present && (s.pc p).state.raised then [s.ownSeen im p (s.pc p).disc] else []

/-- The candidate view of a RAISE or SCRAPE want (R78). -/
def State.candidateView (s : State) (im : Image) (own : Seen) : List Seen :=
  s.peerPans im ++ s.heardClaims im own ++ s.ownPan im .a ++ s.ownPan im .b ++ [own]

/-! ### The admission test (R79) -/

/-- Every two positions of a list lie at least so far apart. -/
def spread (least : Nat) : List Nat → Bool
  | [] => true
  | p :: ps => ps.all (fun q => least ≤ distance p q) && spread least ps

/-- The four conditions of R79 on a view. -/
def admits (f : Profile) (view : List Seen) : Bool :=
  let coll := view.filter fun x => x.coll
  coll.length ≤ f.maxCollecting && spread f.minSpacing (coll.map fun x => x.p) &&
    (view.filter fun x => !x.coll).length ≤ f.maxScraping && view.all fun x => f.leadExclusion ≤ x.e

/-! ### The heat budget test (R80) -/

/-- The sum of a list of amounts. -/
def total (l : List Nat) : Nat := l.foldl (· + ·) 0

/-- The draws of the counted peers. -/
def State.peerDraw (s : State) : Nat :=
  total (s.pv.table.map fun e =>
    match e.body with
    | .roof r => if r.configFault then 0 else r.draw
    | .control _ => 0)

/-- The amounts of the heard HEAT claims that outrank the own one. -/
def State.outrankingHeat (s : State) (im : Image) (own : Seen) : Nat :=
  total (s.pv.table.map fun e =>
    match e.body with
    | .roof r =>
      match r.claim with
      | some c =>
        let coll := match r.pan c.pan with
          | some rec => rec.coll
          | none => true
        let seen : Seen := ⟨coll, c.p, leadDistance s.ioc.view im.trainLength c.p, e.addr, c.pan⟩
        if c.kind = .heat && !(r.pan c.pan).any PanRecord.heating && heatAhead seen own then c.amount else 0
      | none => 0
    | .control _ => 0)

/-- The sum of R80. -/
def State.heatSum (s : State) (im : Image) (own : Seen) (amount : Nat) : Nat :=
  s.peerDraw + s.outrankingHeat im own + s.icu.draw + amount

/-! ### The head of the want list and its test (R81, R86, R87) -/

/-- The want list is empty. -/
def AU.noWants (a : AU) : Bool := a.raise.isNone && a.scrape.isNone && a.heat.isNone

/-- The head: what is claimed. -/
structure Head where
  kind : ClaimKind
  pan : Pan
  amount : Nat
  deriving DecidableEq, Repr

/-- The first want in list order (R81). -/
def AU.firstWant (a : AU) : Option Head :=
  match a.raise, a.scrape, a.heat with
  | some w, _, _ => some ⟨.raise, w.pan, 0⟩
  | none, some p, _ => some ⟨.scrape, p, 0⟩
  | none, none, some w => some ⟨.heat, w.pan, w.amount⟩
  | none, none, none => none

/-- The head of the list (R81): the open claim's want, else the first. -/
def AU.head (a : AU) : Option Head :=
  if a.claimOpen then
    match a.body with
    | some b => some ⟨b.kind, b.pan, b.amount⟩
    | none => none
  else a.firstWant

/-- The demand in force is GOVERNING with pantograph demand UP. -/
def State.governingUp (s : State) : Bool := s.pv.force.presence = .governing ∧ s.pv.force.pan = .up

/-- The heater of a pantograph is on. -/
def ICU.heater (u : ICU) : Pan → Bool
  | .a => u.heaterA
  | .b => u.heaterB

/-- The permission of a head want (R86). A RAISE want of either source is permitted only while the demand in force is GOVERNING
UP, which R82 and R117 ask of REQUALIFY too and the table of R86 writes for NORMAL alone (log 34, DEDUCED). -/
def State.permitted (s : State) (h : Head) : Bool :=
  let own := s.pc h.pan
  let other := s.pc h.pan.other
  s.good && !s.pv.learning && s.au.retryT.isNone &&
    match h.kind with
    | .raise =>
      own.state = .down && !other.barsCollecting && s.ds.latch.isEmpty && s.governingUp &&
        (s.cc.phase = .normal || (s.cc.phase = .requalify && s.au.raise.any fun w => w.source = .changeover))
    | .scrape => own.state = .down && other.upCollecting && s.cc.phase = .normal && s.ds.latch.isEmpty
    | .heat =>
      own.state = .up && !s.icu.heater h.pan && s.bi.closed && (s.cc.phase = .normal || s.cc.phase = .armed)

/-- The test of a head want's kind (R87). -/
def State.headTest (s : State) (im : Image) (h : Head) : Bool :=
  match h.kind with
  | .raise =>
    let own := s.ownSeen im h.pan true
    admits (s.limits im) (s.candidateView im own)
  | .scrape =>
    let own := s.ownSeen im h.pan false
    admits (s.limits im) (s.candidateView im own)
  | .heat => s.heatSum im (s.ownSeen im h.pan (s.pc h.pan).disc) h.amount ≤ im.budget

/-- The claim test (R87). -/
def State.passes (s : State) (im : Image) (h : Head) : Bool := s.permitted h && s.headTest im h

/-! ### Opening, withdrawing and testing the claim (R88 to R91) -/

/-- A claim opens for a want (R89). -/
def State.openClaim (s : State) (im : Image) (h : Head) : State :=
  let serial := wrapInc 255 s.au.serial
  let t := { s with
    au := { s.au with
      claim := .sent, serial := serial, holdOffT := none,
      body := some ⟨h.kind, h.pan, (im.pan h.pan).p, h.amount, im.thMs⟩ } }
  t.placeClaim ⟨serial, h.kind, h.pan, (im.pan h.pan).p, h.amount, im.th⟩

/-- The own claim is withdrawn (R91). -/
def State.withdraw (s : State) : State :=
  { s with
    au := { s.au with claim := if s.au.noWants then .none else .waiting, body := none, holdOffT := none }
  }.placeWithdraw s.au.serial

/-- The test of the first want while no claim is open: it opens a claim or waits; with no want there is no claim. -/
def State.testFirst (s : State) (im : Image) : State :=
  match s.au.firstWant with
  | some h => if s.passes im h then s.openClaim im h else { s with au := { s.au with claim := .waiting } }
  | none => { s with au := { s.au with claim := .none } }

/-- The claim test (R88): it restarts the re-test timer, withdraws an open claim that fails and then tests afresh. -/
def State.claimTest (s : State) (im : Image) : State :=
  let t := { s with au := { s.au with retestT := if s.au.noWants then none else .started } }
  if t.au.claimOpen then
    match t.au.head with
    | some h => if t.passes im h then t else t.withdraw.testFirst im
    | none => t
  else t.testFirst im

/-! ### Placing and removing wants (R81 to R83, R85) -/

/-- The open claim belongs to the want of a kind. -/
def AU.claims (a : AU) (k : ClaimKind) : Bool := a.claimOpen && a.body.any fun b => b.kind = k

/-- The want of a kind is removed; an open claim of it is withdrawn. -/
def State.dropWant (s : State) (k : ClaimKind) : State :=
  let t : State :=
    match k with
    | .raise => { s with au := { s.au with raise := none } }
    | .scrape => { s with au := { s.au with scrape := none } }
    | .heat => { s with au := { s.au with heat := none } }
  if s.au.claims k then t.withdraw else t

/-- The RAISE want is placed, unless the open claim belongs to the one that stands. -/
def State.placeRaise (s : State) (w : RaiseWant) : State :=
  if s.au.claims .raise then s else { s with au := { s.au with raise := some w } }

/-- The SCRAPE want is placed, unless the open claim belongs to the one that stands. -/
def State.placeScrape (s : State) (p : Pan) : State :=
  if s.au.claims .scrape then s else { s with au := { s.au with scrape := some p } }

/-- The HEAT want is placed, unless the open claim belongs to the one that stands. -/
def State.placeHeat (s : State) (w : HeatWant) : State :=
  if s.au.claims .heat then s else { s with au := { s.au with heat := some w } }

/-- A target by R82: present and not in FAULT. -/
def State.fit (s : State) (im : Image) (p : Pan) : Bool := (im.pan p).present && (s.pc p).state ≠ .fault

/-- The target system in NORMAL (R82): the expected one when it is live, else Q when it is live. Under a demand in force of NONE
the expected system is absent; it is read as ANY, so that with Q not live there is no target system (log 38, DESIGN CHOICE). -/
def State.targetSystem (s : State) : Option LineClass :=
  match s.pv.force.expected with
  | some (.sys c) => some c
  | _ => if s.lq.q.live then some s.lq.q else none

/-- A pantograph fits the target system; any does while there is none (R82). -/
def State.fitsTarget (s : State) (im : Image) (p : Pan) : Bool :=
  s.fit im p &&
    match s.targetSystem with
    | some c => (im.pan p).set.any fun set => set.contains c
    | none => true

/-- The target of a RAISE want with its source (R82). -/
def State.raiseTarget (s : State) (im : Image) : Option RaiseWant :=
  if s.cc.phase = .requalify then
    match s.cc.nextPan with
    | some p => if s.fit im p then some ⟨p, .changeover⟩ else none
    | none => none
  else if s.fitsTarget im .a then some ⟨.a, .demand⟩
  else if s.fitsTarget im .b then some ⟨.b, .demand⟩
  else none

/-- R82 names a target in this phase, whatever the demand in force (log 15). -/
def State.formsTarget (s : State) : Bool := s.cc.phase = .normal || s.cc.phase = .requalify

/-- An own pantograph in COLLECTING connection is RISING or UP. -/
def State.collectingUp (s : State) : Bool := (s.pcA.disc && s.pcA.risingOrUp) || (s.pcB.disc && s.pcB.risingOrUp)

/-- Conditions 1 to 5 of R82, under which a RAISE want is placed where none stands. -/
def State.mayPlaceRaise (s : State) : Bool :=
  s.good && !s.pv.learning && s.governingUp && !s.collectingUp && s.ds.latch.isEmpty &&
    (s.cc.phase = .normal || (s.cc.phase = .requalify && s.cc.raiseAsk))

/-- The events of R83 at which a standing RAISE want goes, whatever its target. -/
def State.raiseBarred (s : State) : Bool :=
  s.pv.force.pan = .down || !s.ds.latch.isEmpty || s.au.raise.any fun w => (s.pc w.pan).state = .fault

/-- A target takes the place of the RAISE want that stands, if any: under the conditions of R82 always; else only of a want
that stands already, and a want of source DEMAND does not become the CHANGEOVER want of R117, which is placed under those
conditions alone. -/
def State.takesTarget (s : State) (w : RaiseWant) : Bool :=
  s.mayPlaceRaise || s.au.raise.any fun old => w.source = .demand || old.source = .changeover

/-- The RAISE want by R82, R83 and R117. The target is formed at every event (log 15): a standing want takes it, or goes when
there is none; where no want stands, one is placed under the conditions of R82. -/
def State.reactRaise (s : State) (im : Image) : State :=
  let t := if s.raiseBarred && s.au.raise.isSome then s.dropWant .raise else s
  if t.formsTarget then
    match t.raiseTarget im with
    | none => if t.au.raise.isSome then t.dropWant .raise else t
    | some w =>
      if t.au.raise = some w then t
      else if t.takesTarget w then t.placeRaise w
      else t
  else t

/-- A conflict lowering mark clears when its pantograph reaches DOWN or enters FAULT (R97). -/
def State.clearMarks (s : State) : State :=
  let done (c : PC) : Bool := c.state = .down || c.state = .fault
  { s with au := { s.au with markA := s.au.markA && !done s.pcA, markB := s.au.markB && !done s.pcB } }

/-! ### Late conflict (R95 to R97) -/

/-- A pantograph is checked: RISING or UP with no lowering in progress (R95). -/
def PC.checked (c : PC) : Bool := c.risingOrUp && c.lowering.isNone

/-- The condition of R95 for a pantograph that is checked, against a list of peers' pantographs. -/
def conflictWith (f : Profile) (own : Seen) (peers : List Seen) : Bool :=
  let better := peers.filter fun x => panAhead x own
  let same := better.filter fun x => x.coll == own.coll
  own.e < f.leadExclusion ||
    if own.coll then
      f.maxCollecting ≤ same.length || same.any fun x => distance x.p own.p < f.minSpacing
    else f.maxScraping ≤ same.length

/-- An own pantograph is in late conflict (R95). -/
def State.lateConflict (s : State) (im : Image) (p : Pan) : Bool :=
  (im.pan p).present && (s.pc p).checked &&
    conflictWith (s.limits im) (s.ownSeen im p (s.pc p).disc) (s.peerPans im)

/-- A grace timer after an evaluation (R96). -/
def graceAfter (conflict : Bool) (t : Timer) : Timer :=
  if conflict then (if t.isSome then t else .started) else none

/-- Late conflict is evaluated for both pantographs (R96). -/
def State.evaluateConflict (s : State) (im : Image) : State :=
  { s with
    au := { s.au with
      graceA := graceAfter (s.lateConflict im .a) s.au.graceA,
      graceB := graceAfter (s.lateConflict im .b) s.au.graceB } }

/-- The expiry of a grace timer (R97). -/
def State.resolveConflict (s : State) (p : Pan) : State :=
  let t := (s.softLower p).request .peerConflict
  match p with
  | .a => { t with au := { t.au with markA := true, graceA := none } }
  | .b => { t with au := { t.au with markB := true, graceB := none } }

/-! ### Retry hold and notices of the Link Access Unit (R90, R93) -/

/-- The sent notice (R90): a claim in SENT with that serial is HOLDING. -/
def State.claimSent (s : State) (serial : Nat) : State :=
  if s.au.claim = .sent ∧ s.au.serial = serial then
    { s with au := { s.au with claim := .holding, holdOffT := .started } }
  else s

/-- The discard notice (R90): a claim in SENT with that serial is WAITING, and the retry hold starts. -/
def State.claimDiscarded (s : State) (serial : Nat) : State :=
  if s.au.claim = .sent ∧ s.au.serial = serial then
    { s with au := { s.au with claim := .waiting, body := none, retryT := .started } }
  else s

end Sys2Proof.Machine
end

