-- ==== Sys2Proof/Machine/DropSupervision.lean ====
section
/-! DEFINITION. The Drop Supervisor (07): latching, the causes, FORCED and EMERGENCY, restoration. -/

namespace Sys2Proof.Machine

/-! ### Latching and clearing (R151, R154) -/

/-- A condition is latched by its soft path, unless it is latched already (R151). -/
def State.latchSoft (s : State) (c : DropCondition) : State :=
  if s.ds.latch.get c then s else ((s.softLower .a).softLower .b).setLatch c

/-- EMERGENCY is latched by its fast path, unless it is latched already (R151). -/
def State.latchEmergency (s : State) : State :=
  if s.ds.latch.emergency then s else ((s.fastDrop .a).fastDrop .b).setLatch .emergency

/-- The drop set becomes another one by clearing; the DS stays in the hold-open set while any latch stands (R154). -/
def State.keepLatches (s : State) (d : DropSet) : State := { s with ds := { s.ds with latch := d } }.holdDS (!d.isEmpty)

/-- The cause state of a condition. -/
def State.setCause (s : State) (c : DropCondition) (v : Bool) : State :=
  { s with ds := { s.ds with cause := s.ds.cause.set c v } }

/-! ### Causes (R155, R157 to R161) -/

/-- ELOOP comes to read open (R155). -/
def State.eloopOpens (s : State) : State := ((s.setCause .emergency true).latchEmergency).request .emergency

/-- The FORCED cause at a handing-on of the demand in force (R157). -/
def State.judgeForced (s : State) : State :=
  let t := s.setCause .forced s.pv.force.forceDrop
  if s.pv.force.forceDrop then t.latchSoft .forced
  else if t.ds.latch.forced then t.keepLatches (t.ds.latch.set .forced false) else t

/-- A pantograph UP in COLLECTING connection whose set does not contain the live Q. -/
def State.wrongOn (s : State) (im : Image) (p : Pan) : Bool :=
  (s.pc p).upCollecting && s.lq.q.live && !(im.pan p).set.any fun set => set.contains s.lq.q

/-- The WRONG_SYSTEM cause (R158). -/
def State.wrongSystemCause (s : State) (im : Image) : Bool :=
  s.cc.phase = .normal && (s.wrongOn im .a || s.wrongOn im .b)

/-- The LINE_LOST cause (R160). -/
def State.lineLostCause (s : State) (im : Image) : Bool :=
  s.cc.phase = .normal && s.anyUpCollecting && im.nDead ≤ s.lq.deadCount

/-- The cause of a maskable condition as it stands, none for the others. -/
def State.maskableCause (s : State) (im : Image) : DropCondition → Bool
  | .wrongSystem => s.wrongSystemCause im
  | .controlSilent => s.pv.silent
  | .lineLost => s.lineLostCause im
  | .arcSevere => s.icu.severe
  | _ => false

/-- The mask of a maskable condition. -/
def DropMasks.get (m : DropMasks) : DropCondition → Bool
  | .wrongSystem => m.wrongSystem
  | .controlSilent => m.controlSilent
  | .lineLost => m.lineLost
  | .arcSevere => m.arcSevere
  | _ => false

/-- A maskable cause is judged (R152, R158 to R161): on becoming active it requests WRONG_SYSTEM, the one alert of these
that the DS owns, and latches its condition when the mask is ON. -/
def State.judgeCause (s : State) (im : Image) (c : DropCondition) : State :=
  let now := s.maskableCause im c
  let t := s.setCause c now
  if now && !s.ds.cause.get c then
    let u := if c = .wrongSystem then t.request .wrongSystem else t
    if im.masks.get c then u.latchSoft c else u
  else t

/-! ### Restoration (R162, R163) -/

/-- Some maskable condition is latched. -/
def DropSet.anyMaskable (d : DropSet) : Bool := d.wrongSystem || d.controlSilent || d.lineLost || d.arcSevere

/-- The conditions under which the restore timer runs (R162). -/
def State.restoring (s : State) (im : Image) : Bool :=
  let l := s.ds.latch
  let c := s.ds.cause
  im.autoRestore && l.anyMaskable &&
    !((l.wrongSystem && c.wrongSystem) || (l.controlSilent && c.controlSilent) || (l.lineLost && c.lineLost) ||
      (l.arcSevere && c.arcSevere))

/-- The drop set without its maskable conditions. -/
def DropSet.clearMaskable (d : DropSet) : DropSet :=
  { d with wrongSystem := false, controlSilent := false, lineLost := false, arcSevere := false }

/-- Every latched maskable condition is cleared, and the timer stands stopped (R162). -/
def State.restoreMaskable (s : State) : State :=
  let t := s.keepLatches s.ds.latch.clearMaskable
  { t with ds := { t.ds with restoreT := none } }

/-- The restore timer by its conditions (R162); a delay of 0 clears at once. -/
def State.formRestore (s : State) (im : Image) : State :=
  if s.restoring im then
    if im.restoreMs = 0 then s.restoreMaskable
    else { s with ds := { s.ds with restoreT := if s.ds.restoreT.isSome then s.ds.restoreT else .started } }
  else { s with ds := { s.ds with restoreT := none } }

/-- The AIR_LOSS latch of a pantograph clears at a RESTORE (R163). -/
def State.airRestored (s : State) (p : Pan) : Bool :=
  s.airOk p && ((s.pc p).state = .down || ((s.pc p).state = .fault && s.downSensor p))

/-- The latches left by a RESTORE (R163). -/
def State.restoredLatches (s : State) : DropSet :=
  let l := s.ds.latch
  let c := s.ds.cause
  { emergency := l.emergency && s.eloopOpen
    airLossA := l.airLossA && !s.airRestored .a
    airLossB := l.airLossB && !s.airRestored .b
    forced := l.forced
    wrongSystem := l.wrongSystem && c.wrongSystem
    controlSilent := l.controlSilent && c.controlSilent
    lineLost := l.lineLost && c.lineLost
    arcSevere := l.arcSevere && c.arcSevere }

/-- A RESTORE at the DS (R163). -/
def State.restoreDS (s : State) : State := s.keepLatches s.restoredLatches

/-- All that the DS judges by its own conditions once the configuration is good (R166). -/
def State.dsReact (s : State) (im : Image) : State :=
  ((((s.judgeCause im .wrongSystem).judgeCause im .controlSilent).judgeCause im .lineLost).judgeCause im
    .arcSevere).formRestore im

end Sys2Proof.Machine
end

