-- ==== Sys2Proof/Machine/IceClearing.lean ====
section
/-! DEFINITION. The Ice-Clearing Unit (06): mode and weather, arcs and rings, the ice state, heaters, scrape passes, severe
arcing; with it the three grants (R92), of which a HEAT grant is the unit's own. -/

namespace Sys2Proof.Machine

/-! ### Mode and weather (R127, R128) -/

/-- The ice mode taken at a handing-on of the demand in force (R127); a change while CLEARING restarts the clear streak
(R136). -/
def State.takeIceMode (s : State) : State :=
  match s.pv.force.ice with
  | none => s
  | some m =>
    if s.icu.mode = m then s
    else
      { s with
        icu := { s.icu with mode := m, clearStreak := if s.icu.state = .clearing then 0 else s.icu.clearStreak } }

/-- Cold for AUTO (R128). -/
def State.cold (s : State) (im : Image) : Bool := s.ioc.ambient.any fun t => t ≤ im.ambientLimit

/-- Warm for FORCED (R128). -/
def State.warm (s : State) : Bool := s.ioc.ambient.any fun t => Config.warmLimit < t

/-- The off condition (R134). -/
def State.iceOff (s : State) (im : Image) : Bool :=
  match s.icu.mode with
  | .off => true
  | .auto => !s.cold im
  | .forced => s.warm

/-- The phase is NORMAL or ARMED. -/
def Phase.early (p : Phase) : Bool := p = .normal ∨ p = .armed

/-- The hold condition (R134). -/
def State.iceHold (s : State) : Bool := !s.cc.phase.early || !s.bi.closed || !s.anyUpCollecting

/-! ### Arcs (R129 to R133) -/

/-- The sum of the arc pantograph's ring (R131). -/
def ICU.ringSum (u : ICU) : Nat :=
  match u.arcPan with
  | some .a => total u.ringA
  | some .b => total u.ringB
  | none => 0

/-- The arc sum is formed afresh. -/
def ICU.formSum (u : ICU) : ICU := { u with arcSum := u.ringSum }

/-- A ring advances: the oldest count leaves it and the window's enters. -/
def advanceRing (ring : List Nat) (count : Nat) : List Nat := ring.drop 1 ++ [count]

/-- The clear streak after a ring advance in CLEARING (R137). -/
def ICU.stepStreak (u : ICU) (tClear : Nat) : ICU :=
  if u.state = .clearing then
    { u with clearStreak := if u.arcSum ≤ tClear then satInc Config.clearAdvances u.clearStreak else 0 }
  else u

/-- Both rings advance (R130), and the clear streak with them. -/
def ICU.advance (u : ICU) (tClear : Nat) : ICU :=
  ({ u with
      ringA := advanceRing u.ringA u.winA, ringB := advanceRing u.ringB u.winB, winA := 0, winB := 0 } :
    ICU).formSum.stepStreak tClear

/-- A counted arc in the arc record (R132): LAST mode writes the fields at every arc, FIRST only into an empty record. -/
def ICU.recordArc (u : ICU) (last : Bool) (f : ArcFields) : ICU :=
  { u with
    arcCount := wrapInc 255 u.arcCount,
    arcFields := if last || u.arcFields.isNone then some f else u.arcFields }

/-- An arc edge of a pantograph (R129): counted only UP in COLLECTING connection. -/
def State.countArc (s : State) (im : Image) (p : Pan) : State :=
  if (s.pc p).upCollecting then
    let f : ArcFields := ⟨p, s.lq.windowNumber, s.ioc.distance, s.ioc.speed, s.lq.q⟩
    let u := s.icu.recordArc im.arcLast f
    match p with
    | .a => { s with icu := { u with winA := satInc 255 u.winA } }
    | .b => { s with icu := { u with winB := satInc 255 u.winB } }
  else s

/-- The arc pantograph becomes one that has just entered UP in COLLECTING connection (R131). -/
def State.takeArcPan (s t : State) : State :=
  if t.pcA.upCollecting && !s.pcA.upCollecting then { t with icu := ({ t.icu with arcPan := some .a } : ICU).formSum }
  else if t.pcB.upCollecting && !s.pcB.upCollecting then
    { t with icu := ({ t.icu with arcPan := some .b } : ICU).formSum }
  else t

/-- The abandoning event between two states (R17 to R19, R26): a window that holds a sample is thrown away with a notice
to the ICU; an empty one only loses its streak and dead count. -/
def State.abandonWindow (s : State) : State :=
  let t := { s with lq := s.lq.abandon }
  match s.cl.image with
  | some im => if 0 < s.lq.index then { t with icu := t.icu.advance im.tClear } else t
  | none => t

/-- What a change of the roof wiring from one state to another asks of the LQ and of the arc pantograph. -/
def State.wiring (s t : State) : State := s.takeArcPan (if wiringChanged s t then t.abandonWindow else t)

/-! ### Heaters (R139 to R142) -/

/-- A heater may stay on (R141): CLEARING, its pantograph UP, the breaker CLOSED and the phase NORMAL or ARMED. -/
def State.heaterMayRun (s : State) (p : Pan) : Bool :=
  s.icu.state = .clearing && (s.pc p).state = .up && s.bi.closed && s.cc.phase.early

/-- The rating of a pantograph's heater. -/
def Image.rating (i : Image) (p : Pan) : Nat := (i.pan p).rating

/-- The sum of the ratings of the heaters that are on (R142). -/
def drawOf (im : Image) (heaterA heaterB : Bool) : Nat :=
  (if heaterA then im.rating .a else 0) + if heaterB then im.rating .b else 0

/-- The heaters that may not run are switched off, and the draw is formed (R141, R142). -/
def State.guardHeaters (s : State) (im : Image) : State :=
  let a := s.icu.heaterA && s.heaterMayRun .a
  let b := s.icu.heaterB && s.heaterMayRun .b
  { s with icu := { s.icu with heaterA := a, heaterB := b, draw := drawOf im a b } }

/-- A pantograph is fit for a heat target in a given connection (R139). -/
def State.heatable (s : State) (im : Image) (coll : Bool) (p : Pan) : Bool :=
  (s.pc p).state = .up && (s.pc p).disc == coll && (s.pc p).lowering.isNone && !s.icu.heater p && 0 < im.rating p

/-- The heat target (R139): the collecting pantograph, else the isolated one. -/
def State.heatTarget (s : State) (im : Image) : Option Pan :=
  if s.heatable im true .a then some .a
  else if s.heatable im true .b then some .b
  else if s.heatable im false .a then some .a
  else if s.heatable im false .b then some .b
  else none

/-- The heat target is formed afresh (R139): a want is placed or replaced, or with no target removed, but one whose claim is
open stays until the claim is granted or withdrawn (log 33, DEDUCED). -/
def State.formHeat (s : State) (im : Image) : State :=
  match s.heatTarget im with
  | some p => if s.au.heat = some ⟨p, im.rating p⟩ then s else s.placeHeat ⟨p, im.rating p⟩
  | none => if s.au.heat.isSome && !s.au.claims .heat then s.dropWant .heat else s

/-- What the events of R139 change: the state, connection and lowering of both pantographs, and both heaters. -/
def State.heatInputs (s : State) : (PanState × Bool × Option Lowering) × (PanState × Bool × Option Lowering) × Bool × Bool :=
  ((s.pcA.state, s.pcA.disc, s.pcA.lowering), (s.pcB.state, s.pcB.disc, s.pcB.lowering), s.icu.heaterA, s.icu.heaterB)

/-- An event, up to its present state, is one of those at which the heat target is formed (R139). CLEARING that is left and
entered again in one event has lost its want, and shows it by that. -/
def State.heatEvent (before s : State) : Bool :=
  s.icu.state = .clearing &&
    (before.icu.state ≠ .clearing || before.heatInputs ≠ s.heatInputs || s.au.heat.isNone)

/-- The HEAT want of a CLEARING unit (R139), at the events that the rule lists and at no other (log 36). -/
def State.reactHeat (before : State) (im : Image) (s : State) : State :=
  if before.heatEvent s then s.formHeat im else s

/-! ### Scrape passes (R143 to R146) -/

/-- The conditions of R143 for a scraping pantograph: the other one collects, and this one is DOWN ahead of it. -/
def State.mayScrape (s : State) (im : Image) (p : Pan) : Bool :=
  s.icu.state = .clearing && (s.pc p.other).upCollecting && (s.pc p.other).lowering.isNone &&
    (im.pan p).present && (s.pc p).state = .down && s.lead im p < s.lead im p.other &&
    s.cc.phase = .normal && 0 < (s.limits im).maxScraping && s.icu.cooldown.isNone && s.icu.scrape.isNone

/-- The SCRAPE want by R138 and R143. -/
def State.reactScrape (s : State) (im : Image) : State :=
  match if s.mayScrape im .a then some Pan.a else if s.mayScrape im .b then some Pan.b else none with
  | some p =>
    if s.au.scrape = some p then s
    else if s.au.scrape.isSome then (s.dropWant .scrape).placeScrape p
    else s.placeScrape p
  | none => if s.au.scrape.isSome then s.dropWant .scrape else s

/-- The scrape countdown is loaded when the scraping pantograph reaches UP (R144). -/
def State.loadScrape (s : State) (im : Image) : State :=
  match s.icu.scrape with
  | some p =>
    if (s.pc p).state = .up ∧ s.icu.scrapeCount = none then
      { s with icu := { s.icu with scrapeCount := some (im.scrapeDist * im.ppm) } }
    else s
  | none => s

/-- The cooldown in pulses; a distance of 0 loads nothing (R146). -/
def Image.cooldownPulses (i : Image) : Option Nat :=
  if i.cooldownDist * i.ppm = 0 then none else some (i.cooldownDist * i.ppm)

/-- The end of the pass (R145): a soft lower request, both countdowns, and the pass is NONE. -/
def State.endScrape (s : State) (im : Image) (p : Pan) : State :=
  let t := s.softLower p
  { t with icu := { t.icu with scrape := none, scrapeCount := none, cooldown := im.cooldownPulses } }

/-- A RUNNING pass may go on (R145). -/
def State.scrapeGoesOn (s : State) (p : Pan) : Bool :=
  s.icu.state = .clearing && (s.pc p.other).upCollecting && s.cc.phase = .normal && (s.pc p).risingOrUp

/-- A RUNNING pass ends at the first event that breaks its conditions (R145). -/
def State.reactPass (s : State) (im : Image) : State :=
  match s.icu.scrape with
  | some p => if s.scrapeGoesOn p then s else s.endScrape im p
  | none => s

/-- One odometer pulse at the scrape countdown (R144, R145). -/
def State.countScrape (s : State) (im : Image) : State :=
  match s.icu.scrapeCount with
  | some n =>
    if n ≤ 1 then
      match s.icu.scrape with
      | some p => s.endScrape im p
      | none => { s with icu := { s.icu with scrapeCount := none } }
    else { s with icu := { s.icu with scrapeCount := some (n - 1) } }
  | none => s

/-- One odometer pulse at the cooldown countdown (R146). -/
def State.countCooldown (s : State) : State :=
  match s.icu.cooldown with
  | some n => { s with icu := { s.icu with cooldown := if n ≤ 1 then none else some (n - 1) } }
  | none => s

/-! ### The ice state (R135) -/

/-- A CLEARING state ends by its rows of R135: off, hold, or in AUTO a clear streak that has reached 16. -/
def State.clearingEnds (s : State) (im : Image) : Bool :=
  s.iceOff im || s.iceHold || (s.icu.mode = .auto && decide (Config.clearAdvances ≤ s.icu.clearStreak))

/-- The state that an ICU takes which does not stay in CLEARING (R135); a move into WATCH is followed at once by the WATCH
rows. -/
def State.nextIce (s : State) (im : Image) : IceState :=
  if s.iceOff im then .off
  else if s.iceHold then .suspended
  else if s.icu.mode = .forced then .clearing
  else if im.tIce ≤ s.icu.arcSum then .clearing
  else .watch

/-- Every heater is off, and with them the draw is 0 (R141, R142). -/
def State.heatersOff (s : State) : State := { s with icu := { s.icu with heaterA := false, heaterB := false, draw := 0 } }

/-- A RUNNING scrape pass ends (R145). -/
def State.endPass (s : State) (im : Image) : State :=
  match s.icu.scrape with
  | some p => s.endScrape im p
  | none => s

/-- The exit from CLEARING (R138): the SCRAPE and HEAT wants go, with a claim of theirs, every heater is off, and a RUNNING
pass ends. -/
def State.leaveClearing (s : State) (im : Image) : State :=
  ((s.dropWant .scrape).dropWant .heat).heatersOff.endPass im

/-- A change of the ice state brings a STATUS forward (R135, R180) also where CLEARING is left and entered again in the same
event, which the announced field does not show. -/
def State.markPending (s : State) : State := { s with lau := { s.lau with statusPending := true } }

/-- The ice state moves; the clear streak is 0 outside CLEARING and at its entry (R136, R137). CLEARING left for WATCH with the
arc sum at T_ice is entered again at once, with all that the exit and the entry ask (R135, R136, R138). -/
def State.formIce (s : State) (im : Image) : State :=
  if s.icu.state = .clearing then
    if s.clearingEnds im then
      let t := s.leaveClearing im
      let next := s.nextIce im
      let u := { t with icu := { t.icu with state := next, clearStreak := 0 } }
      if next = .clearing then u.markPending else u
    else s
  else { s with icu := { s.icu with state := s.nextIce im, clearStreak := 0 } }

/-! ### Severe arcing (R147) -/

/-- The arc-severe condition is judged; on becoming active it requests ARC_SEVERE. -/
def State.judgeSevere (s : State) (im : Image) : State :=
  let now : Bool := im.tSevere ≤ s.icu.arcSum
  let t := { s with icu := { s.icu with severe := now } }
  if now && !s.icu.severe then t.request .arcSevere else t

/-- What the ICU asks by its own conditions, but for its wants. -/
def State.icuReact (s : State) (im : Image) : State :=
  ((((s.judgeSevere im).formIce im).guardHeaters im).reactPass im).loadScrape im

/-! ### Grants (R92, R140, R144) -/

/-- The ICU takes a HEAT grant (R140). -/
def State.heatTaken (s : State) (p : Pan) : Bool :=
  s.icu.state = .clearing && (s.pc p).state = .up && (s.pc p).lowering.isNone && !s.icu.heater p && s.bi.closed &&
    s.cc.phase.early

/-- A heater is switched on and the draw formed (R140, R142). -/
def State.heaterOn (s : State) (im : Image) (p : Pan) : State :=
  let a := s.icu.heaterA || p = .a
  let b := s.icu.heaterB || p = .b
  { s with icu := { s.icu with heaterA := a, heaterB := b, draw := drawOf im a b } }

/-- The receiving block takes the grant of a claim. -/
def State.taken (s : State) (h : Head) : Bool :=
  match h.kind with
  | .raise => s.grantTaken h.pan true
  | .scrape => s.grantTaken h.pan false
  | .heat => s.heatTaken h.pan

/-- What a taken grant does; its want leaves the list (R92), and a SCRAPE begins its pass (R144). -/
def State.act (s : State) (im : Image) (h : Head) : State :=
  match h.kind with
  | .raise =>
    let t := s.raisePan h.pan true
    { t with au := { t.au with raise := none } }
  | .scrape =>
    let t := s.raisePan h.pan false
    { t with au := { t.au with scrape := none }, icu := { t.icu with scrape := some h.pan } }
  | .heat =>
    let t := s.heaterOn im h.pan
    { t with au := { t.au with heat := none } }

/-- The grant (R92, R93): the claim is NONE; a refusal keeps the want and starts the retry hold. -/
def State.grant (s : State) (im : Image) (h : Head) : State :=
  let t := { s with au := { s.au with claim := .none, body := none, holdOffT := none } }
  if s.taken h then t.act im h else { t with au := { t.au with retryT := .started } }

/-- The expiry of the hold-off timer in HOLDING (R92): the final test, then the grant or the withdrawal. -/
def State.holdOffEnd (s : State) (im : Image) : State :=
  match s.au.head with
  | some h => if s.passes im h then s.grant im h else s.withdraw
  | none => s

end Sys2Proof.Machine
end

