-- ==== Sys2Proof/Machine/Frames.lean ====
section
/-! DEFINITION. The frames that the station sends: the STATUS and RECORD snapshots (R187, R188) and the bytes of every roof
frame (chapter 12). -/

namespace Sys2Proof.Machine

/-! ### Codes (section 12.6) -/

/-- The pantograph letter's code. -/
def panCode : Pan → Nat
  | .a => 0
  | .b => 1

/-- The pantograph state codes. -/
def PanState.code : PanState → Nat
  | .down => 0
  | .rising => 1
  | .up => 2
  | .lowering => 3
  | .fault => 4

/-- The window reason codes. -/
def WindowReason.code : WindowReason → Nat
  | .ok => 0
  | .samples => 1
  | .clip => 2

/-- The changeover phase codes. -/
def Phase.code : Phase → Nat
  | .normal => 0
  | .armed => 1
  | .opening => 2
  | .stowing => 3
  | .coasting => 4
  | .requalify => 5
  | .closing => 6
  | .aborted => 7

/-- The ice state codes. -/
def IceState.code : IceState → Nat
  | .off => 0
  | .watch => 1
  | .clearing => 2
  | .suspended => 3

/-- The fault cause codes. -/
def faultCode : Option FaultCause → Nat
  | none => 0
  | some .raiseTimeout => 1
  | some .lowerTimeout => 2
  | some .heightLoss => 3
  | some .uncommandedDown => 4
  | some .airLoss => 5

/-- The restart cause codes. -/
def RestartCause.code : RestartCause → Nat
  | .none => 0
  | .powerOn => 1
  | .resetLine => 2

/-- The direction view's bit. -/
def Direction.code : Direction → Nat
  | .end1 => 0
  | .end2 => 1

/-- The claim kind codes (section 12.3). -/
def ClaimKind.code : ClaimKind → Nat
  | .raise => 1
  | .scrape => 2
  | .heat => 3

/-- A drop set in the drop bit order. -/
def DropSet.code (d : DropSet) : Nat :=
  bit d.emergency + 2 * bit d.airLossA + 4 * bit d.airLossB + 8 * bit d.forced + 16 * bit d.wrongSystem +
    32 * bit d.controlSilent + 64 * bit d.lineLost + 128 * bit d.arcSevere

/-! ### Snapshots -/

/-- F as STATUS reports it (R11): centihertz saturated to 65535, 0 for absent. -/
def shownFreq (f : Option Nat) : Nat :=
  match f with
  | some f => min (f / 10) 65535
  | none => 0

/-- The STATUS period in force, ms (R179). -/
def State.statusMs (s : State) : Nat :=
  match s.cl.image with
  | some im => im.tsMs
  | none => Config.faultPeriodMs

/-- A pantograph's fields of STATUS. What belongs to the image has no stated value before the configuration is good and
is then free (log 8). -/
def State.panStatus (s : State) (p : Pan) : PanStatus where
  present := match s.cl.image with
    | some im => (im.pan p).present
    | none => Config.unknownPresent s.freeCount p
  heater := s.icu.heater p
  state := (s.pc p).state
  coll := (s.pc p).disc
  p := match s.cl.image with
    | some im => (im.pan p).p
    | none => Config.unknownPosition s.freeCount p
  set := match s.cl.image with
    | some im => setCode (im.pan p).set
    | none => Config.unknownSet s.freeCount p

/-- The open claim as STATUS carries it; none outside SENT and HOLDING (R188). -/
def AU.openClaimField (a : AU) : Option OpenClaim :=
  if a.claimOpen then a.body.map fun b => ⟨b.kind, b.pan, a.serial, b.amount⟩ else none

/-- The snapshot of a STATUS frame (R188). -/
def State.statusSnapshot (s : State) : StatusFrame where
  interval := s.statusMs / 10
  configFault := !s.good
  learning := s.pv.learning
  view := s.ioc.view
  cause := if s.pv.learning then s.cl.cause else .none
  panA := s.panStatus .a
  panB := s.panStatus .b
  q := s.lq.q
  phase := s.cc.phase
  sectionId := s.cc.shownId
  windowClass := s.lq.result.cls
  windowReason := s.lq.result.reason
  rac := s.lq.result.rac
  mean := s.lq.result.mean
  freq := shownFreq s.lq.result.freq
  draw := s.icu.draw
  drop := s.ds.latch
  top := s.al.top
  speed := s.ioc.speed
  ice := s.icu.state
  claim := s.au.openClaimField
  arcSum := min s.icu.arcSum 255

/-- The snapshot of a RECORD frame (R187). -/
def State.recordSnapshot (s : State) : RecordFrame where
  requests := s.al.flags
  latches := s.ds.latch
  faultA := s.pcA.fault
  faultB := s.pcB.fault
  rxErrors := s.lau.rxErrors
  collisions := s.lau.collisions
  txDrops := s.lau.txDrops
  missedSeq := s.pv.missedSeq
  invalid := s.lq.result.invalid
  clipped := s.lq.result.clipped
  arcCount := s.icu.arcCount
  lastMode := match s.cl.image with
    | some im => im.arcLast
    | none => false
  arc := s.icu.arcFields

/-! ### Payload bytes (sections 12.2, 12.3, 12.5) -/

/-- A number as one byte. -/
def byteOf (n : Nat) : Byte := BitVec.ofNat 8 n

/-- The flags byte of one pantograph. -/
def PanStatus.flags (p : PanStatus) : Byte :=
  byteOf (bit p.present + 2 * bit p.heater + 4 * p.state.code + 32 * bit p.coll)

/-- The three bytes of one pantograph. -/
def PanStatus.bytes (p : PanStatus) : List Byte := p.flags :: bytes16 (p.p % 4096 + 4096 * (p.set % 4))

/-- Byte 19: the top alert. Its kind and level bits are not stated while none is present, and are then free (log 9). -/
def topByte : Option (AlertKind × Nat) → Byte
  | some (k, l) => byteOf (k.number + 16 * (l % 8) + 128)
  | none => byteOf (Config.absentAlertBits % 128)

/-- Bytes 23 to 26: the open claim, all 0 with kind NONE. -/
def openClaimBytes : Option OpenClaim → List Byte
  | some c => [byteOf (c.kind.code + 4 * panCode c.pan), byteOf c.serial] ++ bytes16 c.amount
  | none => [0, 0, 0, 0]

/-- The payload of a STATUS (section 12.2). -/
def StatusFrame.payload (f : StatusFrame) : List Byte :=
  [byteOf f.interval,
    byteOf (bit f.configFault + 2 * bit f.learning + 4 * f.view.code + 8 * f.cause.code)] ++
  f.panA.bytes ++ f.panB.bytes ++
  [byteOf (f.q.code + 16 * f.phase.code), byteOf f.sectionId,
    byteOf (f.windowClass.code + 16 * f.windowReason.code)] ++
  bytes16 f.rac ++ bytes16 (f.mean % 65536).toNat ++ bytes16 f.freq ++
  [byteOf f.draw, byteOf f.drop.code, topByte f.top] ++ bytes16 f.speed ++ [byteOf f.ice.code] ++
  openClaimBytes f.claim ++ [byteOf f.arcSum]

/-- The payload of a CLAIM (section 12.3). -/
def ClaimFrame.payload (c : ClaimFrame) : List Byte :=
  [byteOf c.serial, byteOf c.kind.code, byteOf (panCode c.pan)] ++ bytes16 c.p ++ bytes16 c.amount ++ [byteOf c.holdOff]

/-- The ten further bytes of a RECORD whose arc record holds fields (R207). -/
def ArcFields.bytes (a : ArcFields) : List Byte :=
  byteOf (panCode a.pan) :: bytes16 a.window ++ bytes32 a.distance ++ bytes16 a.speed ++ [byteOf a.q.code]

/-- The payload of a RECORD (section 12.5, R207). -/
def RecordFrame.payload (r : RecordFrame) : List Byte :=
  bytes16 r.requests.toNat ++ [byteOf r.latches.code, byteOf (faultCode r.faultA + 16 * faultCode r.faultB)] ++
  bytes16 r.rxErrors ++ bytes16 r.collisions ++ bytes16 r.txDrops ++ bytes16 r.missedSeq ++
  bytes16 r.invalid ++ bytes16 r.clipped ++
  [byteOf r.arcCount, byteOf (bit r.lastMode + 2 * bit r.arc.isSome)] ++
  match r.arc with
  | some a => a.bytes
  | none => []

/-- The type byte of a roof frame. -/
def Frame.type : Frame → Byte
  | .withdraw _ => typeWithdraw
  | .claim _ => typeClaim
  | .status _ => typeStatus
  | .record _ => typeRecord

/-- The payload of a roof frame. -/
def Frame.payload : Frame → List Byte
  | .withdraw serial => [byteOf serial]
  | .claim c => c.payload
  | .status f => f.payload
  | .record r => r.payload

/-- The bytes on the line of an attempt of the station at an address, header to CRC. -/
def Attempt.lineBytes (a : Attempt) (addr : Addr) : List Byte :=
  frameBytes a.frame.type ⟨addr, .roof, byteOf a.seq⟩ a.frame.payload

end Sys2Proof.Machine
end

