-- ==== Sys2Proof/Machine/LineAccess.lean ====
section
/-! DEFINITION. The Link Access Unit (08): the transmit queue and its attempts, receive errors and the error period, the
STATUS schedule, and the placing of RECORD. -/

namespace Sys2Proof.Machine

/-! ### Placing STATUS and RECORD (R168, R179, R180, R186) -/

/-- A STATUS is placed with a fresh snapshot; the countdown restarts from the full period (R179). Each placing before the
configuration is good takes new free values (log 8). -/
def State.placeStatus (s : State) : State :=
  { s with
    lau := { s.lau with
      stSlot := some ⟨s.statusSnapshot, 0, none⟩, statusT := .started, statusPending := false },
    freeCount := if s.good then s.freeCount else s.freeCount + 1 }

/-- A STATUS is asked for (R179, R180): it replaces one that waits; in an empty slot the gap decides. Nothing is sent
before the first verdict on the record (R181), until which the countdown is stopped. -/
def State.askStatus (s : State) : State :=
  if s.lau.statusT.isNone then s
  else if s.lau.stSlot.isSome || s.lau.gapT.isNone then s.placeStatus
  else { s with lau := { s.lau with statusPending := true } }

/-- A RECORD is placed with a snapshot of its fields (R186). -/
def State.placeRecord (s : State) (f : RecordFrame) : State :=
  { s with lau := { s.lau with rcSlot := some ⟨f, 0, none⟩ } }

/-! ### Starting an attempt (R169, R170) -/

/-- The frame chosen for the next attempt, with its failed attempts, its sequence number and its access class. -/
structure Chosen where
  frame : Frame
  fails : Nat
  seq : Option Nat
  cls : Nat
  deriving DecidableEq, Repr

/-- The first occupied slot in the order WITHDRAW, CLAIM, STATUS, RECORD (R169). -/
def LAU.chosen (l : LAU) : Option Chosen :=
  match l.wdSlot, l.clSlot, l.stSlot, l.rcSlot with
  | some w, _, _, _ => some ⟨.withdraw w.frame, w.fails, w.seq, 0⟩
  | none, some c, _, _ => some ⟨.claim c.frame, c.fails, c.seq, 0⟩
  | none, none, some f, _ => some ⟨.status f.frame, f.fails, f.seq, 1⟩
  | none, none, none, some r => some ⟨.record r.frame, r.fails, r.seq, 2⟩
  | none, none, none, none => none

/-- The delay after the sixteen idle bit times (R170). -/
def accessDelay (addr : Addr) (cls fails : Nat) : Nat :=
  if fails = 0 then 8 * cls + addr.toNat else (addr.toNat + 1) * 4 + fails * 32

/-- The slot of a frame's type is emptied, its frame being on the line. -/
def LAU.leaveSlot (l : LAU) : Frame → LAU
  | .withdraw _ => { l with wdSlot := none }
  | .claim _ => { l with clSlot := none }
  | .status _ => { l with stSlot := none, gapT := .started }
  | .record _ => { l with rcSlot := none }

/-- An attempt starts (R169, R170): the first attempt of a frame gives it its sequence number; a STATUS starts the gap. -/
def LAU.start (l : LAU) (addr : Addr) (idle : Nat) : LAU :=
  match l.onLine, l.chosen with
  | none, some c =>
    if Config.idleBits + accessDelay addr c.cls c.fails ≤ idle then
      let t := l.leaveSlot c.frame
      match c.seq with
      | some n => { t with onLine := some ⟨c.frame, c.fails, n⟩ }
      | none => { t with onLine := some ⟨c.frame, c.fails, l.seq⟩, seq := wrapInc 255 l.seq }
    else l
  | _, _ => l

/-! ### Ends of an attempt (R171 to R173) -/

/-- The end mark read back with no mismatch (R171): a CLAIM gives its sent notice. -/
def State.attemptEnds (s : State) : State :=
  match s.lau.onLine with
  | some a =>
    let t := { s with lau := { s.lau with onLine := none } }
    match a.frame with
    | .claim c => t.claimSent c.serial
    | _ => t
  | none => s

/-- The WITHDRAW slot without a WITHDRAW of a serial. -/
def LAU.dropWithdraw (l : LAU) (serial : Nat) : LAU :=
  if l.wdSlot.any fun w => w.frame == serial then { l with wdSlot := none } else l

/-- A WITHDRAW of a serial waits. -/
def LAU.withdraws (l : LAU) (serial : Nat) : Bool := l.wdSlot.any fun w => w.frame == serial

/-- A frame goes back to its slot when that is empty; else the newer frame there supersedes it (R172). A CLAIM whose
WITHDRAW waits is removed together with it. -/
def LAU.giveBack (l : LAU) (a : Attempt) (fails : Nat) : LAU :=
  match a.frame with
  | .withdraw n => if l.wdSlot.isSome then l else { l with wdSlot := some ⟨n, fails, some a.seq⟩ }
  | .claim c =>
    if l.clSlot.isSome then l
    else if l.withdraws c.serial then l.dropWithdraw c.serial
    else { l with clSlot := some ⟨c, fails, some a.seq⟩ }
  | .status f => if l.stSlot.isSome then l else { l with stSlot := some ⟨f, fails, some a.seq⟩ }
  | .record r => if l.rcSlot.isSome then l else { l with rcSlot := some ⟨r, fails, some a.seq⟩ }

/-- LINK_DEGRADED is requested and its cause made active (R178). -/
def State.degrade (s : State) : State := { s with lau := { s.lau with degraded := true } }.request .linkDegraded

/-- A frame is discarded at its eighth failed attempt (R173). -/
def State.discard (s : State) (a : Attempt) : State :=
  let t := { s with lau := { s.lau with txDrops := satInc 65535 s.lau.txDrops, periodDrop := true } }.degrade
  match a.frame with
  | .claim c => ({ t with lau := t.lau.dropWithdraw c.serial } : State).claimDiscarded c.serial
  | _ => t

/-- A failed attempt (R172). -/
def State.attemptFails (s : State) : State :=
  match s.lau.onLine with
  | some a =>
    let t := { s with
      lau := { s.lau with onLine := none, collisions := satInc 65535 s.lau.collisions } }
    if Config.maxAttempts ≤ a.fails + 1 then t.discard a
    else { t with lau := t.lau.giveBack a (a.fails + 1) }
  | none => s

/-! ### Receive errors and the error period (R174, R177, R178) -/

/-- A receive error is counted in the counter and in the error period; the sixteenth of a period degrades the line. -/
def State.countError (s : State) : State :=
  let t := { s with
    lau := { s.lau with
      rxErrors := satInc 65535 s.lau.rxErrors, periodErrors := satInc Config.errorLimit s.lau.periodErrors } }
  if s.lau.periodErrors < Config.errorLimit ∧ t.lau.periodErrors = Config.errorLimit then t.degrade else t

/-- The end of an error period (R177, R178): a clean one makes the degraded cause inactive. -/
def LAU.endPeriod (l : LAU) : LAU :=
  { l with
    degraded := l.degraded && (Config.errorLimit ≤ l.periodErrors || l.periodDrop),
    periodErrors := 0, periodDrop := false, periodClock := 0 }

/-- A good frame that carries the station's own address is its echo when it is the frame now on the line (R175, log 18). -/
def LAU.echo (l : LAU) (ty : Byte) (h : RxHeader) (payload : List Byte) : Bool :=
  l.onLine.any fun a =>
    a.frame.type == ty && h.kind == .roof && byteOf a.seq == h.seq && a.frame.payload == payload

end Sys2Proof.Machine
end

