-- ==== Sys2Proof/Machine/PeerView.lean ====
section
/-! DEFINITION. The Peer View (03): the table and its entries, what each frame puts there, the demand in force and its
handing-on, toggles, silence and learning. -/

namespace Sys2Proof.Machine

/-! ### The table (R54) -/

/-- The entry of an address. -/
def findEntry (table : List Entry) (addr : Addr) : Option Entry := table.find? fun e => e.addr == addr

/-- The table with an entry put in at its address, in rising order. -/
def putEntry (e : Entry) : List Entry → List Entry
  | [] => [e]
  | x :: xs =>
    if e.addr.toNat < x.addr.toNat then e :: x :: xs
    else if e.addr = x.addr then e :: xs
    else x :: putEntry e xs

/-- The table without the entry of an address. -/
def dropEntry (table : List Entry) (addr : Addr) : List Entry := table.filter fun e => e.addr != addr

/-- The kind of an entry. -/
def EntryBody.kind : EntryBody → NodeKind
  | .roof _ => .roof
  | .control _ => .control

/-- A ROOF entry before its first STATUS (section 3.1). -/
def RoofData.fresh : RoofData where
  interval := Config.defaultIntervalMs
  recA := none
  recB := none
  draw := 0
  configFault := false
  claim := none

/-- A CONTROL entry before its first DEMAND. -/
def ControlData.fresh : ControlData where
  demand := ⟨false, false, false, .any, none, none⟩
  toggles := none

/-- The body of a new entry of a kind. -/
def freshBody : NodeKind → EntryBody
  | .roof => .roof .fresh
  | .control => .control .fresh

/-- A new LEARNING entry made by a frame (R54). -/
def newEntry (h : RxHeader) : Entry where
  addr := h.src
  state := .learning
  lastSeq := h.seq.toNat
  age := 0
  lostAge := none
  body := freshBody h.kind

/-- An entry refreshed by a frame of its own kind (R55). -/
def Entry.refresh (e : Entry) (h : RxHeader) : Entry :=
  { e with lastSeq := h.seq.toNat, age := 0, state := .valid, lostAge := none }

/-- The entry that a frame is taken into: refreshed, replaced on a change of kind (R58), or new. -/
def entryFor (table : List Entry) (h : RxHeader) : Entry :=
  match findEntry table h.src with
  | some e => if e.body.kind = h.kind then e.refresh h else newEntry h
  | none => newEntry h

/-- A frame changes the kind of the entry at its address (R58). -/
def kindChanges (table : List Entry) (h : RxHeader) : Bool :=
  (findEntry table h.src).any fun e => e.body.kind ≠ h.kind

/-! ### The demand in force (R65, R67, R68) -/

/-- The demand record of an active entry: VALID, CONTROL, with the active flag set. -/
def Entry.active (e : Entry) : Option DemandRecord :=
  match e.state, e.body with
  | .valid, .control c => if c.demand.active then some c.demand else none
  | _, _ => none

/-- The active entries, in address order. -/
def activeEntries (table : List Entry) : List (Addr × DemandRecord) :=
  table.filterMap fun e => e.active.map fun d => (e.addr, d)

/-- The section record with the smallest distance, the first of equals. -/
def nearest : List SectionRecord → Option SectionRecord
  | [] => none
  | r :: rs =>
    match nearest rs with
    | some r' => if r'.dist < r.dist then some r' else some r
    | none => some r

/-- The merged section record (R68): the nearest, its next system UNKNOWN unless all agree. -/
def mergedSection (l : List SectionRecord) : Option SectionRecord :=
  (nearest l).map fun r => if l.all fun q => q.next == r.next then r else { r with next := .unknown }

/-- The common expected system of the active records, else ANY (R68). -/
def mergedExpected : List DemandRecord → Expected
  | [] => .any
  | d :: ds => if ds.all fun x => x.expected == d.expected then d.expected else .any

/-- The merged demand of the active records (R68). -/
def mergedDemand (held : Option IceMode) (ds : List DemandRecord) : DemandInForce where
  presence := .merged
  pan := if ds.any fun d => !d.up then .down else .hold
  forceDrop := ds.any fun d => d.forceDrop
  expected := some (mergedExpected ds)
  ice := held
  sect := mergedSection (ds.filterMap fun d => d.sect)

/-- A governing demand (R65). -/
def governingDemand (d : DemandRecord) : DemandInForce where
  presence := .governing
  pan := if d.up then .up else .down
  forceDrop := d.forceDrop
  expected := some d.expected
  ice := d.ice
  sect := d.sect

/-- The ice mode held through a conflict (R67): recorded at its beginning. -/
def PV.held (v : PV) : Option IceMode := if v.force.presence = .merged then v.heldIce else v.force.ice

/-- The demand in force is formed from the active entries (R65). -/
def PV.form (v : PV) : PV :=
  match activeEntries v.table with
  | [] => { v with force := .absent, governing := none, heldIce := none }
  | [(a, d)] => { v with force := governingDemand d, governing := some a, heldIce := none }
  | l => { v with force := mergedDemand v.held (l.map (·.2)), governing := none, heldIce := v.held }

/-- The demand in force is formed afresh; a conflict that begins requests CONTROL_CONFLICT (R67). -/
def State.formDemand (s : State) : State :=
  let t := { s with pv := s.pv.form }
  if t.pv.force.presence = .merged ∧ s.pv.force.presence ≠ .merged then t.request .controlConflict else t

/-! ### Handing on (R65, R69) -/

/-- A demand that comes to be DOWN asks for both soft lowerings (R84). -/
def State.lowerOnDown (old : DemandInForce) (s : State) : State :=
  if s.pv.force.pan = .down ∧ old.pan ≠ .down then (s.softLower .a).softLower .b else s

/-- A RESTORE at the Pantograph Controllers and the Drop Supervisor (R45, R163). -/
def State.restoreAll (s : State) (restore : Bool) : State :=
  if restore then ((s.restorePan .a).restorePan .b).restoreDS else s

/-- The demand in force is handed on to its readers, with a RESTORE that comes with it (log 7), during the learning period
too (R70), in which the Changeover Controller takes no section record (R126). -/
def State.handOn (s : State) (im : Image) (old : DemandInForce) (restore : Bool) : State :=
  (((((s.judgeForced).restoreAll restore).ccHanded im s.pv.force restore).lowerOnDown old)).takeIceMode

/-- The demand in force after a change of the table that no DEMAND made: handed on when the active entries changed. -/
def State.tableChanged (s : State) (im : Image) (table : List Entry) : State :=
  let changed : Bool := (activeEntries table).map (·.1) ≠ (activeEntries s.pv.table).map (·.1)
  let t := ({ s with pv := { s.pv with table := table } } : State).formDemand
  if changed then t.handOn im s.pv.force false else t

/-! ### Frames of roof stations (R55, R59, R60, R62, R63) -/

/-- What the missed-sequence counter gains from a STATUS (R59). -/
def missed (old : Option Entry) (h : RxHeader) (learning : Bool) : Nat :=
  match old with
  | some e =>
    if e.state = .valid ∧ e.body.kind = .roof ∧ learning = false then (h.seq.toNat + 256 - e.lastSeq) % 256 - 1 else 0
  | none => 0

/-- A STATUS taken into a roof entry (R60, R63). -/
def RoofData.takeStatus (r : RoofData) (c : StatusContent) : RoofData where
  interval := c.interval
  recA := if c.configFault then none else some c.recA
  recB := if c.configFault then none else some c.recB
  draw := if c.configFault then 0 else c.draw
  configFault := c.configFault
  claim := r.claim.filter fun k => c.claim == some k.serial

/-- The roof entry with its data changed; a control entry stays as it is. -/
def Entry.mapRoof (e : Entry) (f : RoofData → RoofData) : Entry :=
  match e.body with
  | .roof r => { e with body := .roof (f r) }
  | .control _ => e

/-- A frame of a roof station taken into the table, its content changing the entry's data. -/
def State.takeRoof (s : State) (im : Image) (h : RxHeader) (f : RoofData → RoofData) : State :=
  let t := s.tableChanged im (putEntry ((entryFor s.pv.table h).mapRoof f) s.pv.table)
  if kindChanges s.pv.table h then t.request .addressClash else t

/-- A STATUS taken by the Peer View. -/
def State.takeStatus (s : State) (im : Image) (h : RxHeader) (b : Vector Byte 28) : State :=
  let c := statusContent im.trainLength b
  let gain := missed (findEntry s.pv.table h.src) h c.learning
  let t := s.takeRoof im h fun r => r.takeStatus c
  { t with pv := { t.pv with missedSeq := min 65535 (t.pv.missedSeq + gain) } }

/-- A CLAIM taken by the Peer View (R62); one outside its tables only refreshes. -/
def State.takeClaim (s : State) (im : Image) (h : RxHeader) (b : Vector Byte 8) : State :=
  s.takeRoof im h fun r =>
    match claimContent im.trainLength b with
    | some c => { r with claim := some c }
    | none => r

/-- A WITHDRAW taken by the Peer View (R63). -/
def State.takeWithdraw (s : State) (im : Image) (h : RxHeader) (serial : Byte) : State :=
  s.takeRoof im h fun r => { r with claim := r.claim.filter fun k => k.serial != serial.toNat }

/-- A RECORD only refreshes (R55). -/
def State.takeRecordFrame (s : State) (im : Image) (h : RxHeader) : State := s.takeRoof im h id

/-! ### DEMAND (R64, R66, R69) -/

/-- The control data of an entry. -/
def Entry.control (e : Entry) : ControlData :=
  match e.body with
  | .control c => c
  | .roof _ => .fresh

/-- The toggles that a DEMAND changes against the record of its entry; none at the entry's first DEMAND (R69). -/
def toggleChange (old : Option Toggles) (t : Toggles) (f : Toggles → Nat) : Bool := old.any fun o => f o != f t

/-- A DEMAND taken into its entry: the entry after it. -/
def demandEntry (table : List Entry) (h : RxHeader) (b : Vector Byte 10) : Entry :=
  let e := entryFor table h
  { e with body := .control ⟨demandContent e.control.demand.ice b, some (togglesOf b)⟩ }

/-- The silence timer restarts at a DEMAND of an active entry, and any silence ends (R66). -/
def PV.hear (v : PV) : PV := if v.learning then v else { v with silence := .running 0 }

/-- The three toggle changes of a DEMAND that act. -/
structure Acting where
  restore : Bool
  clear : Bool
  report : Bool
  deriving DecidableEq, Repr

/-- The changes that act: those of the entry that governs once the frame has been taken (R69). -/
def actingToggles (table : List Entry) (h : RxHeader) (b : Vector Byte 10) (governing : Option Addr) : Acting :=
  let old := (entryFor table h).control.toggles
  let act (f : Toggles → Nat) : Bool := governing = some h.src && toggleChange old (togglesOf b) f
  ⟨act Toggles.restore, act Toggles.clear, act Toggles.report⟩

/-- The part of taking a DEMAND that precedes the handing-on: the entry, the demand in force, a kind change, the silence
timer and with it the Drop Supervisor's CONTROL_SILENT cause. -/
def State.enterDemand (s : State) (h : RxHeader) (b : Vector Byte 10) : State :=
  let e := demandEntry s.pv.table h b
  let t := ({ s with pv := { s.pv with table := putEntry e s.pv.table } } : State).formDemand
  let u := if kindChanges s.pv.table h then t.request .addressClash else t
  if e.active.isSome then ({ u with pv := u.pv.hear } : State).setCause .controlSilent false else u

/-- A DEMAND is handed on when its entry is active after it or the active entries changed (R65, log 21). -/
def handedOn (table : List Entry) (h : RxHeader) (b : Vector Byte 10) : Bool :=
  let e := demandEntry table h b
  e.active.isSome || (activeEntries (putEntry e table)).map (·.1) ≠ (activeEntries table).map (·.1)

/-- A DEMAND taken by the Peer View, up to and with the handing-on and RESTORE; the report and clear toggles act at the
end of the event (log 7). -/
def State.takeDemand (s : State) (im : Image) (h : RxHeader) (b : Vector Byte 10) : State :=
  let t := s.enterDemand h b
  if handedOn s.pv.table h b then
    t.handOn im s.pv.force (actingToggles s.pv.table h b t.pv.governing).restore
  else t

/-- The report and the clear toggle of a DEMAND, at the end of its event: the report first (R186). -/
def State.reportAndClear (s : State) (a : Acting) : State :=
  let t := if a.report then s.placeRecord s.recordSnapshot else s
  if a.clear then t.clearToggle else t

/-! ### The timers of the Peer View (R56, R57, R63, R66, R70) -/

/-- The validity window of an entry (R56), ms. -/
def Entry.windowMs (e : Entry) (im : Image) : Nat :=
  match e.body with
  | .roof r => 3 * r.interval
  | .control _ => im.tctlMs

/-- The lost limit of an entry (R57), ms. -/
def Entry.lostMs (e : Entry) (im : Image) : Nat :=
  match e.body with
  | .roof r => 3 * r.interval + 20
  | .control _ => im.tctlMs

/-- A LEARNING entry has reached the end of its validity window (R56). -/
def Entry.windowOver (e : Entry) (im : Image) : Bool := e.state = .learning && e.windowMs im ≤ e.age

/-- A VALID entry has reached its lost limit (R57). -/
def Entry.lostOver (e : Entry) (im : Image) : Bool := e.state = .valid && e.lostMs im ≤ e.age

/-- A LOST entry has reached the end of its hold (R57). -/
def Entry.holdOver (e : Entry) : Bool := e.state = .lost && due e.lostAge Config.lostHoldMs

/-- The heard claim of an entry has outlived its hold-off by 500 ms (R63). -/
def Entry.claimOver (e : Entry) : Bool :=
  match e.body with
  | .roof r => r.claim.any fun c => c.holdOff + Config.claimGraceMs < c.age
  | .control _ => false

/-- The end of a LEARNING entry's validity window (R56). Here and in the three that follow, a frame taken first, which
restarts the age, leaves the end without effect (log 1). -/
def State.removeLearning (s : State) (im : Image) (addr : Addr) : State :=
  if (findEntry s.pv.table addr).any fun e => e.windowOver im then s.tableChanged im (dropEntry s.pv.table addr) else s

/-- A VALID entry reaches its lost limit (R57). -/
def State.loseEntry (s : State) (im : Image) (addr : Addr) : State :=
  match findEntry s.pv.table addr with
  | some e =>
    if e.lostOver im then s.tableChanged im (putEntry { e with state := .lost, lostAge := .started } s.pv.table) else s
  | none => s

/-- The end of the LOST hold (R57). -/
def State.removeLost (s : State) (im : Image) (addr : Addr) : State :=
  if (findEntry s.pv.table addr).any fun e => e.holdOver then s.tableChanged im (dropEntry s.pv.table addr) else s

/-- A heard claim ages out (R63). -/
def State.ageOutClaim (s : State) (im : Image) (addr : Addr) : State :=
  match findEntry s.pv.table addr with
  | some e =>
    if e.claimOver then s.tableChanged im (putEntry (e.mapRoof fun r => { r with claim := none }) s.pv.table) else s
  | none => s

/-- The silence timer expires (R66). -/
def State.silenceEnds (s : State) : State :=
  match s.pv.silence with
  | .running _ => ({ s with pv := { s.pv with silence := .expired } } : State).request .controlSilent
  | _ => s

/-- The learning period ends (R70). -/
def PV.endLearning (v : PV) : PV := { v with learning := false, learningT := none, silence := .running 0 }

end Sys2Proof.Machine
end

