-- ==== Sys2Proof/Machine/InputsOdometry.lean ====
section
/-! DEFINITION. Input Conditioning and Odometry (10): accepted levels and what each hands on, arc edges, odometer pulses,
speed, the stationary flag, the direction view, the ambient temperature. -/

namespace Sys2Proof.Machine

/-! ### Polarity (R191) -/

/-- The polarities in use: NORMAL before the configuration is good. -/
def State.levelPolarity (s : State) : Levels :=
  match s.cl.image with
  | some im => im.polarities.levels
  | none => .negated

/-- An edge of an input counts: rising at NORMAL polarity, falling at INVERTED. -/
def countedEdge (inverted rising : Bool) : Bool := inverted != rising

/-- ODO is INVERTED. -/
def State.odoInverted (s : State) : Bool :=
  match s.cl.image with
  | some im => im.polarities.odo
  | none => false

/-- The arc input of a pantograph is INVERTED. -/
def State.arcInverted (s : State) (p : Pan) : Bool :=
  match s.cl.image, p with
  | some im, .a => im.polarities.arcA
  | some im, .b => im.polarities.arcB
  | none, _ => false

/-! ### The direction view (R198) -/

/-- The direction view takes a value; a change is handed to the Changeover Controller (R104). -/
def State.setView (s : State) (d : Direction) : State :=
  if s.ioc.view = d then s
  else ({ s with ioc := { s.ioc with view := d } } : State).ifGood fun im t => t.ccDirection im

/-- A DIR level just accepted: while the train is stationary the view follows it, otherwise a disagreement requests
SENSOR_FAULT (R198). -/
def State.dirAccepted (s : State) : State :=
  if s.directionHeld then
    if s.ioc.stationary then s.setView (directionOf s.ioc.levels.dir) else s.request .sensorFault
  else s

/-! ### Acceptances (R190) -/

/-- The height timer at an acceptance of an UP sensor (R35): in UP a negated level starts it; an asserted one stops it. -/
def State.heightLevel (s : State) (p : Pan) (level : Bool) : State :=
  let c := s.pc p
  if s.acts p then
    if level then s.setPc p { c with heightT := none }
    else if c.state = .up then s.setPc p { c with heightT := .started }
    else s
  else s

/-- The breaker state takes an accepted level of BRK_FB (R48); at OPEN the stuck flag clears (R52). -/
def State.breakerLevel (s : State) (level : Bool) : State :=
  { s with bi := { s.bi with closed := level, stuck := s.bi.stuck && level } }

/-- The EMERGENCY cause at an accepted level of ELOOP (R155). -/
def State.eloopLevel (s : State) (level : Bool) : State :=
  if level then s.setCause .emergency false else s.eloopOpens

/-- A level has been accepted on an input: what its readers do at once. The controllers read the other sensor levels as
they stand (log 5). -/
def State.readers (s : State) (i : LevelInput) (level : Bool) : State :=
  match i with
  | .upA => s.heightLevel .a level
  | .upB => s.heightLevel .b level
  | .brkFb => s.breakerLevel level
  | .eloop => s.eloopLevel level
  | .dir => s.dirAccepted
  | .downA | .downB | .airA | .airB => s

/-- A level is accepted on an input, with its run count 0 (R190). -/
def State.accept (s : State) (i : LevelInput) (level : Bool) : State :=
  ({ s with
      ioc := { s.ioc with levels := withLevel s.ioc.levels i level, runs := s.ioc.runs.set i 0 } } : State).readers i level

/-- One sample of one input (R190). -/
def State.sampleInput (s : State) (i : LevelInput) (level : Bool) : State :=
  if levelOf s.ioc.levels i = level then { s with ioc := { s.ioc with runs := s.ioc.runs.set i 0 } }
  else if classTime i ≤ s.ioc.runs.get i + 1 then s.accept i level
  else { s with ioc := { s.ioc with runs := s.ioc.runs.set i (s.ioc.runs.get i + 1) } }

/-- One sample of every input, in the order of the polarity bits (R190, log 24). -/
def State.sampleAll (s : State) (levels : Levels) : State :=
  levelInputs.foldl (fun t i => t.sampleInput i (levelOf levels i)) s

/-- The levels formed afresh at the configuration-good event (R191): each that differs is an acceptance; the direction
view takes the level of DIR (R198). -/
def State.reformLevels (s : State) (levels : Levels) : State :=
  let t := (levelInputs.filter fun i => i ≠ .dir).foldl
    (fun t i => if levelOf t.ioc.levels i = levelOf levels i then t else t.accept i (levelOf levels i)) s
  ({ t with
      ioc := { t.ioc with levels := withLevel t.ioc.levels .dir levels.dir, runs := .zero } } : State).setView
    (directionOf levels.dir)

/-! ### Arc edges (R193) -/

/-- The time of the last arc edge taken of a pantograph. -/
def IOC.lastArc (c : IOC) : Pan → Option Nat
  | .a => c.lastArcA
  | .b => c.lastArcB

/-- Less than a quiet time has passed since the last edge taken. -/
def tooSoon (last : Option Nat) (quiet now : Nat) : Bool := last.any fun t => now < t + quiet

/-- An edge on an arc input (R193): an arc edge is handed to the ICU. -/
def State.arcInput (s : State) (p : Pan) (rising : Bool) (atUs : Nat) : State :=
  if countedEdge (s.arcInverted p) rising && !tooSoon (s.ioc.lastArc p) Config.arcQuietUs atUs then
    let t : State :=
      match p with
      | .a => { s with ioc := { s.ioc with lastArcA := some atUs } }
      | .b => { s with ioc := { s.ioc with lastArcB := some atUs } }
    t.ifGood fun im t => t.countArc im p
  else s

/-! ### Odometry (R194 to R197) -/

/-- The train distance takes a pulse (R195). -/
def IOC.runPulse (c : IOC) (ppm : Nat) : IOC :=
  if ppm ≤ c.remainder + 1 then { c with remainder := 0, distance := wrapInc 4294967295 c.distance }
  else { c with remainder := c.remainder + 1 }

/-- A pulse at the bucket and the stationary timer (R196, R197). -/
def IOC.takePulse (c : IOC) (atUs : Nat) : IOC :=
  { c with lastOdo := some atUs, bucket := c.bucket + 1, stationary := false, stationaryT := .started }

/-- A pulse at its readers that need PPM: train distance, section countdown, cooldown and scrape countdowns (R194). The
cooldown counts before the scrape countdown, whose end loads it whole (R146). -/
def State.pulseReaders (s : State) (im : Image) : State :=
  ((({ s with ioc := s.ioc.runPulse im.ppm } : State).countPulse).countCooldown).countScrape im

/-- An edge on ODO is an odometer pulse (R194). -/
def State.isPulse (s : State) (rising : Bool) (atUs : Nat) : Bool :=
  countedEdge s.odoInverted rising && !tooSoon s.ioc.lastOdo Config.odoQuietUs atUs

/-- An edge on ODO. -/
def State.odoInput (s : State) (rising : Bool) (atUs : Nat) : State :=
  if s.isPulse rising atUs then
    ({ s with ioc := s.ioc.takePulse atUs } : State).ifGood fun im t => t.pulseReaders im
  else s

/-- The speed of a number of pulses in four buckets (R196). -/
def speedOf (ppm pulses : Nat) : Nat := min 400 (pulses * 3600 / (ppm * 1000))

/-- A bucket closes (R196); before the configuration is good it forms no speed. -/
def IOC.closeBucket (c : IOC) (image : Option Image) : IOC :=
  let p := c.closed2 + c.closed3 + c.closed4 + c.bucket
  { c with
    closed1 := c.closed2, closed2 := c.closed3, closed3 := c.closed4, closed4 := c.bucket, bucket := 0,
    bucketClock := 0,
    speed := match image with
      | some im => speedOf im.ppm p
      | none => c.speed }

/-- The stationary flag becomes set (R197), and the view follows an accepted DIR level that disagrees (R198). -/
def State.becomeStationary (s : State) : State :=
  ({ s with ioc := { s.ioc with stationary := true, stationaryT := none } } : State).setView
    (directionOf s.ioc.levels.dir)

/-! ### Ambient temperature (R199) -/

/-- A reading of TEMP is valid. -/
def validReading (r : Int) : Bool := Config.ambientMin ≤ r && r ≤ Config.ambientMax

/-- A conversion of TEMP (R199). -/
def State.convert (s : State) (r : Int) : State :=
  if validReading r then { s with ioc := { s.ioc with ambient := some r, tempInvalid := false } }
  else
    let t := { s with ioc := { s.ioc with tempInvalid := true } }
    if s.ioc.tempInvalid then t else t.request .sensorFault

end Sys2Proof.Machine
end

