-- ==== Sys2Proof/Machine/StartUp.lean ====
section
/-! DEFINITION. Resets and the Configuration Loader (11, R200): the release, the verdicts on the record, the
configuration-good event. -/

namespace Sys2Proof.Machine

/-! ### Resets (R200) -/

/-- A reset of a cause takes hold: every block at its reset values, whatever the part did. The queue of commands is no
part of the hardware and stays. -/
def State.resetTo (s : State) (cause : ResetCause) : State := { State.held cause with pending := s.pending }

/-- RST low for a number of milliseconds (R200, R201): 2 ms make a reset. During a power-on reset that is still held the
cause stays that of the power-on reset. -/
def State.rstLow (s : State) (lowMs : Nat) : State :=
  if lowMs < 2 then s
  else if !s.released && s.resetCause = .powerOn then s.resetTo .powerOn
  else s.resetTo .resetLine

/-- The restart cause recorded at the release (R201). -/
def ResetCause.restart : ResetCause → RestartCause
  | .powerOn => .powerOn
  | .resetLine => .resetLine

/-- ELOOP at the release (R165): read open, it latches EMERGENCY. -/
def State.releaseLoop (s : State) : State := if s.eloopOpen then s.eloopOpens else s

/-- Reset release (R192, R198, R201, R202, R46, R48, R165): the address, the levels as they stand on the pins, the
controllers' states, the breaker state and the EMERGENCY latch; the first read starts. -/
def State.release (s : State) (pins : Levels) (straps : Addr) : State :=
  ({ s with
      released := true,
      cl := { s.cl with address := straps, cause := s.resetCause.restart, read := .started },
      ioc := { s.ioc with
        levels := logical .negated pins, runs := .zero, view := directionOf pins.dir, stationaryT := .started },
      pcA := PC.reset pins.downA, pcB := PC.reset pins.downB,
      bi := { s.bi with closed := pins.brkFb } } : State).releaseLoop

/-! ### Verdicts (R181, R202, R204) -/

/-- The first verdict on the record starts the STATUS countdown (R181). -/
def State.verdict (s : State) : State :=
  if s.cl.verdictGiven then s
  else { s with cl := { s.cl with verdictGiven := true }, lau := { s.lau with statusT := .started } }

/-- A bad verdict (R202). -/
def State.badVerdict (s : State) : State :=
  let t := ({ s with
      cl := { s.cl with read := none, retryT := .started }, lau := { s.lau with faultMode := true } } : State).request
    .configFault
  t.verdict

/-- CONFIG_CLAMPED is requested when clamping changed a field (R203). -/
def State.markClamped (s : State) : State := if s.cl.clamped then s.request .configClamped else s

/-- The configuration-good event (R204): the image, its effects at the blocks, and the polarities with the pins as they
stand. -/
def State.goodVerdict (s : State) (record : Vector Byte 128) (pins : Levels) : State :=
  let im := clampImage (rawImage record)
  let t := ({ s with
      cl := { s.cl with image := some im, clamped := im ≠ rawImage record, read := none, retryT := none },
      lau := { s.lau with faultMode := false },
      pv := { s.pv with learningT := .started } } : State).markClamped
  let u := ((t.holdCL false).holdAbsent .a).holdAbsent .b
  let v := (u.reformLevels (logical im.polarities.levels pins)).verdict
  (v.startLower .a).startLower .b

/-- A read ends with all its bytes (R202). -/
def State.readEnds (s : State) (record : Vector Byte 128) (pins : Levels) : State :=
  if recordGood record then s.goodVerdict record pins else s.badVerdict

end Sys2Proof.Machine
end

