-- ==== Sys2Proof/Machine/Settle.lean ====
section
/-! DEFINITION. One event of the part: the direct effect of a command, the reactions that the blocks make in the same event,
and what is formed once at its end (95_what_each_step_holds.md; log 6). -/

namespace Sys2Proof.Machine

/-! ### Reactions in the same event -/

/-- What the blocks beside the Pantograph Controllers ask by their own conditions. Before the configuration is good they
ask nothing (R99, R150, R166). -/
def State.others (s : State) : State :=
  s.ifGood fun im s =>
    let t := (((s.clearMarks).ccReact im).icuReact im).dsReact im
    ((t.formProfile im).reactRaise im).reactScrape im

/-- One round of reactions, with the wiring compared against an earlier state. -/
def State.round (ref s : State) : State × State :=
  let t := s.pantographs
  (t, (ref.wiring t).others)

/-- A number of rounds of reactions. -/
def settle : Nat → State → State → State
  | 0, _, s => s
  | n + 1, ref, s => settle n (ref.round s).1 (ref.round s).2

/-- The rounds of one event; more than any chain of reactions of the part is long (log 6). -/
def rounds : Nat := 8

/-! ### The end of the event -/

/-- BRK_PERMIT (R50), on the state as it stands at the end of the event. -/
def State.permitGiven (s : State) : Bool := s.readyToClose && (s.cc.phase = .normal || s.cc.phase = .closing)

/-- The permit is formed. -/
def State.formPermit (s : State) : State := { s with bi := { s.bi with permit := s.permitGiven } }

/-- Closed without permit (R51); the timer does not run before the configuration is good. -/
def State.closedWithoutPermit (s : State) : Bool := s.good && !s.bi.permit && s.bi.closed

/-- The open-confirm timer (R51): it starts when the breaker comes to be closed without permit, and stops when it is no
longer so. -/
def State.formOpenConfirm (before s : State) : State :=
  { s with
    bi := { s.bi with
      openConfirm :=
        if s.closedWithoutPermit then (if before.closedWithoutPermit then s.bi.openConfirm else .started) else none } }

/-- What the Admission Unit counts of an entry (R61): a change of it is a view change. -/
structure ViewEntry where
  addr : Addr
  state : EntryState
  kind : NodeKind
  recA : Option PanRecord
  recB : Option PanRecord
  draw : Nat
  configFault : Bool
  claim : Option HeardClaim
  deriving DecidableEq, Repr

/-- An entry as the view counts it: a heater flag and a claim's age are no counted fields (R60). -/
def Entry.view (e : Entry) : ViewEntry :=
  match e.body with
  | .roof r =>
    ⟨e.addr, e.state, .roof, r.recA.map fun c => { c with heater := false },
      r.recB.map fun c => { c with heater := false }, r.draw, r.configFault, r.claim.map fun c => { c with age := 0 }⟩
  | .control _ => ⟨e.addr, e.state, .control, none, none, 0, false, none⟩

/-- What the claim test reads (R88): a change of any of it runs the test. -/
structure TestInputs where
  view : List ViewEntry
  profile : Option Nat
  direction : Direction
  stateA : PanState
  stateB : PanState
  discA : Bool
  discB : Bool
  heaterA : Bool
  heaterB : Bool
  raise : Option RaiseWant
  scrape : Option Pan
  heat : Option HeatWant
  phase : Phase
  nextSystem : Option LineClass
  nextPan : Option Pan
  q : LineClass
  inhibit : DropSet
  closed : Bool
  learning : Bool
  deriving DecidableEq, Repr

/-- The inputs of the claim test in a state. -/
def State.testInputs (s : State) : TestInputs where
  view := s.pv.table.map Entry.view
  profile := s.au.profile
  direction := s.ioc.view
  stateA := s.pcA.state
  stateB := s.pcB.state
  discA := s.pcA.disc
  discB := s.pcB.disc
  heaterA := s.icu.heaterA
  heaterB := s.icu.heaterB
  raise := s.au.raise
  scrape := s.au.scrape
  heat := s.au.heat
  phase := s.cc.phase
  nextSystem := s.cc.nextSystem
  nextPan := s.cc.nextPan
  q := s.lq.q
  inhibit := s.ds.latch
  closed := s.bi.closed
  learning := s.pv.learning

/-- The Admission Unit's part at the end of the event: late conflict (R96), and the claim test when the event asks for it
or changed one of its inputs (R88). -/
def State.admission (before : State) (test : Bool) (s : State) : State :=
  s.ifGood fun im s =>
    let t := s.evaluateConflict im
    if test || before.testInputs ≠ s.testInputs then t.claimTest im else t

/-- A STATUS is asked for when the event asks for one, changed an announced field or marked a STATUS as pending (R180). -/
def State.report (before : State) (ask : Bool) (s : State) : State :=
  if ask || before.announced ≠ s.announced || (s.lau.statusPending && !before.lau.statusPending) then s.askStatus else s

/-- The guards of the laws of R34 and R142 and the force targets, on the state as it stands at the end of the event. -/
def State.guard (s : State) : State :=
  (((s.watchIsolated .a).watchIsolated .b).ifGood fun im s => s.guardHeaters im).formTargets

/-- The HEAT want, on a good configuration. -/
def State.formHeatWant (before s : State) : State := s.ifGood fun im t => before.reactHeat im t

/-- What is formed once, at the end of the event: the guards and force targets, the HEAT want, the permit with its
open-confirm timer, late conflict and the claim test, the top alert with FLT, and the STATUS brought forward. -/
def finish (before : State) (test ask : Bool) (s : State) : State :=
  let t := before.formHeatWant s.guard
  let u := before.formOpenConfirm t.formPermit
  before.report ask (before.admission test u).formAlerts

/-- One event: its direct effect, the reactions, its end. -/
def State.event (s : State) (test ask : Bool) (direct : State → State) : State :=
  finish s test ask (settle rounds s (direct s))

/-- An event of the part while no reset is held; a held part acts on nothing but its resets and its release (log 3). -/
def State.live (s : State) (test ask : Bool) (direct : State → State) : State :=
  if s.released then s.event test ask direct else s

end Sys2Proof.Machine
end

