-- ==== Sys2Proof/Machine/ExecAdmission.lean ====
section
/-! DEFINITION. The meanings of the Admission Unit's timers (04). -/

namespace Sys2Proof.Machine

/-- RE_TEST_TIMER_EXPIRY (R88): the claim test runs. -/
def execReTestTimerExpiry (s : State) : Host.Outcome State Fault Refusal :=
  .next (s.live s.au.retestT.isSome false id)

/-- RETRY_HOLD_END (R93): the head may be permitted again, and the claim test runs. -/
def execRetryHoldEnd (s : State) : Host.Outcome State Fault Refusal :=
  .next (s.live s.au.retryT.isSome false fun t => { t with au := { t.au with retryT := none } })

/-- The claim is in HOLDING. -/
def AU.isHolding (a : AU) : Bool := a.claim = .holding

/-- HOLD_OFF_EXPIRY (R92): in HOLDING the final test grants or withdraws the claim; in any other state it has no effect. -/
def execHoldOffExpiry (s : State) : Host.Outcome State Fault Refusal :=
  .next (s.live s.au.isHolding false fun t => if t.au.isHolding then t.ifGood fun im t => t.holdOffEnd im else t)

/-- The grace timer of a pantograph. -/
def AU.grace (a : AU) : Pan → Timer
  | .a => a.graceA
  | .b => a.graceB

/-- GRACE_TIMER_EXPIRY (R97), of a timer that runs. -/
def execGraceTimerExpiry (p : Pan) (s : State) : Host.Outcome State Fault Refusal :=
  .next (s.live false false fun t => if (t.au.grace p).isSome then t.resolveConflict p else t)

end Sys2Proof.Machine
end

