-- ==== Sys2Proof/Machine/ExecChangeover.lean ====
section
/-! DEFINITION. The meanings of the odometer pulse, the leg ends and the requalify timer (05, 10.4). -/

namespace Sys2Proof.Machine

/-- ODOMETER_PULSE (R194): an edge on ODO at a time. The pulse that brings a countdown to zero ends it (log 12). -/
def execOdometerPulse (rising : Bool) (atUs : Nat) (s : State) : Host.Outcome State Fault Refusal :=
  .next (s.live false false fun t => t.odoInput rising atUs)

/-- Leg 1 runs its last pulse. -/
def CC.leg1Due (c : CC) : Bool :=
  match c.countdown with
  | .running .one n => n ≤ 1
  | _ => false

/-- The leg that runs. -/
def CC.runningLeg (c : CC) : Option Leg :=
  match c.countdown with
  | .running leg _ => some leg
  | _ => none

/-- LEG_1_END (R111, R112), of a leg 1 that has no more than its last pulse: after a record taken first, from which leg 1
starts again (R102), it has no effect (log 1). -/
def execLeg1End (s : State) : Host.Outcome State Fault Refusal :=
  .next (s.live false false fun t => if t.cc.leg1Due then t.endLeg1 else t)

/-- LEG_2_END (R113, R115, R116), of leg 2 running. -/
def execLeg2End (s : State) : Host.Outcome State Fault Refusal :=
  .next (s.live false false fun t => if t.cc.runningLeg = some .two then t.endLeg2 else t)

/-- LEG_3_END (R116), of leg 3 running. -/
def execLeg3End (s : State) : Host.Outcome State Fault Refusal :=
  .next (s.live false false fun t => if t.cc.runningLeg = some .three then t.endLeg3 else t)

/-- REQUALIFY_TIMER_EXPIRY (R119), of a timer that runs. -/
def execRequalifyTimerExpiry (s : State) : Host.Outcome State Fault Refusal :=
  .next (s.live false false fun t => if t.cc.rqTimer.isSome then t.failRequalify else t)

end Sys2Proof.Machine
end

