-- ==== Sys2Proof/Machine/ExecDrop.lean ====
section
/-! DEFINITION. The meaning of the restore timer (07). -/

namespace Sys2Proof.Machine

/-- RESTORE_TIMER_EXPIRY (R162), of a timer that runs. -/
def execRestoreTimerExpiry (s : State) : Host.Outcome State Fault Refusal :=
  .next (s.live false false fun t => if t.ds.restoreT.isSome then t.restoreMaskable else t)

end Sys2Proof.Machine
end

