-- ==== Sys2Proof/WellFormed.lean ====
section
/-! DEFINITION. What the operands of a command must satisfy beside their types: the header of a frame gives a payload
length of 0 to 28 (section 12.1), and only RECORD may have any of them (R174). -/

namespace Sys2Proof

/-- The largest payload of a frame, in bytes (section 12.1). -/
def maxPayload : Nat := 28

/-- The operands fit the command: a RECORD payload has at most 28 bytes. Every other range is in the operand's type. -/
def Instr.wellFormed : Instr → Bool
  | .recordReceived _ payload => payload.length ≤ maxPayload
  | _ => true

end Sys2Proof
end

