-- ==== Sys2Proof/Machine/ExecFrames.lean ====
section
/-! DEFINITION. The meanings of the received frames (03, 08.5). -/

namespace Sys2Proof.Machine

/-- A frame that passed the checks of R174 (R54, R175): one with the own address is the own echo or an address clash; one
whose type does not fit its kind is a receive error; before the configuration is good the rest are discarded. -/
def State.receive (s : State) (ty : Byte) (want : NodeKind) (h : RxHeader) (payload : List Byte)
    (take : Image → State → State) : State :=
  if h.src = s.cl.address then (if s.lau.echo ty h payload then s else s.request .addressClash)
  else if h.kind ≠ want then s.countError
  else s.ifGood take

/-- The Peer View takes a frame of a kind. -/
def State.takes (s : State) (want : NodeKind) (h : RxHeader) : Bool := h.src ≠ s.cl.address && h.kind = want && s.good

/-- STATUS_RECEIVED (R55, R59, R60, R63). -/
def execStatusReceived (h : RxHeader) (payload : Vector Byte 28) (s : State) : Host.Outcome State Fault Refusal :=
  .next (s.live false false fun t =>
    t.receive typeStatus .roof h payload.toList fun im t => t.takeStatus im h payload)

/-- CLAIM_RECEIVED (R62): a claim that is set or replaced is a view change (R61). -/
def execClaimReceived (h : RxHeader) (payload : Vector Byte 8) (s : State) : Host.Outcome State Fault Refusal :=
  .next (s.live (s.takes .roof h && (claimContent 0 payload).isSome) false fun t =>
    t.receive typeClaim .roof h payload.toList fun im t => t.takeClaim im h payload)

/-- WITHDRAW_RECEIVED (R63). -/
def execWithdrawReceived (h : RxHeader) (serial : Byte) (s : State) : Host.Outcome State Fault Refusal :=
  .next (s.live false false fun t =>
    t.receive typeWithdraw .roof h [serial] fun im t => t.takeWithdraw im h serial)

/-- RECORD_RECEIVED (R55): a payload of more than 28 bytes fails the type-length check of R174. -/
def execRecordReceived (h : RxHeader) (payload : List Byte) (s : State) : Host.Outcome State Fault Refusal :=
  .next (s.live false false fun t =>
    if payload.length ≤ maxPayload then t.receive typeRecord .roof h payload fun im t => t.takeRecordFrame im h
    else t.countError)

/-- The toggle changes of a DEMAND that act in its event (R69): none of a frame that is not taken. -/
def State.demandToggles (s : State) (h : RxHeader) (b : Vector Byte 10) : Acting :=
  if s.takes .control h then actingToggles s.pv.table h b (s.enterDemand h b).pv.governing else ⟨false, false, false⟩

/-- The event of a DEMAND (R64 to R69): the demand and its RESTORE, the reactions, then the report and the clear toggle
(log 7). -/
def State.demandEvent (s : State) (h : RxHeader) (b : Vector Byte 10) : State :=
  let direct := s.receive typeDemand .control h b.toList fun im t => t.takeDemand im h b
  finish s (s.takes .control h && handedOn s.pv.table h b) false
    ((settle rounds s direct).reportAndClear (s.demandToggles h b))

/-- DEMAND_RECEIVED (R64). -/
def execDemandReceived (h : RxHeader) (payload : Vector Byte 10) (s : State) : Host.Outcome State Fault Refusal :=
  .next (if s.released then s.demandEvent h payload else s)

/-- RECEIVE_ERROR (R174): counted once, whatever the fault. -/
def execReceiveError (_fault : RxFault) (s : State) : Host.Outcome State Fault Refusal :=
  .next (s.live false false State.countError)

end Sys2Proof.Machine
end

