-- ==== Sys2Proof/Machine/ExecIce.lean ====
section
/-! DEFINITION. The meanings of the arc edge and of the Ice-Clearing Unit's countdowns (06). -/

namespace Sys2Proof.Machine

/-- ARC_EDGE (R193, R129): an edge on an arc input at a time. -/
def execArcEdge (p : Pan) (rising : Bool) (atUs : Nat) (s : State) : Host.Outcome State Fault Refusal :=
  .next (s.live false false fun t => t.arcInput p rising atUs)

/-- The end of a scrape countdown that runs (R145). -/
def State.scrapeEnds (s : State) (im : Image) : State :=
  match s.icu.scrape, s.icu.scrapeCount with
  | some p, some _ => s.endScrape im p
  | _, _ => s

/-- SCRAPE_COUNTDOWN_END (R145). -/
def execScrapeCountdownEnd (s : State) : Host.Outcome State Fault Refusal :=
  .next (s.live false false fun t => t.ifGood fun im t => t.scrapeEnds im)

/-- COOLDOWN_END (R146). -/
def execCooldownEnd (s : State) : Host.Outcome State Fault Refusal :=
  .next (s.live false false fun t => { t with icu := { t.icu with cooldown := none } })

end Sys2Proof.Machine
end

