-- ==== Sys2Proof/Machine/ExecInputs.lean ====
section
/-! DEFINITION. The meanings of the input, odometry and temperature commands (10). -/

namespace Sys2Proof.Machine

/-- LEVEL_ACCEPTED (R190): a level that differs from the accepted one is accepted (log 11). -/
def execLevelAccepted (input : LevelInput) (level : Bool) (s : State) : Host.Outcome State Fault Refusal :=
  .next (s.live false false fun t => if levelOf t.ioc.levels input = level then t else t.accept input level)

/-- LEVEL_INPUT_SAMPLE (R190): one millisecond sample of every level input, after polarity. -/
def execLevelInputSample (pins : Levels) (s : State) : Host.Outcome State Fault Refusal :=
  .next (s.live false false fun t => t.sampleAll (logical t.levelPolarity pins))

/-- BUCKET_CLOSE (R196). -/
def execBucketClose (s : State) : Host.Outcome State Fault Refusal :=
  .next (s.live false false fun t => { t with ioc := t.ioc.closeBucket t.cl.image })

/-- STATIONARY_TIMER_EXPIRY (R197), of a timer that has run its 2 s: after a pulse taken first, which restarts the timer, it
has no effect (log 1). -/
def execStationaryTimerExpiry (s : State) : Host.Outcome State Fault Refusal :=
  .next (s.live false false fun t => if due t.ioc.stationaryT Config.stationaryMs then t.becomeStationary else t)

/-- AMBIENT_CONVERSION (R199). -/
def execAmbientConversion (reading : Int) (s : State) : Host.Outcome State Fault Refusal :=
  .next (s.live false false fun t => t.convert reading)

end Sys2Proof.Machine
end

