-- ==== Sys2Proof/Machine/ExecLine.lean ====
section
/-! DEFINITION. The meaning of SAMPLE_EVENT (01). -/

namespace Sys2Proof.Machine

/-- The window end (R15): the result is qualified and in place, SENSOR_FAULT is requested on its invalid count, the arc
rings advance, and the Changeover Controller judges the line (R118). -/
def State.windowEnd (s : State) (im : Image) (q : LQ) : State :=
  let t := { s with lq := q.close im.kq, icu := s.icu.advance im.tClear }
  let u := if t.lq.sensorFault then t.request .sensorFault else t
  u.judgeWindow im

/-- A sample taken while windows run (R1, R4). -/
def State.takeSample (s : State) (im : Image) (code : BitVec 14) (valid : Bool) : State :=
  let q := s.lq.take im.h code valid
  if q.index < Config.windowSamples then { s with lq := q } else s.windowEnd im q

/-- SAMPLE_EVENT (R1): before the windows run, with no good configuration, it is discarded (R26). -/
def execSampleEvent (code : BitVec 14) (valid : Bool) (s : State) : Host.Outcome State Fault Refusal :=
  .next (s.live false false fun t => t.ifGood fun im t => t.takeSample im code valid)

end Sys2Proof.Machine
end

