-- ==== Sys2Proof/Machine/ExecPantograph.lean ====
section
/-! DEFINITION. The meanings of the pantograph and breaker timers (02). -/

namespace Sys2Proof.Machine

/-- The stuck breaker (R51). -/
def State.breakerStuck (s : State) : State :=
  ({ s with bi := { s.bi with openConfirm := none, stuck := true } } : State).request .breakerStuck

/-- OPEN_CONFIRM_TIMER_EXPIRY (R51), of a timer that runs (log 1). -/
def execOpenConfirmTimerExpiry (s : State) : Host.Outcome State Fault Refusal :=
  .next (s.live false false fun t => if t.bi.openConfirm.isSome then t.breakerStuck else t)

/-- RAISE_TIMER_EXPIRY (R33), of a timer that runs: a fast drop with pending cause RAISE_TIMEOUT. -/
def execRaiseTimerExpiry (p : Pan) (s : State) : Host.Outcome State Fault Refusal :=
  .next (s.live false false fun t => if (t.pc p).raiseT.isSome then t.faultDrop p .raiseTimeout else t)

/-- HEIGHT_TIMER_EXPIRY (R35), of a timer that runs: a fast drop with pending cause HEIGHT_LOSS. -/
def execHeightTimerExpiry (p : Pan) (s : State) : Host.Outcome State Fault Refusal :=
  .next (s.live false false fun t => if (t.pc p).heightT.isSome then t.faultDrop p .heightLoss else t)

/-- LOWER_TIMER_EXPIRY (R42), of a timer that runs: FAULT. -/
def execLowerTimerExpiry (p : Pan) (s : State) : Host.Outcome State Fault Refusal :=
  .next (s.live false false fun t => if (t.pc p).lowerT.isSome then t.lowerTimeout p else t)

/-- One ramp tick (R31): the period is free-running; before the configuration is good no force is set. -/
def State.rampBoth (s : State) : State :=
  ({ s with rampClock := 0 } : State).ifGood fun im t => { t with pcA := t.pcA.ramp im, pcB := t.pcB.ramp im }

/-- RAMP_TICK (R31). -/
def execRampTick (s : State) : Host.Outcome State Fault Refusal := .next (s.live false false State.rampBoth)

end Sys2Proof.Machine
end

