-- ==== Sys2Proof/Machine/ExecPeerView.lean ====
section
/-! DEFINITION. The meanings of the Peer View's timers (03). -/

namespace Sys2Proof.Machine

/-- LEARNING_ENTRY_REMOVAL (R56). -/
def execLearningEntryRemoval (addr : Addr) (s : State) : Host.Outcome State Fault Refusal :=
  .next (s.live false false fun t => t.ifGood fun im t => t.removeLearning im addr)

/-- ENTRY_LOST (R57). -/
def execEntryLost (addr : Addr) (s : State) : Host.Outcome State Fault Refusal :=
  .next (s.live false false fun t => t.ifGood fun im t => t.loseEntry im addr)

/-- LOST_HOLD_END (R57). -/
def execLostHoldEnd (addr : Addr) (s : State) : Host.Outcome State Fault Refusal :=
  .next (s.live false false fun t => t.ifGood fun im t => t.removeLost im addr)

/-- HEARD_CLAIM_AGE_OUT (R63). -/
def execHeardClaimAgeOut (addr : Addr) (s : State) : Host.Outcome State Fault Refusal :=
  .next (s.live false false fun t => t.ifGood fun im t => t.ageOutClaim im addr)

/-- SILENCE_TIMER_EXPIRY (R66). -/
def execSilenceTimerExpiry (s : State) : Host.Outcome State Fault Refusal :=
  .next (s.live false false State.silenceEnds)

/-- LEARNING_PERIOD_END (R70), of a learning timer that runs. -/
def execLearningPeriodEnd (s : State) : Host.Outcome State Fault Refusal :=
  .next (s.live false false fun t => if t.pv.learningT.isSome then { t with pv := t.pv.endLearning } else t)

end Sys2Proof.Machine
end

