-- ==== Sys2Proof/Machine/ExecReporting.lean ====
section
/-! DEFINITION. The meanings of the transmissions, the error period and the STATUS schedule (08). -/

namespace Sys2Proof.Machine

/-- TRANSMIT_START (R169, R170): the line has been idle for so many bit times; a frame that may start does. -/
def execTransmitStart (idleBits : Nat) (s : State) : Host.Outcome State Fault Refusal :=
  .next (s.live false false fun t => { t with lau := t.lau.start t.cl.address idleBits })

/-- TRANSMIT_END (R171). -/
def execTransmitEnd (s : State) : Host.Outcome State Fault Refusal := .next (s.live false false State.attemptEnds)

/-- FAILED_ATTEMPT (R172). -/
def execFailedAttempt (s : State) : Host.Outcome State Fault Refusal := .next (s.live false false State.attemptFails)

/-- ERROR_PERIOD_END (R177). -/
def execErrorPeriodEnd (s : State) : Host.Outcome State Fault Refusal :=
  .next (s.live false false fun t => { t with lau := t.lau.endPeriod })

/-- STATUS_COUNTDOWN_EXPIRY (R179), of a countdown that runs: it repeats and asks for a STATUS. -/
def execStatusCountdownExpiry (s : State) : Host.Outcome State Fault Refusal :=
  .next (s.live false s.lau.statusT.isSome fun t =>
    if t.lau.statusT.isSome then { t with lau := { t.lau with statusT := .started } } else t)

/-- STATUS_GAP_END (R180), of a gap that runs: a STATUS asked for meanwhile is placed at the end of the event (log 26). -/
def execStatusGapEnd (s : State) : Host.Outcome State Fault Refusal :=
  .next (s.live false (s.lau.gapT.isSome && s.lau.statusPending) fun t => { t with lau := { t.lau with gapT := none } })

end Sys2Proof.Machine
end

