-- ==== Sys2Proof/Machine/ExecStartUp.lean ====
section
/-! DEFINITION. The meanings of the reset and configuration commands (10.7, 11). -/

namespace Sys2Proof.Machine

/-- POWER_ON_RESET (R200): the part is held at its reset values. -/
def execPowerOnReset (s : State) : Host.Outcome State Fault Refusal := .next (s.resetTo .powerOn)

/-- RST_ASSERTED (R200). -/
def execRstAsserted (lowMs : Nat) (s : State) : Host.Outcome State Fault Refusal := .next (s.rstLow lowMs)

/-- RESET_RELEASE (R201): it releases a reset that is held. -/
def execResetRelease (pins : Levels) (straps : Addr) (s : State) : Host.Outcome State Fault Refusal :=
  .next (if s.released then s else s.event false false fun t => t.release pins straps)

/-- A read of the record is in flight. -/
def State.reading (s : State) : Bool := s.cl.read.isSome

/-- CONFIG_READ_END (R202): the verdict on the bytes; the first one asks for a STATUS (R181). -/
def execConfigReadEnd (record : Vector Byte 128) (pins : Levels) (s : State) : Host.Outcome State Fault Refusal :=
  .next (s.live false (s.reading && !s.cl.verdictGiven) fun t => if t.reading then t.readEnds record pins else t)

/-- CONFIG_READ_TIMEOUT (R202): a bad verdict on a read in flight. -/
def execConfigReadTimeout (s : State) : Host.Outcome State Fault Refusal :=
  .next (s.live false (s.reading && !s.cl.verdictGiven) fun t => if t.reading then t.badVerdict else t)

/-- CONFIG_RETRY_TIMER_EXPIRY (R202): the record is read afresh. -/
def execConfigRetryTimerExpiry (s : State) : Host.Outcome State Fault Refusal :=
  .next (s.live false false fun t =>
    if t.cl.retryT.isSome then { t with cl := { t.cl with retryT := none, read := .started } } else t)

end Sys2Proof.Machine
end

