-- ==== Sys2Proof/Machine/Dispatch.lean ====
section
/-! DEFINITION. The dispatch of a command to its meaning, one arm for each row of the table. -/

namespace Sys2Proof.Machine

def exec (i : Instr) (s : State) : Host.Outcome State Fault Refusal :=
  match i with
  | .powerOnReset => Sys2Proof.Machine.execPowerOnReset s
  | .rstAsserted lowMs => Sys2Proof.Machine.execRstAsserted lowMs s
  | .resetRelease pins straps => Sys2Proof.Machine.execResetRelease pins straps s
  | .configReadEnd record pins => Sys2Proof.Machine.execConfigReadEnd record pins s
  | .configReadTimeout => Sys2Proof.Machine.execConfigReadTimeout s
  | .configRetryTimerExpiry => Sys2Proof.Machine.execConfigRetryTimerExpiry s
  | .sampleEvent code valid => Sys2Proof.Machine.execSampleEvent code valid s
  | .levelAccepted input level => Sys2Proof.Machine.execLevelAccepted input level s
  | .openConfirmTimerExpiry => Sys2Proof.Machine.execOpenConfirmTimerExpiry s
  | .raiseTimerExpiry p => Sys2Proof.Machine.execRaiseTimerExpiry p s
  | .heightTimerExpiry p => Sys2Proof.Machine.execHeightTimerExpiry p s
  | .lowerTimerExpiry p => Sys2Proof.Machine.execLowerTimerExpiry p s
  | .rampTick => Sys2Proof.Machine.execRampTick s
  | .demandReceived h payload => Sys2Proof.Machine.execDemandReceived h payload s
  | .statusReceived h payload => Sys2Proof.Machine.execStatusReceived h payload s
  | .claimReceived h payload => Sys2Proof.Machine.execClaimReceived h payload s
  | .withdrawReceived h serial => Sys2Proof.Machine.execWithdrawReceived h serial s
  | .recordReceived h payload => Sys2Proof.Machine.execRecordReceived h payload s
  | .receiveError fault => Sys2Proof.Machine.execReceiveError fault s
  | .learningEntryRemoval addr => Sys2Proof.Machine.execLearningEntryRemoval addr s
  | .entryLost addr => Sys2Proof.Machine.execEntryLost addr s
  | .lostHoldEnd addr => Sys2Proof.Machine.execLostHoldEnd addr s
  | .heardClaimAgeOut addr => Sys2Proof.Machine.execHeardClaimAgeOut addr s
  | .silenceTimerExpiry => Sys2Proof.Machine.execSilenceTimerExpiry s
  | .learningPeriodEnd => Sys2Proof.Machine.execLearningPeriodEnd s
  | .reTestTimerExpiry => Sys2Proof.Machine.execReTestTimerExpiry s
  | .retryHoldEnd => Sys2Proof.Machine.execRetryHoldEnd s
  | .holdOffExpiry => Sys2Proof.Machine.execHoldOffExpiry s
  | .graceTimerExpiry p => Sys2Proof.Machine.execGraceTimerExpiry p s
  | .odometerPulse rising atUs => Sys2Proof.Machine.execOdometerPulse rising atUs s
  | .leg1End => Sys2Proof.Machine.execLeg1End s
  | .leg2End => Sys2Proof.Machine.execLeg2End s
  | .leg3End => Sys2Proof.Machine.execLeg3End s
  | .requalifyTimerExpiry => Sys2Proof.Machine.execRequalifyTimerExpiry s
  | .arcEdge p rising atUs => Sys2Proof.Machine.execArcEdge p rising atUs s
  | .scrapeCountdownEnd => Sys2Proof.Machine.execScrapeCountdownEnd s
  | .cooldownEnd => Sys2Proof.Machine.execCooldownEnd s
  | .restoreTimerExpiry => Sys2Proof.Machine.execRestoreTimerExpiry s
  | .transmitStart idleBits => Sys2Proof.Machine.execTransmitStart idleBits s
  | .transmitEnd => Sys2Proof.Machine.execTransmitEnd s
  | .failedAttempt => Sys2Proof.Machine.execFailedAttempt s
  | .errorPeriodEnd => Sys2Proof.Machine.execErrorPeriodEnd s
  | .statusCountdownExpiry => Sys2Proof.Machine.execStatusCountdownExpiry s
  | .statusGapEnd => Sys2Proof.Machine.execStatusGapEnd s
  | .bucketClose => Sys2Proof.Machine.execBucketClose s
  | .stationaryTimerExpiry => Sys2Proof.Machine.execStationaryTimerExpiry s
  | .ambientConversion reading => Sys2Proof.Machine.execAmbientConversion reading s
  | .levelInputSample pins => Sys2Proof.Machine.execLevelInputSample pins s

end Sys2Proof.Machine
end

