-- ==== Sys2Proof/Machine/Ticks.lean ====
section
/-! DEFINITION. The passing of a millisecond while no command waits (log 2): every timer, age and clock of the part moves
on by one, and the expiries that fall due become waiting commands. -/

namespace Sys2Proof.Machine

/-- A timer one millisecond on. -/
def older (t : Timer) : Timer := t.map (· + 1)

/-- A controller one millisecond on. -/
def PC.older (c : PC) : PC :=
  { c with
    raiseT := Machine.older c.raiseT, lowerT := Machine.older c.lowerT, heightT := Machine.older c.heightT }

/-- An entry one millisecond on, with its heard claim. -/
def Entry.older (e : Entry) : Entry :=
  let t := e.mapRoof fun r => { r with claim := r.claim.map fun c => { c with age := c.age + 1 } }
  { t with age := e.age + 1, lostAge := Machine.older e.lostAge }

/-- The silence timer one millisecond on. -/
def Silence.older : Silence → Silence
  | .running n => .running (n + 1)
  | x => x

/-- The whole part one millisecond on. -/
def State.older (s : State) : State :=
  { s with
    rampClock := s.rampClock + 1
    pcA := s.pcA.older
    pcB := s.pcB.older
    bi := { s.bi with openConfirm := Machine.older s.bi.openConfirm }
    pv := { s.pv with
      table := s.pv.table.map Entry.older, silence := s.pv.silence.older, learningT := Machine.older s.pv.learningT }
    au := { s.au with
      holdOffT := Machine.older s.au.holdOffT, retestT := Machine.older s.au.retestT,
      retryT := Machine.older s.au.retryT, graceA := Machine.older s.au.graceA, graceB := Machine.older s.au.graceB }
    cc := { s.cc with rqTimer := Machine.older s.cc.rqTimer }
    ds := { s.ds with restoreT := Machine.older s.ds.restoreT }
    lau := { s.lau with
      periodClock := s.lau.periodClock + 1, statusT := Machine.older s.lau.statusT, gapT := Machine.older s.lau.gapT }
    ioc := { s.ioc with bucketClock := s.ioc.bucketClock + 1, stationaryT := Machine.older s.ioc.stationaryT }
    cl := { s.cl with read := Machine.older s.cl.read, retryT := Machine.older s.cl.retryT } }

/-- A list of the one command when it is due. -/
def dueCommand (b : Bool) (c : Instr) : List Instr := if b then [c] else []

/-- The expiries of one entry that are due (R56, R57, R63). -/
def Entry.due (e : Entry) (im : Image) : List Instr :=
  dueCommand (e.windowOver im) (.learningEntryRemoval e.addr) ++ dueCommand (e.lostOver im) (.entryLost e.addr) ++
  dueCommand e.holdOver (.lostHoldEnd e.addr) ++ dueCommand e.claimOver (.heardClaimAgeOut e.addr)

/-- The silence timer is due. -/
def Silence.due (x : Silence) (limit : Nat) : Bool :=
  match x with
  | .running n => limit ≤ n
  | _ => false

/-- The expiries that are due whatever the record says. -/
def State.dueAlways (s : State) : List Instr :=
  dueCommand (due s.cl.retryT Config.configRetryMs) .configRetryTimerExpiry ++
  dueCommand (Config.rampMs ≤ s.rampClock) .rampTick ++
  dueCommand (due s.pcA.heightT Config.heightMs) (.heightTimerExpiry .a) ++
  dueCommand (due s.pcB.heightT Config.heightMs) (.heightTimerExpiry .b) ++
  dueCommand (due s.au.retestT Config.retestMs) .reTestTimerExpiry ++
  dueCommand (due s.au.retryT Config.retestMs) .retryHoldEnd ++
  dueCommand (Config.errorPeriodMs ≤ s.lau.periodClock) .errorPeriodEnd ++
  dueCommand (due s.lau.statusT s.statusMs) .statusCountdownExpiry ++
  dueCommand (due s.lau.gapT Config.statusGapMs) .statusGapEnd ++
  dueCommand (Config.bucketMs ≤ s.ioc.bucketClock) .bucketClose ++
  dueCommand (due s.ioc.stationaryT Config.stationaryMs) .stationaryTimerExpiry

/-- The expiries whose limits the image gives. -/
def State.dueGood (s : State) (im : Image) : List Instr :=
  dueCommand (due s.bi.openConfirm im.tBrk) .openConfirmTimerExpiry ++
  dueCommand (due s.pcA.raiseT (im.tRaise * 1000)) (.raiseTimerExpiry .a) ++
  dueCommand (due s.pcB.raiseT (im.tRaise * 1000)) (.raiseTimerExpiry .b) ++
  dueCommand (due s.pcA.lowerT (im.tLower * 1000)) (.lowerTimerExpiry .a) ++
  dueCommand (due s.pcB.lowerT (im.tLower * 1000)) (.lowerTimerExpiry .b) ++
  s.pv.table.flatMap (fun e => e.due im) ++
  dueCommand (s.pv.silence.due im.tctlMs) .silenceTimerExpiry ++
  dueCommand (due s.pv.learningT (3 * im.tsMs)) .learningPeriodEnd ++
  dueCommand (due s.au.holdOffT im.thMs) .holdOffExpiry ++
  dueCommand (due s.au.graceA (3 * im.tsMs)) (.graceTimerExpiry .a) ++
  dueCommand (due s.au.graceB (3 * im.tsMs)) (.graceTimerExpiry .b) ++
  dueCommand (due s.cc.rqTimer (im.tRq * 1000)) .requalifyTimerExpiry ++
  dueCommand (due s.ds.restoreT im.restoreMs) .restoreTimerExpiry

/-- All the expiries that are due. -/
def State.dueCommands (s : State) : List Instr :=
  s.dueAlways ++
    match s.cl.image with
    | some im => s.dueGood im
    | none => []

/-- A millisecond without a command (log 2); a part held in reset stands still. -/
def State.tick (s : State) : State :=
  if s.released then { s.older with pending := s.pending ++ s.older.dueCommands } else s

end Sys2Proof.Machine
end

