-- ==== Sys2Proof/Machine/LineCode.lean ====
section
/-! DEFINITION. The signal of a frame on the RCL (R167): Manchester symbols, preamble, start and end mark, and the reading of
it with the coding check of R174. A signal is the list of the line's levels in half bit times, `true` for high. -/

namespace Sys2Proof.Machine

/-- The levels of one bit: a 1 is low and then high, a 0 high and then low (R167). -/
def bitHalves (b : Bool) : List Bool := [!b, b]

/-- The bits of a byte in the order on the line, the most significant first (R167). -/
def bitsOf (b : Byte) : List Bool :=
  [b.getLsbD 7, b.getLsbD 6, b.getLsbD 5, b.getLsbD 4, b.getLsbD 3, b.getLsbD 2, b.getLsbD 1, b.getLsbD 0]

/-- The sixteen half bit times of a byte. -/
def byteHalves (b : Byte) : List Bool := (bitsOf b).flatMap bitHalves

/-- The preamble: the bits 1, 0, 1, 0, 1, 0, 1, 0 (R167). -/
def preamble : List Bool := [true, false, true, false, true, false, true, false].flatMap bitHalves

/-- The start mark: the line high for a whole bit time, then low for one (R167). -/
def startMark : List Bool := [true, true, false, false]

/-- The end mark: the line low for two whole bit times (R167). -/
def endMark : List Bool := [false, false, false, false]

/-- The signal of a frame of the given bytes, header to CRC (R167). -/
def lineSignal (bytes : List Byte) : List Bool := preamble ++ startMark ++ bytes.flatMap byteHalves ++ endMark

/-- The bits from the start mark to the end mark; none where a symbol is no Manchester bit, where a mark stands among the
data, or where the line falls idle before the end mark (R174, Coding). -/
def readBits : List Bool → Option (List Bool)
  | [false, false, false, false] => some []
  | false :: true :: rest => (readBits rest).map (true :: ·)
  | true :: false :: rest => (readBits rest).map (false :: ·)
  | _ => none

/-- The byte of eight bits, the most significant first. -/
def byteOfBits (a b c d e f g h : Bool) : Byte :=
  BitVec.ofNat 8
    (128 * bit a + 64 * bit b + 32 * bit c + 16 * bit d + 8 * bit e + 4 * bit f + 2 * bit g + bit h)

/-- Bits as whole bytes; a part of a byte before the end mark is a coding fault. -/
def packBits : List Bool → Option (List Byte)
  | [] => some []
  | a :: b :: c :: d :: e :: f :: g :: h :: rest => (packBits rest).map (byteOfBits a b c d e f g h :: ·)
  | _ => none

/-- What follows the first start mark of a signal; none where it shows no start mark. A signal is given in whole bit times of
its sender (log 19), and whatever stands before the start mark, a whole preamble, a spoiled or a short one, is passed over:
a frame is formed from its start mark (R174). -/
def afterStart : List Bool → Option (List Bool)
  | true :: true :: false :: false :: rest => some rest
  | _ :: _ :: rest => afterStart rest
  | _ => none

/-- The command of a signal that shows a start mark (R174): the frame that its bytes make, or a coding fault. Activity without
a start mark is no frame and gives no command. -/
def receiveSignal (signal : List Bool) : Option Instr :=
  (afterStart signal).map fun rest => ((readBits rest).bind packBits).elim (.receiveError .coding) decodeLineFrame

end Sys2Proof.Machine
end

