-- ==== Sys2Proof/Machine/Outputs.lean ====
section
/-! DEFINITION. The output pins (10.1, 10.7) as the state drives them. -/

namespace Sys2Proof.Machine

/-- The outputs of one pantograph. -/
structure PanOutputs where
  valve : Bool
  force : Nat
  disc : Bool
  heat : Bool
  deriving DecidableEq, Repr

/-- The output pins; `driver` is RCL_DE, `memorySelect` CFG_CS, and `line` the signal of the frame on the line, in half bit
times of RCL_P against RCL_N (R167). -/
structure Outputs where
  panA : PanOutputs
  panB : PanOutputs
  permit : Bool
  flt : Bool
  driver : Bool
  memorySelect : Bool
  line : Option (List Bool)
  deriving DecidableEq, Repr

/-- The outputs of one pantograph (R27). -/
def State.panOutputs (s : State) (p : Pan) : PanOutputs where
  valve := (s.pc p).valve
  force := (s.pc p).duty
  disc := (s.pc p).disc
  heat := s.icu.heater p

/-- The output pins of a state. CFG_CS is selected exactly while a read of the record is in flight, from the release on: R200
gives only its state across reset and its owner (log 37, the model's choice). -/
def State.outputs (s : State) : Outputs where
  panA := s.panOutputs .a
  panB := s.panOutputs .b
  permit := s.bi.permit
  flt := s.al.flt
  driver := s.lau.onLine.isSome
  memorySelect := s.cl.read.isSome
  line := s.lau.onLine.map fun a => lineSignal (a.lineBytes s.cl.address)

end Sys2Proof.Machine
end

