-- ==== Sys2Proof/Safety.lean ====
section
/-! DEFINITION. What a safe part is: the laws of the device that the spec states, and the ranges of its counters, as
conditions on one state. -/

namespace Sys2Proof.Machine

/-- R27 for one controller: VALVE is on exactly in RISING and UP, a force target stands in no other state, and in DOWN and
FAULT F_set and the duty are 0. -/
structure PC.Table (c : PC) : Prop where
  valve : c.valve = c.risingOrUp
  target : c.risingOrUp = false → c.target = 0
  rest : c.state = .down ∨ c.state = .fault → c.fset = 0 ∧ c.duty = 0

/-- A field brought into a range (R203): in the range it stands, outside it goes to the nearest limit. -/
structure Clamps (lo hi raw c : Int) : Prop where
  stands : lo ≤ raw → raw ≤ hi → c = raw
  below : raw < lo → c = lo
  above : hi < raw → c = hi

/-- The two conditions under which R30 adds F_ice: the ICU is CLEARING, and Q is a live class that the pantograph's set
contains. -/
def State.IceForce (s : State) (im : Image) (p : Pan) : Prop :=
  s.icu.state = .clearing ∧ s.lq.q.live = true ∧ ∃ set, (im.pan p).set = some set ∧ set.contains s.lq.q = true

/-- R27, R30 for one pantograph: the target is 0 outside RISING and UP and in SOFT-RAMP, F_scrape in ISOLATED connection, and in
COLLECTING connection F_base, with F_ice under its two conditions, clamped to 40 to 140 N. -/
structure State.ForceOf (s : State) (im : Image) (p : Pan) : Prop where
  zero : (s.pc p).risingOrUp = false ∨ (s.pc p).lowering = some .softRamp → (s.pc p).target = 0
  scrape : (s.pc p).risingOrUp = true → (s.pc p).lowering ≠ some .softRamp → (s.pc p).disc = false →
    (s.pc p).target = im.fScrape
  base : (s.pc p).risingOrUp = true → (s.pc p).lowering ≠ some .softRamp → (s.pc p).disc = true → ¬s.IceForce im p →
    Clamps 40 140 (im.pan p).fBase (s.pc p).target
  ice : (s.pc p).risingOrUp = true → (s.pc p).lowering ≠ some .softRamp → (s.pc p).disc = true → s.IceForce im p →
    Clamps 40 140 ((im.pan p).fBase + im.fIce) (s.pc p).target

/-- R30 for both pantographs; before the configuration is good no force is asked. -/
structure State.ForceLaw (s : State) : Prop where
  good : ∀ im, s.cl.image = some im → ∀ p, s.ForceOf im p
  start : s.cl.image = none → ∀ p, (s.pc p).target = 0

/-- R27 and R30 for both controllers. -/
def State.OutputTable (s : State) : Prop := s.pcA.Table ∧ s.pcB.Table ∧ s.ForceLaw

/-- The law of R32: at most one pantograph in COLLECTING connection is RISING, UP or LOWERING. -/
def State.OneCollecting (s : State) : Prop := ¬(s.pcA.raisedCollecting = true ∧ s.pcB.raisedCollecting = true)

/-- The law of R34, of a pantograph that is not marked absent. -/
def State.IsolatedLaw (s : State) : Prop :=
  ∀ p, s.acts p = true → (s.pc p).risingOrUp = true → (s.pc p).disc = false →
    (s.pc p.other).upCollecting = true ∧ s.cc.phase = .normal

/-- A pantograph is UP in COLLECTING connection on a live Q that its set contains: conditions 3 and 4 of R50. -/
def State.Fed (s : State) (im : Image) : Prop :=
  ∃ p set, (s.pc p).state = .up ∧ (s.pc p).disc = true ∧ (im.pan p).set = some set ∧ s.lq.q.live = true ∧
    set.contains s.lq.q = true

/-- The five conditions of R50. -/
structure State.PermitConditions (s : State) : Prop where
  holdOpen : s.bi.hold = ⟨false, false, false, false, false⟩
  fed : ∃ im, s.cl.image = some im ∧ s.Fed im
  phase : s.cc.phase = .normal ∨ s.cc.phase = .closing

/-- R50 and its law: the permit is given exactly while the five conditions hold. -/
def State.PermitLaw (s : State) : Prop := s.bi.permit = true ↔ s.PermitConditions

/-- The addresses of a table. -/
def tableAddrs (table : List Entry) : List Nat := table.map fun e => e.addr.toNat

/-- The law of R54: one entry to an address at most, in rising order, none with the own address; a held part has none. -/
structure State.TableLaw (s : State) : Prop where
  rising : (tableAddrs s.pv.table).Pairwise (· < ·)
  notOwn : ∀ e ∈ s.pv.table, e.addr ≠ s.cl.address
  held : s.released = false → s.pv.table = []

/-- The law of R142: the draw is the sum of the ratings of the heaters that are on, and every heater is off while the
breaker reads OPEN or the phase is other than NORMAL or ARMED; without an image no heater is on. -/
def State.HeaterLaw (s : State) : Prop :=
  match s.cl.image with
  | some im =>
    s.icu.draw = drawOf im s.icu.heaterA s.icu.heaterB ∧
      (s.bi.closed = false ∨ ¬(s.cc.phase = .normal ∨ s.cc.phase = .armed) →
        s.icu.heaterA = false ∧ s.icu.heaterB = false ∧ s.icu.draw = 0)
  | none => s.icu.heaterA = false ∧ s.icu.heaterB = false ∧ s.icu.draw = 0

/-- A Pantograph Controller is in the set. -/
def HoldOpen.pan (h : HoldOpen) : Pan → Bool
  | .a => h.pcA
  | .b => h.pcB

/-- A collecting pantograph whose lowering has begun, or one in FAULT that still has DISC on (R43). -/
def PC.holdsOpen (c : PC) : Bool :=
  c.disc && ((c.risingOrUp && c.lowering.isSome) || c.state = .lowering || c.state = .fault)

/-- R43, R44, R49: who is in the hold-open set. A controller that acts is in it exactly while its collecting pantograph is
being lowered or is in FAULT, and is not in DOWN nor in FAULT with the DOWN sensor asserted, which also turns DISC off; the CC
is in it exactly from OPENING through REQUALIFY and in ABORTED, the DS exactly while a latch stands (R154), the CL exactly
while the configuration is not good, and no read and no retry run once it is (R202, R204). -/
structure State.HoldOpenLaw (s : State) : Prop where
  lowered : ∀ p, s.acts p = true → (s.pc p).holdsOpen = true → s.bi.hold.pan p = true
  down : ∀ p, s.acts p = true → (s.pc p).state = .down → s.bi.hold.pan p = false
  fault : ∀ p, s.acts p = true → (s.pc p).state = .fault → s.downSensor p = true →
    (s.pc p).disc = false ∧ s.bi.hold.pan p = false
  member : ∀ p, s.acts p = true → s.bi.hold.pan p = true → (s.pc p).holdsOpen = true
  cc : s.bi.hold.cc = true ↔ s.cc.phase ≠ .normal ∧ s.cc.phase ≠ .armed ∧ s.cc.phase ≠ .closing
  ds : s.bi.hold.ds = true ↔ s.ds.latch ≠ .empty
  cl : s.bi.hold.cl = true ↔ s.cl.image = none
  loader : s.cl.image.isSome = true → s.cl.read = none ∧ s.cl.retryT = none

/-- R51, R52: the open-confirm timer runs only on a good configuration while the breaker is closed without permit, and the
stuck flag stands only while the breaker reads CLOSED. -/
structure State.BreakerLaw (s : State) : Prop where
  timer : s.bi.openConfirm.isSome = true → s.good = true ∧ s.bi.permit = false ∧ s.bi.closed = true
  stuck : s.bi.stuck = true → s.bi.closed = true

/-- R183, R184: the top alert is the one that the flags give, and the lamp follows it. -/
def State.AlertLaw (s : State) : Prop :=
  s.al.top = topAlert s.cl.image s.al.flags ∧ s.al.flt = lampOf s.cl.image s.al.top

/-- R65, R67: the demand in force, the governing address and the held ice mode are those that the active entries form. -/
def State.DemandLaw (s : State) : Prop := s.pv.form = s.pv

/-- R81, R89 to R92: the open claim. No claim has a body or a hold-off timer outside SENT and HOLDING, the hold-off timer runs
exactly in HOLDING, and an open claim belongs to a want that stands in the list with the same pantograph and amount. The
amount of a HEAT want is the rating of its pantograph's heater (R139). -/
structure State.ClaimLaw (s : State) : Prop where
  body : s.au.body.isSome = s.au.claimOpen
  timer : s.au.holdOffT.isSome = true ↔ s.au.claim = .holding
  want : ∀ b, s.au.body = some b →
    match b.kind with
    | .raise => ∃ source, s.au.raise = some ⟨b.pan, source⟩
    | .scrape => s.au.scrape = some b.pan
    | .heat => s.au.heat = some ⟨b.pan, b.amount⟩
  rating : ∀ w, s.au.heat = some w → ∃ im, s.cl.image = some im ∧ w.amount = im.rating w.pan

/-- R96: the grace timer of a pantograph runs exactly while it is in late conflict, and never before the configuration is
good. -/
def State.ConflictLaw (s : State) : Prop :=
  ∀ p, (s.au.grace p).isSome = true ↔ ∃ im, s.cl.image = some im ∧ s.lateConflict im p = true

/-- R73, R74, R153: on a good configuration the group and the profile are those that the present speed, phase, Q and demand
give, and no RAISE want stands while a latch does. -/
structure State.AdmissionLaw (s : State) : Prop where
  group : ∀ im, s.cl.image = some im → s.au.group = s.profileGroup
  profile : ∀ im, s.cl.image = some im → s.au.profile = profileLookup im s.ioc.speed s.au.group
  inhibit : ∀ im, s.cl.image = some im → s.ds.latch ≠ .empty → s.au.raise = none

/-- R131, R134 to R137, R147: on a good configuration the ice state is OFF exactly while the off condition holds, without it
SUSPENDED exactly while the hold condition does, WATCH only in AUTO with the arc sum below T_ice, and CLEARING in AUTO only
with a clear streak below 16; the severe mark is the comparison of the arc sum, which is the sum of the arc pantograph's
ring; the clear streak is 0 outside CLEARING and never above 16. -/
structure State.IceLaw (s : State) : Prop where
  off : ∀ im, s.cl.image = some im → (s.icu.state = .off ↔ s.iceOff im = true)
  suspended : ∀ im, s.cl.image = some im → s.iceOff im = false → (s.icu.state = .suspended ↔ s.iceHold = true)
  watch : ∀ im, s.cl.image = some im → s.icu.state = .watch → s.icu.mode = .auto ∧ s.icu.arcSum < im.tIce
  clearing : ∀ im, s.cl.image = some im → s.icu.state = .clearing → s.icu.mode = .auto → s.icu.clearStreak < 16
  sum : s.icu.arcSum = match s.icu.arcPan with
    | some .a => s.icu.ringA.sum
    | some .b => s.icu.ringB.sum
    | none => 0
  severe : ∀ im, s.cl.image = some im → (s.icu.severe = true ↔ im.tSevere ≤ s.icu.arcSum)
  streak : s.icu.state ≠ .clearing → s.icu.clearStreak = 0
  limit : s.icu.clearStreak ≤ 16

/-- R203: the image in use is a clamped one. -/
def State.ImageLaw (s : State) : Prop := ∀ im, s.cl.image = some im → clampImage im = im

/-- The causes that the Drop Supervisor holds: the loop (R155), the force-drop of the demand in force (R157), a pantograph UP
in COLLECTING connection on a live Q outside its set in NORMAL (R158), silence (R159), one UP in COLLECTING connection with a
dead count of N_dead in NORMAL (R160), severe arcing (R161). FORCED is latched exactly while its cause is active (R157). -/
structure State.CauseLaw (s : State) : Prop where
  emergency : s.released = true → s.ds.cause.emergency = s.eloopOpen
  forced : s.ds.cause.forced = s.pv.force.forceDrop
  forcedLatch : s.ds.latch.forced = s.pv.force.forceDrop
  wrong : ∀ im, s.cl.image = some im → (s.ds.cause.wrongSystem = true ↔ s.cc.phase = .normal ∧
    ∃ p, (s.pc p).state = .up ∧ (s.pc p).disc = true ∧ s.lq.q.live = true ∧
      ∀ set, (im.pan p).set = some set → set.contains s.lq.q = false)
  silent : s.good = true → s.ds.cause.controlSilent = s.pv.silent
  lost : ∀ im, s.cl.image = some im → (s.ds.cause.lineLost = true ↔ s.cc.phase = .normal ∧
    (∃ p, (s.pc p).state = .up ∧ (s.pc p).disc = true) ∧ im.nDead ≤ s.lq.deadCount)
  severe : s.good = true → s.ds.cause.arcSevere = s.icu.severe

/-- The four maskable conditions (section 7.1). -/
def DropCondition.maskable : DropCondition → Bool
  | .wrongSystem | .controlSilent | .lineLost | .arcSevere => true
  | .emergency | .airLossA | .airLossB | .forced => false

/-- The three conditions of R162: auto-restore, a maskable latch, and an inactive cause of every latched maskable condition. -/
structure State.RestoreDue (s : State) : Prop where
  auto : ∃ im, s.cl.image = some im ∧ im.autoRestore = true
  latched : ∃ k, k.maskable = true ∧ s.ds.latch.get k = true
  inactive : ∀ k, k.maskable = true → s.ds.latch.get k = true → s.ds.cause.get k = false

/-- R162: the restore timer runs exactly while its three conditions hold. -/
def State.RestoreLaw (s : State) : Prop := s.ds.restoreT.isSome = true ↔ s.RestoreDue

/-- The lower requests that go with a new latch by the soft path (R151) have reached the controllers: a pantograph RISING or
UP is being lowered. -/
def State.AllLowering (s : State) : Prop :=
  ∀ p, s.acts p = true → (s.pc p).risingOrUp = true → (s.pc p).lowering.isSome = true

/-- Sections 5.4 to 5.6 for a state between two events: the countdown and the next collecting pantograph that each phase has
(R106 to R108, R121, R122), which is never in FAULT (R109); no phase stands whose end has come (R112, R114, R116, R120); the
raise ask and the requalify timer belong to REQUALIFY alone, where the timer runs exactly while the next collecting
pantograph is UP in COLLECTING connection and the ask stands exactly while it is not, with the count then 0 (R117, R119).
Before the configuration is good the Changeover Controller is as reset leaves it. -/
structure State.PhaseLaw (s : State) : Prop where
  start : s.cl.image = none → s.cc = CC.reset
  rest : s.cc.phase = .normal ∨ s.cc.phase = .aborted → s.cc.countdown = .stopped
  normal : s.cc.phase = .normal → s.cc.nextPan = none
  executing : s.cc.phase ≠ .normal → s.cc.phase ≠ .aborted →
    s.cc.current.isSome = true ∧ ∃ p, s.cc.nextPan = some p ∧ (s.pc p).state ≠ .fault
  armed : s.cc.phase = .armed → ∃ n, s.cc.countdown = .running .one n
  opening : s.cc.phase = .opening → s.bi.closed = true ∧ ∃ n, s.cc.countdown = .running .two n
  stowing : s.cc.phase = .stowing → (∃ leg n, leg ≠ .one ∧ s.cc.countdown = .running leg n) ∨ s.cc.countdown = .ended
  busy : s.cc.phase = .stowing → ∃ p, s.excluded p = true ∧ (s.pc p).state ≠ .down ∧ (s.pc p).state ≠ .fault
  coasting : s.cc.phase = .coasting → ∃ leg n, leg ≠ .one ∧ s.cc.countdown = .running leg n
  ended : s.cc.phase = .requalify ∨ s.cc.phase = .closing → s.cc.countdown = .ended
  asked : s.cc.phase ≠ .requalify → s.cc.raiseAsk = false ∧ s.cc.rqTimer = none
  raise : s.cc.phase = .requalify → ∀ p, s.cc.nextPan = some p →
    ((s.pc p).upCollecting = true → s.cc.raiseAsk = false ∧ s.cc.rqTimer.isSome = true) ∧
    ((s.pc p).upCollecting = false → s.cc.raiseAsk = true ∧ s.cc.rqTimer = none ∧ s.cc.rqCount = 0)
  closing : s.cc.phase = .closing → ∀ p sec, s.cc.nextPan = some p → s.cc.current = some sec →
    (s.pc p).upCollecting = true ∧ s.lq.q = sec.next
  waits : s.cc.phase = .closing → ∀ im, s.cl.image = some im →
    ¬(s.bi.hold = ⟨false, false, false, false, false⟩ ∧ s.Fed im)

/-- R200: a part that a reset holds is at its reset values, whatever waits in its queue. -/
def State.HeldLaw (s : State) : Prop :=
  s.released = false → s = { State.held s.resetCause with pending := s.pending }

/-- R4, R5: the accumulators of the window in progress are within the ranges of their samples. -/
structure LQ.InRange (q : LQ) : Prop where
  index : q.index ≤ 2303
  s1Low : -8192 * (q.index : Int) ≤ q.s1
  s1High : q.s1 ≤ 8191 * (q.index : Int)
  s2 : q.s2 ≤ 67108864 * q.index
  invalid : q.invalid ≤ q.index
  clipped : q.clipped ≤ q.index
  lastLow : -8192 ≤ q.lastUsed
  lastHigh : q.lastUsed ≤ 8191

/-- R7: the limits of the crossing tracker. -/
structure LQ.Tracked (q : LQ) : Prop where
  index : q.index ≤ 2303
  none : q.crossings = 0 → q.first = .none ∧ q.last = .none
  some : 0 < q.crossings → ∃ i j, q.first = .some i ∧ q.last = .some j ∧ 1 ≤ i ∧ i + 2 * (q.crossings - 1) ≤ j ∧
    j < q.index
  neg : q.side = .neg → 1 ≤ q.index ∧ ∀ j, q.last = .some j → j + 2 ≤ q.index

/-- The maxima that the spec states for the counters that saturate or wrap, the limits of the others that a rule bounds (run
counts R190, the pulse remainder R195, failed attempts R173), and the length of the arc rings (R130). -/
structure State.CounterLaw (s : State) : Prop where
  result : s.lq.resultCounter ≤ 65535
  candidate : s.lq.candCount ≤ 255
  unknown : s.lq.unknownStreak ≤ 255
  dead : s.lq.deadCount ≤ 255
  missed : s.pv.missedSeq ≤ 65535
  rxErrors : s.lau.rxErrors ≤ 65535
  collisions : s.lau.collisions ≤ 65535
  txDrops : s.lau.txDrops ≤ 65535
  period : s.lau.periodErrors ≤ 16
  sequence : s.lau.seq ≤ 255
  serial : s.au.serial ≤ 255
  arcs : s.icu.arcCount ≤ 255
  windowA : s.icu.winA ≤ 255
  windowB : s.icu.winB ≤ 255
  ringA : s.icu.ringA.length = 8 ∧ ∀ n ∈ s.icu.ringA, n ≤ 255
  ringB : s.icu.ringB.length = 8 ∧ ∀ n ∈ s.icu.ringB, n ≤ 255
  distance : s.ioc.distance ≤ 4294967295
  remainder : match s.cl.image with
    | some im => s.ioc.remainder < im.ppm ∧ s.cl.read = none ∧ s.cl.retryT = none
    | none => s.ioc.remainder = 0
  requalify : s.cc.rqCount ≤ 255
  runs : ∀ i, s.ioc.runs.get i < classTime i
  waiting : (∀ w, s.lau.wdSlot = some w → w.fails ≤ 7) ∧ (∀ c, s.lau.clSlot = some c → c.fails ≤ 7) ∧
    (∀ f, s.lau.stSlot = some f → f.fails ≤ 7) ∧ (∀ r, s.lau.rcSlot = some r → r.fails ≤ 7)
  attempt : ∀ a, s.lau.onLine = some a → a.fails ≤ 7

/-! ### Forms that statements share -/

/-- A timer that runs and, one millisecond on, has reached a limit. -/
def DueNext (t : Timer) (limit : Nat) : Prop := ∃ n, t = some n ∧ limit ≤ n + 1

/-- A STATUS carries the fields of a state with a good configuration (R188, section 12.2). -/
structure StatusFrame.Shows (f : StatusFrame) (s : State) (im : Image) : Prop where
  link : f.interval = im.ts ∧ f.configFault = false ∧ f.learning = s.pv.learning ∧ f.view = s.ioc.view
  cause : f.cause = if s.pv.learning then s.cl.cause else .none
  panA : f.panA = ⟨im.panA.present, s.icu.heaterA, s.pcA.state, s.pcA.disc, im.panA.p, setCode im.panA.set⟩
  panB : f.panB = ⟨im.panB.present, s.icu.heaterB, s.pcB.state, s.pcB.disc, im.panB.p, setCode im.panB.set⟩
  line : f.q = s.lq.q ∧ f.windowClass = s.lq.result.cls ∧ f.windowReason = s.lq.result.reason ∧
    f.rac = s.lq.result.rac ∧ f.mean = s.lq.result.mean
  freq : f.freq = match s.lq.result.freq with
    | some n => min (n / 10) 65535
    | none => 0
  phase : f.phase = s.cc.phase
  sectionId : f.sectionId = if s.cc.phase = .normal then 0 else (s.cc.current.map fun sec => sec.id).getD 0
  ice : f.draw = s.icu.draw ∧ f.ice = s.icu.state ∧ f.arcSum = min s.icu.arcSum 255
  alerts : f.drop = s.ds.latch ∧ f.top = s.al.top
  speed : f.speed = s.ioc.speed
  claim : f.claim = if s.au.claim = .sent ∨ s.au.claim = .holding then
    s.au.body.map fun b => ⟨b.kind, b.pan, s.au.serial, b.amount⟩ else none

/-! ### What a received payload says, mended -/

/-- The section record that a DEMAND carries (R64): none for id 0, length 0 or a next system that is no live class; distance and
length brought into their ranges. -/
structure CarriesSection (b : Vector Byte 10) (sect : Option SectionRecord) : Prop where
  ignored : sect = none ↔ b[4] = 0 ∨ b[7].toNat * 256 + b[8].toNat = 0 ∨ ¬(2 ≤ b[9].toNat ∧ b[9].toNat ≤ 5)
  fields : ∀ r, sect = some r → r.id = b[4].toNat ∧ r.next.live = true ∧ r.next.code = b[9].toNat ∧
    Clamps 0 8000 (b[5].toNat * 256 + b[6].toNat : Nat) r.dist ∧ Clamps 10 2000 (b[7].toNat * 256 + b[8].toNat : Nat) r.len

/-- A demand record mended by R64 (bytes by section 12.4): an expected-system code other than the four live classes is ANY, an
undefined ice mode code leaves the one before. -/
structure DemandRecord.Mends (d : DemandRecord) (before : Option IceMode) (b : Vector Byte 10) : Prop where
  bits : d.active = b[0].getLsbD 0 ∧ d.up = b[0].getLsbD 1 ∧ d.forceDrop = b[0].getLsbD 2
  expected : (∀ c, d.expected = .sys c → c.live = true ∧ c.code = b[1].toNat % 16) ∧
    (d.expected = .any ↔ ¬(2 ≤ b[1].toNat % 16 ∧ b[1].toNat % 16 ≤ 5))
  ice : d.ice = if b[1].toNat / 16 = 0 then some .off else if b[1].toNat / 16 = 1 then some .auto
    else if b[1].toNat / 16 = 2 then some .forced else before
  sect : CarriesSection b d.sect

/-- A pantograph record mended by R60 (bytes by section 12.2): an undefined state is UP, an undefined connection COLLECTING, an
undefined set BOTH, a position above L is L. -/
structure PanRecord.Mends (r : PanRecord) (trainLength : Nat) (flags hi lo : Byte) : Prop where
  bits : r.present = flags.getLsbD 0 ∧ r.heater = flags.getLsbD 1
  state : r.state = match flags.toNat / 4 % 8 with
    | 0 => .down
    | 1 => .rising
    | 2 => .up
    | 3 => .lowering
    | 4 => .fault
    | _ => .up
  connection : r.coll = false ↔ flags.toNat / 32 % 4 = 0
  position : r.p = min ((hi.toNat * 256 + lo.toNat) % 4096) trainLength
  set : r.set = if hi.toNat / 16 % 4 = 1 then .ac else if hi.toNat / 16 % 4 = 2 then .dc else .both

/-- The heard claim of a CLAIM payload mended by R62 (bytes by section 12.3), of age 0; an undefined kind or pantograph gives
none. -/
structure HeardFrom (trainLength : Nat) (b : Vector Byte 8) (claim : Option HeardClaim) : Prop where
  ignored : claim = none ↔ ¬(1 ≤ b[1].toNat ∧ b[1].toNat ≤ 3) ∨ 2 ≤ b[2].toNat
  fields : ∀ c, claim = some c → c.serial = b[0].toNat ∧ c.age = 0 ∧
    c.kind = (if b[1].toNat = 1 then .raise else if b[1].toNat = 2 then .scrape else .heat) ∧
    c.pan = (if b[2].toNat = 0 then .a else .b) ∧ c.p = min (b[3].toNat * 256 + b[4].toNat) trainLength ∧
    c.amount = b[5].toNat * 256 + b[6].toNat ∧ c.holdOff = b[7].toNat * 10

/-! ### What a command leaves, where the reactions of its event cannot undo it -/

/-- A pantograph dropped by a fast drop of its controller's own fault (R41), in a state of the part: LOWERING with its
outputs at zero, the pending cause the first one, PAN_FAULT requested, and the hold-open entry of a collecting one. -/
structure State.Dropped (t : State) (p : Pan) (before : PC) (cause : FaultCause) : Prop where
  state : (t.pc p).state = .lowering
  valve : (t.pc p).valve = false
  force : (t.pc p).fset = 0 ∧ (t.pc p).duty = 0
  timers : (t.pc p).raiseT = none ∧ (t.pc p).heightT = none ∧ (t.pc p).lowerT = Timer.started
  lowering : (t.pc p).lowering = none
  pending : (t.pc p).pendingFault = some (before.pendingFault.getD cause)
  request : t.al.requested (panFaultKind p) = true
  hold : before.disc = true → t.bi.hold.pan p = true

/-- A pantograph that cannot come to FAULT in an event of the part: DOWN, or in no FAULT, with air, and its DOWN sensor
negated. -/
def State.Sound (s : State) (p : Pan) : Prop :=
  (s.pc p).state = .down ∨ ((s.pc p).state ≠ .fault ∧ s.airOk p = true ∧ s.downSensor p = false)

/-- No maskable cause becomes active in an event (R152, R158 to R161): of silence, a wrong system, a lost line and severe
arcing none stands that the Drop Supervisor does not hold active already, the severe arcing not by the ring advance of an
abandoned window either. -/
structure State.NoNewCause (s : State) (im : Image) : Prop where
  silent : s.pv.silence = .expired → s.ds.cause.controlSilent = true
  wrong : s.wrongSystemCause im = true → s.ds.cause.wrongSystem = true
  lost : s.lineLostCause im = true → s.ds.cause.lineLost = true
  severe : im.tSevere ≤ s.icu.arcSum ∨ im.tSevere ≤ (s.icu.advance im.tClear).arcSum → s.ds.cause.arcSevere = true

/-- One receive error at the Link Access Unit (R174, R177, R178), but for the request. -/
def LAU.withError (l : LAU) : LAU :=
  { l with
    rxErrors := min 65535 (l.rxErrors + 1), periodErrors := min 16 (l.periodErrors + 1),
    degraded := l.degraded || l.periodErrors == 15 }

/-- No pantograph has anything to react to: none that is RISING or UP has lost its air, shows its DOWN sensor or, RISING, its
UP sensor, and none is being lowered. -/
def State.SensorsCalm (s : State) : Prop :=
  ∀ p, (s.pc p).risingOrUp = true →
    s.airOk p = true ∧ s.downSensor p = false ∧ ((s.pc p).state = .rising → s.upSensor p = false) ∧
      (s.pc p).lowering = none

/-- The ice state stays CLEARING by the table of R135. -/
def State.IceStands (s : State) (im : Image) : Prop :=
  s.icu.state = .clearing ∧ s.iceOff im = false ∧ s.iceHold = false ∧ ¬(s.icu.mode = .auto ∧ 16 ≤ s.icu.clearStreak)

/-- After a claim test (R88): a claim that is open passes the test, one that waits does not, and there is none exactly when
the want list is empty; the re-test timer has restarted, or stands stopped on an empty list. -/
structure State.Tested (t : State) (im : Image) : Prop where
  retest : t.au.retestT = if t.au.noWants then none else Timer.started
  opened : ∀ h, t.au.claimOpen = true → t.au.head = some h → t.passes im h = true
  waits : t.au.claim = .waiting → ∃ h, t.au.firstWant = some h ∧ t.passes im h = false
  none : t.au.claim = .none → t.au.noWants = true

/-! ### What the reactions of an event leave alone -/

/-- What no reaction of a block and no end of an event changes (log 6): the readings and clocks, the peer table with the
demand in force, the image, the queue, and of every other block what only its own commands change. The four transmit slots
of the Link Access Unit and its STATUS schedule stand outside it, but for the RECORD slot. -/
structure Kept where
  rampClock : Nat
  closed : Bool
  stuck : Bool
  holdCL : Bool
  pv : PV
  ioc : IOC
  cl : CL
  released : Bool
  resetCause : ResetCause
  pending : List Instr
  iceMode : IceMode
  arcCount : Nat
  arcFields : Option ArcFields
  lau : LAU
  retryT : Timer
  deriving DecidableEq, Repr

/-- The kept part of a state. -/
def State.kept (s : State) : Kept where
  rampClock := s.rampClock
  closed := s.bi.closed
  stuck := s.bi.stuck
  holdCL := s.bi.hold.cl
  pv := s.pv
  ioc := s.ioc
  cl := s.cl
  released := s.released
  resetCause := s.resetCause
  pending := s.pending
  iceMode := s.icu.mode
  arcCount := s.icu.arcCount
  arcFields := s.icu.arcFields
  lau := { s.lau with wdSlot := none, clSlot := none, stSlot := none, statusT := none, statusPending := false }
  retryT := s.au.retryT

/-- What the reactions of an event may do to a pantograph: never a grant (R32) and never a RESTORE (R45). DOWN and FAULT stay,
nothing comes to RISING, VALVE and DISC only go off, F_set and the duty stand or go to 0 together, and a recorded or pending
fault cause changes only with the state. -/
structure PC.Drift (c d : PC) : Prop where
  down : c.state = .down → d.state = .down
  fault : c.state = .fault → d.state = .fault ∧ d.fault = c.fault
  lowering : c.state = .lowering → d.state = .lowering ∨ d.state = .down ∨ d.state = .fault
  rising : d.state = .rising → c.state = .rising
  up : d.state = .up → c.state = .rising ∨ c.state = .up
  valve : d.valve = true → c.valve = true
  disc : d.disc = true → c.disc = true
  force : (d.fset = c.fset ∧ d.duty = c.duty) ∨ (d.fset = 0 ∧ d.duty = 0)
  cause : d.fault = c.fault ∨ d.state = .fault

/-- The reactions and the end of an event lead from one state to another: the kept part stands, both pantographs drift, the
window in progress stands or has been abandoned (R18, R19), and no request flag is lost. -/
structure State.Reacts (s t : State) : Prop where
  kept : t.kept = s.kept
  pcA : s.pcA.Drift t.pcA
  pcB : s.pcB.Drift t.pcB
  lq : t.lq = s.lq ∨ t.lq = s.lq.abandon
  flags : ∀ k, s.al.requested k = true → t.al.requested k = true

end Sys2Proof.Machine
end

