-- ==== Sys2Proof/Certificates/Slice0/Obligations.lean ====
section
/-! DEFINITION. The statements for the provers. A statement about a command concludes that exec answers a next state and says
what it holds; `State.Reacts d t` in it says that the state t follows from d by the reactions and the end of the event
alone, so that all of its kept part (the readings, tables, clocks, counters and queue) is that of d. -/

open Sys2Proof Sys2Proof.Machine

/-! ### The queue, resets and start-up -/

/-- A step takes the command at the front of the queue and runs it with the rest of the queue behind it. -/
def Obligations.StepRunsTheFrontCommand : Prop :=
  ∀ (c : Instr) (rest : List Instr) (s : State), s.pending = c :: rest → step s = exec c { s with pending := rest }

/-- The model's choice (log 2), not a rule of the spec: on an empty queue a millisecond passes. Every timer, every age of a
peer entry and of a heard claim, and every free-running clock moves on by one and nothing else changes, and each expiry
is put in the queue exactly when its timer, age or clock has then reached the limit that its rule names: raise, lower and
height timer, open confirmation, ramp tick, LEARNING removal, loss, LOST hold and claim age-out of each entry, silence,
learning period, hold-off, re-test, retry hold, grace, requalification, restore, STATUS countdown and gap, error period,
bucket, stationary timer and configuration retry. -/
def Obligations.EmptyQueueQueuesDueExpiries : Prop :=
  ∀ (s : State) (im : Image), s.released = true → s.cl.image = some im → s.pending = [] →
    ∃ t, step s = .next t ∧
      (let on (x : Timer) : Timer := x.map (· + 1)
      let pan (c : PC) : PC := { c with raiseT := on c.raiseT, lowerT := on c.lowerT, heightT := on c.heightT }
      t = { s with
        rampClock := s.rampClock + 1, pcA := pan s.pcA, pcB := pan s.pcB
        bi := { s.bi with openConfirm := on s.bi.openConfirm }
        pv := { s.pv with
          table := s.pv.table.map fun e => { e with
            age := e.age + 1, lostAge := on e.lostAge
            body := match e.body with
              | .roof r => .roof { r with claim := r.claim.map fun c => { c with age := c.age + 1 } }
              | .control k => .control k }
          silence := (match s.pv.silence with | .running n => .running (n + 1) | x => x)
          learningT := on s.pv.learningT }
        au := { s.au with
          holdOffT := on s.au.holdOffT, retestT := on s.au.retestT, retryT := on s.au.retryT, graceA := on s.au.graceA,
          graceB := on s.au.graceB }
        cc := { s.cc with rqTimer := on s.cc.rqTimer }
        ds := { s.ds with restoreT := on s.ds.restoreT }
        lau := { s.lau with
          periodClock := s.lau.periodClock + 1, statusT := on s.lau.statusT, gapT := on s.lau.gapT }
        ioc := { s.ioc with bucketClock := s.ioc.bucketClock + 1, stationaryT := on s.ioc.stationaryT }
        cl := { s.cl with read := on s.cl.read, retryT := on s.cl.retryT }
        pending := t.pending }) ∧
      (∀ p, (Instr.raiseTimerExpiry p ∈ t.pending ↔ DueNext (s.pc p).raiseT (im.tRaise * 1000)) ∧
        (Instr.lowerTimerExpiry p ∈ t.pending ↔ DueNext (s.pc p).lowerT (im.tLower * 1000)) ∧
        (Instr.heightTimerExpiry p ∈ t.pending ↔ DueNext (s.pc p).heightT 500) ∧
        (Instr.graceTimerExpiry p ∈ t.pending ↔ DueNext (s.au.grace p) (3 * (im.ts * 10)))) ∧
      (∀ a, (Instr.learningEntryRemoval a ∈ t.pending ↔
          ∃ e ∈ s.pv.table, e.addr = a ∧ e.state = .learning ∧ e.windowMs im ≤ e.age + 1) ∧
        (Instr.entryLost a ∈ t.pending ↔
          ∃ e ∈ s.pv.table, e.addr = a ∧ e.state = .valid ∧ e.lostMs im ≤ e.age + 1) ∧
        (Instr.lostHoldEnd a ∈ t.pending ↔
          ∃ e ∈ s.pv.table, e.addr = a ∧ e.state = .lost ∧ DueNext e.lostAge 2000) ∧
        (Instr.heardClaimAgeOut a ∈ t.pending ↔
          ∃ e ∈ s.pv.table, ∃ r c, e.addr = a ∧ e.body = .roof r ∧ r.claim = some c ∧ c.holdOff + 500 < c.age + 1)) ∧
      (Instr.rampTick ∈ t.pending ↔ 50 ≤ s.rampClock + 1) ∧
      (Instr.openConfirmTimerExpiry ∈ t.pending ↔ DueNext s.bi.openConfirm im.tBrk) ∧
      (Instr.silenceTimerExpiry ∈ t.pending ↔ ∃ n, s.pv.silence = .running n ∧ im.tctl * 100 ≤ n + 1) ∧
      (Instr.learningPeriodEnd ∈ t.pending ↔ DueNext s.pv.learningT (3 * (im.ts * 10))) ∧
      (Instr.holdOffExpiry ∈ t.pending ↔ DueNext s.au.holdOffT (im.th * 10)) ∧
      (Instr.reTestTimerExpiry ∈ t.pending ↔ DueNext s.au.retestT 1000) ∧
      (Instr.retryHoldEnd ∈ t.pending ↔ DueNext s.au.retryT 1000) ∧
      (Instr.requalifyTimerExpiry ∈ t.pending ↔ DueNext s.cc.rqTimer (im.tRq * 1000)) ∧
      (Instr.restoreTimerExpiry ∈ t.pending ↔ DueNext s.ds.restoreT im.restoreMs) ∧
      (Instr.statusCountdownExpiry ∈ t.pending ↔ DueNext s.lau.statusT (im.ts * 10)) ∧
      (Instr.statusGapEnd ∈ t.pending ↔ DueNext s.lau.gapT 20) ∧
      (Instr.errorPeriodEnd ∈ t.pending ↔ 10000 ≤ s.lau.periodClock + 1) ∧
      (Instr.bucketClose ∈ t.pending ↔ 250 ≤ s.ioc.bucketClock + 1) ∧
      (Instr.stationaryTimerExpiry ∈ t.pending ↔ DueNext s.ioc.stationaryT 2000) ∧
      (Instr.configRetryTimerExpiry ∈ t.pending ↔ DueNext s.cl.retryT 10000)

/-- A power-on reset, and RST low for two samples or more, hold the part at the values of State.held whatever it did, with
the outputs of R200; RST low for less does nothing. During a power-on reset that is still held the cause stays, the
model's reading (log 23, DEDUCED). The values of State.held that no rule states before the release are the model's (log
4, DESIGN CHOICE). -/
def Obligations.ResetsHoldThePart : Prop :=
  (∀ s : State, exec .powerOnReset s = .next { State.held .powerOn with pending := s.pending }) ∧
  (∀ (s : State) (n : Nat), n < 2 → exec (.rstAsserted n) s = .next s) ∧
  (∀ (s : State) (n : Nat), 2 ≤ n → ¬(s.released = false ∧ s.resetCause = .powerOn) →
    exec (.rstAsserted n) s = .next { State.held .resetLine with pending := s.pending }) ∧
  (∀ (s : State) (n : Nat), 2 ≤ n → s.released = false → s.resetCause = .powerOn →
    exec (.rstAsserted n) s = .next { State.held .powerOn with pending := s.pending }) ∧
  (∀ cause, (State.held cause).outputs =
    { panA := ⟨false, 0, false, false⟩, panB := ⟨false, 0, false, false⟩, permit := false, flt := true, driver := false,
      memorySelect := false, line := none })

/-- The model's reading (log 3, DEDUCED) of R200: a part that a reset holds acts on no command but its resets and its release,
and a held part is at its reset values, whatever waits in its queue; every step keeps that. -/
def Obligations.HeldPartKeepsItsResetValues : Prop :=
  (∀ (c : Instr) (s : State), s.released = false → c ≠ .powerOnReset → (∀ n, c ≠ .rstAsserted n) →
    (∀ pins straps, c ≠ .resetRelease pins straps) → exec c s = .next s) ∧
  (∀ s t : State, s.HeldLaw → step s = .next t → t.HeldLaw)

/-- The release of a reset (R192, R198, R201, R46, R48, R53, R165): levels, breaker state, direction view, address and
cause are taken at once, the controllers are DOWN or LOWERING by their DOWN sensors with all outputs off, the first
read starts, and an emergency loop that reads open is latched and requested. The rest of the part is as State.held
leaves it, values before the release being the model's (log 4). -/
def Obligations.ReleaseTakesPinsAndStraps : Prop :=
  ∀ (cause : ResetCause) (queue : List Instr) (pins : Levels) (straps : Addr),
    ∃ t, exec (.resetRelease pins straps) { State.held cause with pending := queue } = .next t ∧
      t.released = true ∧ t.pending = queue ∧
      t.cl.address = straps ∧ t.cl.image = none ∧ t.cl.read = Timer.started ∧
      t.cl.cause = (match cause with | .powerOn => RestartCause.powerOn | .resetLine => RestartCause.resetLine) ∧
      t.ioc = { IOC.reset with
        levels := pins, view := (if pins.dir then .end1 else .end2), stationaryT := Timer.started } ∧
      (∀ p, (t.pc p).state = (if levelOf pins (match p with | .a => .downA | .b => .downB) then .down else .lowering) ∧
        (t.pc p).valve = false ∧ (t.pc p).disc = false ∧ (t.pc p).fset = 0 ∧ (t.pc p).duty = 0 ∧
        (t.pc p).lowerT = none) ∧
      t.bi = ⟨⟨false, false, false, !pins.eloop, true⟩, false, pins.brkFb, none, false⟩ ∧
      t.ds.latch = { DropSet.empty with emergency := !pins.eloop } ∧
      t.al.requested .emergency = !pins.eloop ∧
      t.lq = LQ.reset ∧ t.pv = PV.reset ∧ t.cc = CC.reset ∧ t.au = AU.reset ∧ t.icu = ICU.reset

/-- A read that ends with a good record is the configuration-good event (R202, R204): the clamped image is in use, the
CL leaves the hold-open set, the learning timer starts, the levels and the view are formed afresh from the pins under
the image's polarities (R191, R198), an absent pantograph is held DOWN with its outputs off (R28), and the lower timer
of a LOWERING controller runs from 0 (R47). The pins are read at the event, an operand of the model's (log 29), and
the reactions follow in the order of log 6. -/
def Obligations.GoodRecordStartsThePart : Prop :=
  ∀ (s : State) (record : Vector Byte 128) (pins : Levels), s.released = true → s.cl.read.isSome = true →
    recordGood record = true →
    ∃ t, exec (.configReadEnd record pins) s = .next t ∧
      t.cl.image = some (clampImage (rawImage record)) ∧ t.cl.read = none ∧ t.cl.retryT = none ∧
      t.cl.clamped = decide (clampImage (rawImage record) ≠ rawImage record) ∧
      (clampImage (rawImage record) ≠ rawImage record → t.al.requested .configClamped = true) ∧
      t.bi.hold.cl = false ∧ t.pv.learningT = Timer.started ∧ t.lau.faultMode = false ∧
      t.ioc.levels = logical (clampImage (rawImage record)).polarities.levels pins ∧ t.ioc.runs = .zero ∧
      t.ioc.view = directionOf t.ioc.levels.dir ∧
      (s.bi.closed = s.ioc.levels.brkFb → t.bi.closed = t.ioc.levels.brkFb) ∧
      (∀ p, ((clampImage (rawImage record)).pan p).present = false →
        (t.pc p).state = .down ∧ (t.pc p).disc = false ∧ (t.pc p).valve = false ∧ (t.pc p).fset = 0 ∧
          t.bi.hold.pan p = false) ∧
      (∀ p, (t.pc p).state = .lowering → (t.pc p).lowerT = Timer.started) ∧
      (s.cl.verdictGiven = false → s.lau.gapT = none → t.lau.stSlot.isSome = true ∧ t.lau.statusT = Timer.started)

/-- A bad verdict, by the CRC or by the read timeout, requests CONFIG_FAULT, starts the retry timer and config-fault
mode and keeps the CL in the hold-open set; the retry timer's expiry starts a fresh read (R202). Nothing else is
touched but by reactions. That they act while their timer runs is the model's reading (log 1), the order of reactions
log 6. -/
def Obligations.BadRecordIsRetried : Prop :=
  (∀ (s : State), s.released = true → s.cl.read.isSome = true →
    ∀ c, (c = .configReadTimeout ∨ ∃ record pins, recordGood record = false ∧ c = .configReadEnd record pins) →
    ∃ t, exec c s = .next t ∧ t.al.requested .configFault = true ∧
      State.Reacts { s with
        cl := { s.cl with read := none, retryT := Timer.started, verdictGiven := true },
        lau := { s.lau with faultMode := true } } t) ∧
  (∀ (s : State), s.released = true → s.cl.retryT.isSome = true →
    ∃ t, exec .configRetryTimerExpiry s = .next t ∧
      State.Reacts { s with cl := { s.cl with retryT := none, read := Timer.started } } t)

/-- The clamping of R203: whatever the record holds, a field inside its range of section 11.4 stands and one outside goes to
the nearest limit; the adjustments follow in their order, each on the values left before it: an undefined set clears the
present flag and an undefined applies-to code is OFF, a position above L is L, T_h is at least 2 × T_s, T_clear stays below
and T_severe above T_ice. A field without a range stands. Every field is then in range, and clamping again changes
nothing. -/
def Obligations.ClampedImageIsInRange : Prop :=
  ∀ raw : Image,
    clampImage (clampImage raw) = clampImage raw ∧
    let i := clampImage raw
    (∀ p, Clamps 40 140 (raw.pan p).fBase (i.pan p).fBase ∧ Clamps 0 100 (raw.pan p).rating (i.pan p).rating ∧
      (i.pan p).set = (raw.pan p).set ∧
      ((i.pan p).present = true ↔ (raw.pan p).present = true ∧ (raw.pan p).set ≠ none) ∧
      Clamps 0 i.trainLength (raw.pan p).p (i.pan p).p) ∧
    (i.profiles.length = 4 ∧ ∀ (k : Nat) f g, raw.profiles[k]? = some f → i.profiles[k]? = some g →
      Clamps 0 400 f.low g.low ∧ Clamps 0 400 f.high g.high ∧ Clamps 1 8 f.maxCollecting g.maxCollecting ∧
      Clamps 0 800 f.minSpacing g.minSpacing ∧ Clamps 0 4 f.maxScraping g.maxScraping ∧
      Clamps 0 400 f.leadExclusion g.leadExclusion ∧
      g.applies = (if f.applies = .undefined then .off else f.applies) ∧ g.applies ≠ .undefined) ∧
    Clamps 10 800 raw.trainLength i.trainLength ∧ Clamps 1 16 raw.ppm i.ppm ∧ Clamps 5 50 raw.ts i.ts ∧
    (∃ th, Clamps 10 100 raw.th th ∧ (i.th : Int) = max th (2 * i.ts)) ∧ i.th ≤ 100 ∧
    Clamps 5 50 raw.tctl i.tctl ∧ Clamps 2 8 raw.kq i.kq ∧ Clamps 20 500 raw.h i.h ∧ Clamps 4 250 raw.nDead i.nDead ∧
    Clamps 0 2000 raw.budget i.budget ∧ Clamps (-20) 20 raw.ambientLimit i.ambientLimit ∧
    Clamps 1 100 raw.tIce i.tIce ∧
    (∃ c, Clamps 0 50 raw.tClear c ∧ (i.tClear : Int) = if (i.tIce : Int) ≤ c then (i.tIce : Int) - 1 else c) ∧
    i.tClear ≤ 50 ∧
    (∃ c, Clamps 2 255 raw.tSevere c ∧ (i.tSevere : Int) = if c ≤ (i.tIce : Int) then (i.tIce : Int) + 1 else c) ∧
    i.tSevere ≤ 255 ∧
    Clamps 0 40 raw.fIce i.fIce ∧ Clamps 30 100 raw.fScrape i.fScrape ∧ Clamps 500 10000 raw.scrapeDist i.scrapeDist ∧
    Clamps 0 20000 raw.cooldownDist i.cooldownDist ∧ Clamps 50 1000 raw.mOpen i.mOpen ∧
    Clamps 10 500 raw.mClose i.mClose ∧ Clamps 2 20 raw.tRq i.tRq ∧ Clamps 4 15 raw.tRaise i.tRaise ∧
    Clamps 3 10 raw.tLower i.tLower ∧ Clamps 100 2000 raw.tBrk i.tBrk ∧ Clamps 1 20 raw.rampStep i.rampStep ∧
    Clamps 100 300 raw.fFull i.fFull ∧ Clamps 0 4 raw.delayCode i.delayCode ∧
    (i.levels.length = raw.levels.length ∧
      ∀ (k : Nat) a b, raw.levels[k]? = some a → i.levels[k]? = some b → Clamps 0 7 a b) ∧
    Clamps 0 7 raw.lampThreshold i.lampThreshold ∧
    i.masks = raw.masks ∧ i.autoRestore = raw.autoRestore ∧ i.enables = raw.enables ∧ i.polarities = raw.polarities ∧
    i.arcLast = raw.arcLast

/-! ### The Line Qualifier -/

/-- The mean M (R8) is S1 / 2304 to the nearest integer, a tie away from zero, with the sign of S1, between -8192 and +8191 for
every S1 that a window can hold. -/
def Obligations.MeanRoundsHalfAwayFromZero : Prop :=
  ∀ s1 : Int, -18874368 ≤ s1 → s1 ≤ 18872064 →
    2 * (s1 - 2304 * meanOf s1).natAbs ≤ 2304 ∧
    (2 * (s1 - 2304 * meanOf s1).natAbs = 2304 → s1.natAbs < (2304 * meanOf s1).natAbs) ∧
    0 ≤ meanOf s1 * s1 ∧ -8192 ≤ meanOf s1 ∧ meanOf s1 ≤ 8191

/-- R10: Rac is the integer square root of VAR, the largest whole number r with r × r ≤ VAR, so that VAR < (Rac + 1)² always
holds; it lies between 0 and 8192 for every VAR up to 67,108,864. -/
def Obligations.AcMagnitudeIsTheExactRoot : Prop :=
  ∀ (s1 : Int) (s2 : Nat),
    racOf s1 s2 * racOf s1 s2 ≤ varianceOf s1 s2 ∧
    varianceOf s1 s2 < (racOf s1 s2 + 1) * (racOf s1 s2 + 1) ∧
    (∀ r, r * r ≤ varianceOf s1 s2 → r ≤ racOf s1 s2) ∧
    (varianceOf s1 s2 ≤ 67108864 → racOf s1 s2 ≤ 8192)

/-- R13: the class of a window is that of the one row that its reason, M, Rac and F satisfy, and UNKNOWN when its reason is
not OK or no row is satisfied. -/
def Obligations.ClassTableDecides : Prop :=
  ∀ (r : WindowReason) (m : Int) (rac : Nat) (f : Option Nat),
    (r ≠ .ok → classOf r m rac f = .unknown) ∧
    (r = .ok →
      (classOf r m rac f = .dead ↔ rac < 100 ∧ m.natAbs < 100) ∧
      (classOf r m rac f = .ac25 ↔
        (∃ x, f = some x ∧ 47000 ≤ x ∧ x ≤ 52000) ∧ 2917 ≤ rac ∧ rac ≤ 4833 ∧ m.natAbs ≤ 250) ∧
      (classOf r m rac f = .ac15 ↔
        (∃ x, f = some x ∧ 15500 ≤ x ∧ x ≤ 17500) ∧ 1834 ≤ rac ∧ rac ≤ 3000 ∧ m.natAbs ≤ 250) ∧
      (classOf r m rac f = .dc3 ↔ 334 ≤ m ∧ m ≤ 650 ∧ rac ≤ 100) ∧
      (classOf r m rac f = .dc15 ↔ 167 ≤ m ∧ m ≤ 325 ∧ rac ≤ 100))

/-- A sample inside a window (R1 to R6): the used value enters both sums and the crossing tracker, the counts rise by
the sample's marks, and the index advances; that window stands unless the same event changes the wiring (R17), as it cannot
while the state and the DISC of both pantographs stand. Before the configuration is good a sample is discarded (R26). What
follows by reactions is the order of events of log 6, the model's. -/
def Obligations.SampleIsTakenIntoTheWindow : Prop :=
  (∀ (s : State) (im : Image) (code : BitVec 14) (valid : Bool), s.released = true → s.cl.image = some im →
    s.lq.index < 2303 →
    ∃ t q, exec (.sampleEvent code valid) s = .next t ∧ State.Reacts { s with lq := q } t ∧
      (let u : Int := if valid then code.toInt else if s.lq.index = 0 then 0 else s.lq.lastUsed
      q.s1 = s.lq.s1 + u ∧ (q.s2 : Int) = s.lq.s2 + u * u ∧ q.lastUsed = u ∧ q.index = s.lq.index + 1 ∧
      q.invalid = s.lq.invalid + (if valid then 0 else 1) ∧
      q.clipped = s.lq.clipped + (if valid = true ∧ (code.toInt = 8191 ∨ code.toInt = -8192) then 1 else 0) ∧
      (u ≤ -(im.h : Int) → q.side = .neg ∧ q.crossings = s.lq.crossings ∧ q.first = s.lq.first ∧ q.last = s.lq.last) ∧
      (-(im.h : Int) < u → (im.h : Int) ≤ u → s.lq.side = .neg →
        q.side = .pos ∧ q.crossings = s.lq.crossings + 1 ∧ q.last = some s.lq.index ∧
          q.first = (if s.lq.crossings = 0 then some s.lq.index else s.lq.first)) ∧
      (-(im.h : Int) < u → (im.h : Int) ≤ u → s.lq.side ≠ .neg →
        q.side = .pos ∧ q.crossings = s.lq.crossings ∧ q.first = s.lq.first ∧ q.last = s.lq.last) ∧
      (-(im.h : Int) < u → u < (im.h : Int) →
        q.side = s.lq.side ∧ q.crossings = s.lq.crossings ∧ q.first = s.lq.first ∧ q.last = s.lq.last) ∧
      q.result = s.lq.result ∧ q.q = s.lq.q ∧ q.cand = s.lq.cand ∧ q.candCount = s.lq.candCount) ∧
      ((∀ p, (t.pc p).state = (s.pc p).state ∧ (t.pc p).disc = (s.pc p).disc) → t.lq = q)) ∧
  (∀ (s : State) (code : BitVec 14) (valid : Bool), s.released = true → s.cl.image = none →
    ∃ t, exec (.sampleEvent code valid) s = .next t ∧ State.Reacts s t)

/-- The sample of index 2303 ends its window (R4, R14, R15): the result record is replaced as a whole with the next
number, the window is clear, Q is in place in the same event, and more than 32 invalid samples request SENSOR_FAULT.
What follows by reactions is the order of events of log 6, the model's. -/
def Obligations.WindowEndReplacesTheResult : Prop :=
  ∀ (s : State) (im : Image) (code : BitVec 14) (valid : Bool), s.released = true → s.cl.image = some im →
    s.lq.index = 2303 →
    ∃ t, exec (.sampleEvent code valid) s = .next t ∧
      let w := s.lq.take im.h code valid
      State.Reacts { s with lq := w.close im.kq } t ∧
      t.lq.result =
        { number := if s.lq.resultCounter < 65535 then s.lq.resultCounter + 1 else 0
          cls := classOf (reasonOf w.clipped w.invalid) (meanOf w.s1) (racOf w.s1 w.s2)
            (freqOf w.crossings w.first w.last)
          reason := if 0 < w.clipped then .clip else if 32 < w.invalid then .samples else .ok
          mean := meanOf w.s1, rac := racOf w.s1 w.s2, freq := freqOf w.crossings w.first w.last
          invalid := w.invalid, clipped := w.clipped } ∧
      t.lq.resultCounter = t.lq.result.number ∧ t.lq.index = 0 ∧ t.lq.s1 = 0 ∧ t.lq.s2 = 0 ∧ t.lq.side = .none ∧
      t.lq.crossings = 0 ∧ t.lq.first = none ∧ t.lq.last = none ∧ t.lq.invalid = 0 ∧ t.lq.clipped = 0 ∧
      (32 < w.invalid → t.al.requested .sensorFault = true)

/-- Qualification at a window end: the candidate streak (R20), the unknown streak and Q by it (R22), with the dead count (R23)
and Q by a DEAD or a live class (R21). -/
def Obligations.QualificationFollowsTheResult : Prop :=
  ∀ (w : LQ) (kq : Nat),
    let q := w.close kq
    let c := q.result.cls
    q.cand = some c ∧
    (w.cand = some c → w.candCount ≤ 255 → q.candCount = min 255 (w.candCount + 1)) ∧
    (w.cand ≠ some c → q.candCount = 1) ∧
    (c = .unknown → w.unknownStreak ≤ 255 → q.unknownStreak = min 255 (w.unknownStreak + 1)) ∧
    (c ≠ .unknown → q.unknownStreak = 0) ∧
    (c = .unknown → q.q = if 8 ≤ q.unknownStreak then .unknown else w.q) ∧
    (c = .dead → w.deadCount ≤ 255 → q.deadCount = min 255 (w.deadCount + 1)) ∧
    (c ≠ .dead → q.deadCount = 0) ∧
    (c = .dead → q.q = .dead) ∧
    (c.live = true → q.q = if kq ≤ q.candCount then c else w.q)

/-- R24 with the law of R21: Q changes only at a window end and at reset. At a window end it changes only to the class of that
window's result: to a live class only with a candidate count of Kq or more, to UNKNOWN only with an unknown streak of 8 or
more. -/
def Obligations.QChangesOnlyAtWindowEnds : Prop :=
  ∀ (c : Instr) (rest : List Instr) (s t : State), s.pending = c :: rest → step s = .next t → t.lq.q ≠ s.lq.q →
    (t.released = false ∧ t.lq = LQ.reset) ∨
    ∃ code valid im, c = .sampleEvent code valid ∧ s.released = true ∧ s.cl.image = some im ∧ 2303 ≤ s.lq.index ∧
      t.lq.result.cls = t.lq.q ∧
      (t.lq.q.live = true → im.kq ≤ if s.lq.cand = some t.lq.q then satInc 255 s.lq.candCount else 1) ∧
      (t.lq.q = .unknown → 8 ≤ t.lq.unknownStreak)

/-- R5, R7 and the maxima of the counters: from every state whose window in progress is within the ranges of its samples and
the limits of the crossing tracker, and whose counters are within the maximum at which the spec lets each saturate or wrap,
every step leads to such a state. The counters are the result number, the candidate count, the unknown streak and the dead
count; missed sequence numbers, receive errors, collisions, TX drops, errors of the period, sequence and claim serial; the
arc record's and the windows' arc counts with the rings; the requalify result count; the train distance with its pulse
remainder; the run counts; and the failed attempts of a waiting frame. -/
def Obligations.WindowAndCountersStayInRange : Prop :=
  (∀ s t : State, s.HeldLaw → s.lq.InRange ∧ s.lq.Tracked → step s = .next t → t.lq.InRange ∧ t.lq.Tracked) ∧
  (∀ s t : State, s.HeldLaw → s.CounterLaw → step s = .next t → t.CounterLaw)

/-! ### Level inputs and the breaker -/

/-- An accepted level (R190) replaces that input's level and zeroes its run count, and reaches its readers in the same
event: the breaker state (R48, R52), EMERGENCY (R155), the direction view (R198), the sensors of a pantograph (R33,
R35, R36, R37, R42). Abandonment (R17 to R19): the UP sensor accepted for a pantograph that rises in COLLECTING connection
abandons the window in progress, empties the candidate streak and the dead count, advances the arc rings of a window that
holds a sample and makes it the arc pantograph (R130, R131); and no command but a sample changes anything in the Line
Qualifier while the state and the DISC of both pantographs stand, a hold-off expiry that grants a raise left aside, which may
raise and drop its pantograph in one event. BRK_FB accepted OPEN (R39): a collecting pantograph in SOFT-WAIT goes to SOFT-RAMP
with target 0 and VALVE as it was, and one in SOFT-RAMP with F_set 0 vents, as one in SOFT-WAIT with F_set 0 does by log 10.
That LEVEL_ACCEPTED accepts at any run count is the
model's choice (log 11), that a sensor reads asserted while its accepted level stands log 5; the order of reactions is
log 6. -/
def Obligations.AcceptedLevelReachesItsReaders : Prop :=
  (∀ (s : State) (i : LevelInput) (level : Bool), s.released = true → levelOf s.ioc.levels i ≠ level →
    ∃ t, exec (.levelAccepted i level) s = .next t ∧
      t.ioc = { s.ioc with
        levels := withLevel s.ioc.levels i level, runs := s.ioc.runs.set i 0,
        view := (if i = .dir ∧ s.ioc.stationary = true then directionOf level else s.ioc.view) } ∧
      t.bi.closed = (if i = .brkFb then level else s.bi.closed) ∧
      t.bi.stuck = (if i = .brkFb then s.bi.stuck && level else s.bi.stuck) ∧
      (i = .dir → s.ioc.stationary = false → directionOf level ≠ s.ioc.view → t.al.requested .sensorFault = true) ∧
      (i = .eloop → t.ds.cause.emergency = !level) ∧
      (i = .eloop → level = false → t.ds.latch.emergency = true ∧ t.al.requested .emergency = true ∧
        (s.ds.latch.emergency = false → ∀ p, s.acts p = true → (t.pc p).risingOrUp = false)) ∧
      (∀ p, s.acts p = true →
        (i = (match p with | .a => .upA | .b => .upB) → level = true → (t.pc p).state ≠ .rising) ∧
        (i = (match p with | .a => .upA | .b => .upB) → level = false → (t.pc p).state = .up →
          (t.pc p).heightT = Timer.started) ∧
        (i = (match p with | .a => .downA | .b => .downB) → level = true → (s.pc p).state = .lowering →
          (t.pc p).state = .down ∨ (t.pc p).state = .fault) ∧
        (i = (match p with | .a => .downA | .b => .downB) → level = true → (s.pc p).state = .up → s.airOk p = true →
          (t.pc p).state = .fault ∧ (t.pc p).fault = some .uncommandedDown ∧ (t.pc p).disc = false) ∧
        (i = (match p with | .a => .airA | .b => .airB) → level = false → (s.pc p).risingOrUp = true →
          (t.pc p).risingOrUp = false ∧ t.ds.latch.get (airLossOf p) = true ∧
            t.al.requested (panFaultKind p) = true))) ∧
  (∀ (s : State) (im : Image) (p : Pan), s.released = true → s.cl.image = some im → s.acts p = true →
    (s.pc p).state = .rising → (s.pc p).disc = true → (s.pc p).lowering = none → (s.pc p.other).disc = false →
    s.airOk p = true → s.upSensor p = false →
    ∃ t, exec (.levelAccepted (match p with | .a => .upA | .b => .upB) true) s = .next t ∧
      t.lq = { s.lq with
        s1 := 0, s2 := 0, invalid := 0, clipped := 0, index := 0, lastUsed := 0, side := .none, crossings := 0,
        first := none, last := none, cand := none, candCount := 0, deadCount := 0 } ∧
      t.icu.arcPan = some p ∧
      (s.lq.index = 0 → t.icu.ringA = s.icu.ringA ∧ t.icu.ringB = s.icu.ringB ∧ t.icu.winA = s.icu.winA ∧
        t.icu.winB = s.icu.winB) ∧
      (0 < s.lq.index → t.icu.ringA = s.icu.ringA.tail ++ [s.icu.winA] ∧ t.icu.ringB = s.icu.ringB.tail ++ [s.icu.winB] ∧
        t.icu.winA = 0 ∧ t.icu.winB = 0)) ∧
  (∀ (c : Instr) (s t : State), (∀ code valid, c ≠ .sampleEvent code valid) → exec c s = .next t → s.released = true →
    t.released = true → (c = .holdOffExpiry → ∀ h, s.au.head = some h → h.kind = .heat ∨ s.taken h = false) →
    (∀ p, (t.pc p).state = (s.pc p).state ∧ (t.pc p).disc = (s.pc p).disc) → t.lq = s.lq) ∧
  (∀ (s : State) (p : Pan), s.released = true → s.ioc.levels.brkFb = true → s.acts p = true →
    (s.pc p).risingOrUp = true → (s.pc p).disc = true → s.airOk p = true → s.downSensor p = false →
    ∃ t, exec (.levelAccepted .brkFb false) s = .next t ∧
      ((s.pc p).lowering = some .softWait → (s.pc p).fset ≠ 0 →
        (t.pc p).risingOrUp = true ∧ (t.pc p).lowering = some .softRamp ∧ (t.pc p).target = 0 ∧
          (t.pc p).valve = (s.pc p).valve ∧ (t.pc p).fset = (s.pc p).fset) ∧
      ((s.pc p).lowering.isSome = true → (s.pc p).fset = 0 →
        (t.pc p).state = .lowering ∧ (t.pc p).valve = false ∧ (t.pc p).lowering = none ∧
          (t.pc p).lowerT = Timer.started ∧ (t.pc p).raiseT = none ∧ (t.pc p).heightT = none))

/-- One millisecond sample of the level inputs (R190): for each of them the level stands with its run count 0, or the
count rises, or at the class time the new level is accepted with the count 0. How this command and LEVEL_ACCEPTED
stand to each other is the model's choice (log 11). -/
def Obligations.LevelSamplesCountToTheClassTime : Prop :=
  ∀ (s : State) (pins : Levels), s.released = true →
    ∃ t, exec (.levelInputSample pins) s = .next t ∧
      (∀ i,
        let l := levelOf (logical s.levelPolarity pins) i
        (l = levelOf s.ioc.levels i → levelOf t.ioc.levels i = l ∧ t.ioc.runs.get i = 0) ∧
        (l ≠ levelOf s.ioc.levels i → s.ioc.runs.get i + 1 < classTime i →
          levelOf t.ioc.levels i = levelOf s.ioc.levels i ∧ t.ioc.runs.get i = s.ioc.runs.get i + 1) ∧
        (l ≠ levelOf s.ioc.levels i → classTime i ≤ s.ioc.runs.get i + 1 →
          levelOf t.ioc.levels i = l ∧ t.ioc.runs.get i = 0)) ∧
      classTime .eloop = 2 ∧ classTime .airA = 2 ∧ classTime .airB = 2 ∧ classTime .brkFb = 20 ∧ classTime .dir = 100 ∧
      classTime .upA = 20 ∧ classTime .downA = 20 ∧ classTime .upB = 20 ∧ classTime .downB = 20

/-- R51, R52: the expiry of a running open-confirm timer sets the stuck flag and requests BREAKER_STUCK, and nothing
else but by reactions; and wherever that timer runs only while the breaker is closed without permit, and the stuck
flag stands only on a closed breaker, every step keeps it so. That the expiry acts while its timer runs is log 1, the
order of reactions log 6. -/
def Obligations.StuckBreakerIsReported : Prop :=
  (∀ s : State, s.released = true → s.bi.openConfirm.isSome = true →
    ∃ t, exec .openConfirmTimerExpiry s = .next t ∧ t.al.requested .breakerStuck = true ∧
      State.Reacts { s with bi := { s.bi with stuck := true } } t) ∧
  (∀ s t : State, s.HeldLaw → s.BreakerLaw → step s = .next t → t.BreakerLaw)

/-- R50 and its law: BRK_PERMIT is given exactly while its five conditions hold; every step keeps it. The open-confirm timer
(R51) starts at the event after which the breaker is closed without permit on a good configuration and was not before, and
runs on while it stays so, until its expiry. That the permit is formed at the end of an event is log 6. -/
def Obligations.PermitOnlyUnderItsFiveConditions : Prop :=
  (∀ s t : State, s.PermitLaw → step s = .next t → t.PermitLaw) ∧
  (∀ (c : Instr) (rest : List Instr) (s t : State), s.pending = c :: rest → step s = .next t → s.released = true →
    t.released = true →
    let unpermitted (u : State) : Prop := u.cl.image.isSome = true ∧ u.bi.permit = false ∧ u.bi.closed = true
    (unpermitted t → ¬unpermitted s → t.bi.openConfirm = Timer.started) ∧
    (unpermitted t → unpermitted s → c ≠ .openConfirmTimerExpiry → t.bi.openConfirm = s.bi.openConfirm))

/-- R43, R44, R49, R154: every step keeps the members of the hold-open set those that its table gives: a controller that acts
exactly while its collecting pantograph is being lowered or is in FAULT with DISC on, the CC exactly from OPENING through
REQUALIFY and in ABORTED, the DS exactly while a latch stands, the CL exactly while the configuration is not good. -/
def Obligations.HoldOpenSetFollowsItsTable : Prop :=
  ∀ s t : State, s.HeldLaw → s.HoldOpenLaw → step s = .next t → t.HoldOpenLaw

/-! ### Pantographs -/

/-- The expiries of the raise timer (R33) and of the height timer (R35) make a fast drop with their fault as pending
cause (R41): the first cause stands, PAN_FAULT is requested, a collecting pantograph enters the hold-open set. The
expiry of the lower timer (R42, R44): FAULT with the pending cause or LOWER_TIMEOUT, the outputs at zero, the timers
stopped; DISC and the hold-open entry by the DOWN sensor. That an expiry acts while its timer runs is log 1, the order
of reactions log 6. -/
def Obligations.ControllerTimersEndInTheirFaults : Prop :=
  (∀ (s : State) (p : Pan), s.released = true → s.acts p = true → (s.pc p).risingOrUp = true → s.downSensor p = false →
    ((s.pc p).raiseT.isSome = true →
      ∃ t, exec (.raiseTimerExpiry p) s = .next t ∧ t.Dropped p (s.pc p) .raiseTimeout) ∧
    ((s.pc p).heightT.isSome = true →
      ∃ t, exec (.heightTimerExpiry p) s = .next t ∧ t.Dropped p (s.pc p) .heightLoss)) ∧
  (∀ (s : State) (p : Pan), s.released = true → s.acts p = true → (s.pc p).lowerT.isSome = true →
    ∃ t, exec (.lowerTimerExpiry p) s = .next t ∧
      (t.pc p).state = .fault ∧ (t.pc p).fault = some ((s.pc p).pendingFault.getD .lowerTimeout) ∧
      (t.pc p).pendingFault = none ∧ (t.pc p).valve = false ∧ (t.pc p).fset = 0 ∧ (t.pc p).duty = 0 ∧
      (t.pc p).raiseT = none ∧ (t.pc p).lowerT = none ∧ (t.pc p).heightT = none ∧
      t.al.requested (panFaultKind p) = true ∧
      (t.pc p).disc = ((s.pc p).disc && !s.downSensor p) ∧
      (s.downSensor p = true → t.bi.hold.pan p = false) ∧
      (s.downSensor p = false → (s.pc p).disc = true → t.bi.hold.pan p = true))

/-- A ramp tick (R31) completes in every state of a released part: F_set of each controller moves toward its target by the
ramp step, or onto it when it is no further away, and the duty is ⌊F_set × 1000 / F_full⌋ clamped to 1000; a pantograph that
the same event drops has both at 0, which none with air and its DOWN sensor negated is. A collecting pantograph in SOFT-RAMP
whose F_set so reaches 0 vents where the breaker reads OPEN, and keeps VALVE on and its SOFT-RAMP where it reads CLOSED; above
one step it goes on ramping (R39). Before the configuration is good no force is set. The ramp clock restarts at the command by
log 28; the order of reactions is log 6. -/
def Obligations.RampTickMovesTheForce : Prop :=
  (∀ (s : State) (im : Image), s.released = true → s.cl.image = some im →
    ∃ t a b, exec .rampTick s = .next t ∧
      State.Reacts { s with
        rampClock := 0,
        pcA := { s.pcA with fset := a, duty := min 1000 (a * 1000 / im.fFull) },
        pcB := { s.pcB with fset := b, duty := min 1000 (b * 1000 / im.fFull) } } t ∧
      (∀ c n, (c = s.pcA ∧ n = a) ∨ (c = s.pcB ∧ n = b) →
        (c.fset + im.rampStep < c.target → n = c.fset + im.rampStep) ∧
        (c.target + im.rampStep < c.fset → n + im.rampStep = c.fset) ∧
        (c.fset ≤ c.target + im.rampStep → c.target ≤ c.fset + im.rampStep → n = c.target)) ∧
      (∀ p n, n = (match p with | .a => a | .b => b) →
        ((t.pc p).fset = n ∧ (t.pc p).duty = min 1000 (n * 1000 / im.fFull)) ∨
          ((t.pc p).fset = 0 ∧ (t.pc p).duty = 0 ∧ (t.pc p).risingOrUp = false)) ∧
      (∀ p n, n = (match p with | .a => a | .b => b) → s.airOk p = true → s.downSensor p = false →
        (t.pc p).fset = n ∧ (t.pc p).duty = min 1000 (n * 1000 / im.fFull)) ∧
      (∀ p, (im.pan p).present = true → (s.pc p).risingOrUp = true → (s.pc p).disc = true →
        (s.pc p).lowering = some .softRamp → (s.pc p).target = 0 → s.airOk p = true → s.downSensor p = false →
        ((s.pc p).fset ≤ im.rampStep → s.bi.closed = false →
          (t.pc p).state = .lowering ∧ (t.pc p).valve = false ∧ (t.pc p).lowering = none ∧ (t.pc p).fset = 0 ∧
            (t.pc p).lowerT = Timer.started) ∧
        ((s.pc p).fset ≤ im.rampStep → s.bi.closed = true →
          (t.pc p).risingOrUp = true ∧ (t.pc p).valve = (s.pc p).valve ∧ (t.pc p).lowering = some .softRamp ∧
            (t.pc p).fset = 0) ∧
        (im.rampStep < (s.pc p).fset →
          (t.pc p).risingOrUp = true ∧ (t.pc p).valve = (s.pc p).valve ∧ (t.pc p).lowering = some .softRamp ∧
            (t.pc p).fset + im.rampStep = (s.pc p).fset))) ∧
  (∀ s : State, s.released = true → s.cl.image = none →
    ∃ t, exec .rampTick s = .next t ∧ State.Reacts { s with rampClock := 0 } t ∧
      ∀ p, s.airOk p = true → s.downSensor p = false →
        (t.pc p).fset = (s.pc p).fset ∧ (t.pc p).duty = (s.pc p).duty)

/-- The table of R38 with R39, R40 and R41: what a soft and a fast lower request do to a pantograph by its state, and
that the other pantograph and everything else stand. A soft lowering with F_set 0 on an open breaker is the choice of
log 10 and not stated here. -/
def Obligations.LowerRequestsFollowTheState : Prop :=
  ∀ (s : State) (p : Pan), s.acts p = true →
    ((s.pc p).risingOrUp = false ∨ (s.pc p).lowering.isSome = true → s.softLower p = s) ∧
    ((s.pc p).risingOrUp = true → (s.pc p).lowering = none →
      ((s.pc p).disc = false → s.softLower p = s.setPc p { s.pc p with
        valve := false, state := .lowering, raiseT := none, heightT := none, lowerT := Timer.started }) ∧
      ((s.pc p).disc = true → s.bi.closed = true → s.softLower p = (s.setPc p { s.pc p with
        lowering := some .softWait, raiseT := none }).holdPan p true) ∧
      ((s.pc p).disc = true → s.bi.closed = false → (s.pc p).fset ≠ 0 → s.softLower p = (s.setPc p { s.pc p with
        lowering := some .softRamp, raiseT := none }).holdPan p true)) ∧
    ((s.pc p).risingOrUp = true → s.fastDrop p =
      let t := s.setPc p { s.pc p with
        valve := false, lowering := none, state := .lowering, raiseT := none, heightT := none, lowerT := Timer.started,
        fset := 0, duty := 0 }
      if (s.pc p).disc then t.holdPan p true else t) ∧
    ((s.pc p).state = .lowering → s.fastDrop p = s.setPc p { s.pc p with fset := 0, duty := 0 }) ∧
    ((s.pc p).state = .down ∨ (s.pc p).state = .fault → s.fastDrop p = s)

/-- R27, R30: every step keeps VALVE on exactly in RISING and UP, F_set with the duty 0 in DOWN and FAULT, and the force target
of each pantograph: 0 outside RISING and UP and in SOFT-RAMP, F_scrape in ISOLATED connection, and in COLLECTING connection
F_base, with F_ice while the ICU is CLEARING and Q is a live class of its set, clamped to 40 to 140 N; 0 before the
configuration is good. -/
def Obligations.OutputsFollowThePantographState : Prop :=
  ∀ s t : State, s.OutputTable → step s = .next t → t.OutputTable

/-- The law of R32: at most one pantograph in COLLECTING connection is RISING, UP or LOWERING. The law of R34: an isolated
pantograph is RISING or UP only beside the other one UP in COLLECTING connection in phase NORMAL. Every step keeps both. -/
def Obligations.RaisedPantographsStandByTheirLaws : Prop :=
  (∀ s t : State, s.OneCollecting → step s = .next t → t.OneCollecting) ∧
  (∀ s t : State, s.IsolatedLaw → step s = .next t → t.IsolatedLaw)

/-- The law of R39: with the breaker CLOSED before and after a step, a pantograph that was UP and COLLECTING is
LOWERING after it only by its controller's own fault drop, by EMERGENCY or by the section-entry forced drop. That the
step of a command is one event of the part is log 6. -/
def Obligations.CollectingLeavesTheWireOnlyOnAnOpenBreaker : Prop :=
  ∀ (s t : State) (p : Pan), step s = .next t → s.released = true → t.released = true → s.bi.closed = true →
    t.bi.closed = true → (s.pc p).upCollecting = true → (t.pc p).state = .lowering →
    (t.pc p).pendingFault.isSome = true ∨ t.ds.latch.emergency = true ∨ t.cc.forcedDrop = true

/-- The law of R45: a pantograph leaves FAULT only for DOWN, by a DEMAND whose restore toggle acts while its DOWN sensor is
asserted, or by reset, or where the image marks it absent (R28). -/
def Obligations.FaultIsLeftOnlyByRestore : Prop :=
  ∀ (c : Instr) (rest : List Instr) (s t : State) (p : Pan), s.pending = c :: rest → step s = .next t →
    s.released = true → t.released = true → (s.pc p).state = .fault → (t.pc p).state ≠ .fault →
    (t.pc p).state = .down ∧
      ((∃ h b, c = .demandReceived h b ∧ ({ s with pending := rest }.demandToggles h b).restore = true ∧
        s.downSensor p = true) ∨
      ∃ record pins, c = .configReadEnd record pins ∧ t.present p = false)

/-- The law of R92 with R32, R86 and R153: VALVE comes on, and a heater comes on, only at the hold-off expiry of the own claim
in HOLDING for that pantograph, whose test passes on the view of that event; VALVE only from DOWN with no drop condition
latched, the DOWN sensor asserted and air, and in COLLECTING connection only on an open breaker and under a demand in force
that governs with UP (R82, R117; in REQUALIFY by log 34). -/
def Obligations.RaisesAndHeatersComeOnlyFromTheOwnClaim : Prop :=
  ∀ (s t : State) (p : Pan), step s = .next t →
    (((s.pc p).valve = false ∧ (t.pc p).valve = true) ∨ (s.icu.heater p = false ∧ t.icu.heater p = true)) →
    ∃ im h, s.pending.head? = some .holdOffExpiry ∧ s.released = true ∧ s.cl.image = some im ∧
      s.au.claim = .holding ∧ s.au.head = some h ∧ h.pan = p ∧ s.passes im h = true ∧
      ((s.pc p).valve = false → (t.pc p).valve = true →
        h.kind ≠ .heat ∧ (s.pc p).state = .down ∧ s.ds.latch = .empty ∧ s.downSensor p = true ∧ s.airOk p = true ∧
          (h.kind = .raise → s.bi.closed = false ∧ s.pv.force.presence = .governing ∧ s.pv.force.pan = .up)) ∧
      (s.icu.heater p = false → t.icu.heater p = true →
        h.kind = .heat ∧ s.icu.state = .clearing ∧ s.bi.closed = true ∧ (s.cc.phase = .normal ∨ s.cc.phase = .armed))

/-! ### Frames and the Peer View -/

/-- A DEMAND of another node of kind CONTROL (R54, R55, R58, R64, R66, R69): its entry is VALID, or LEARNING when new, with the
record mended as R64 says and the toggles, and no other entry changes; a DEMAND of an active entry restarts the silence
timer; a restore toggle that acts takes a pantograph out of FAULT and clears the latches that R163 lists: EMERGENCY with the
loop closed, AIR_LOSS with air and the pantograph DOWN, or in FAULT on its DOWN sensor, a maskable one whose cause is inactive
(one with an active cause stands, but for a restore timer of delay 0), while FORCED follows its cause; that no cause then comes
in anew is a premise of the clearing. A report toggle places a RECORD with the fields of R187, taken before a clear of the same
frame (R186); a clear toggle zeroes the link counters, empties the arc record and clears each request flag whose cause is
inactive, those with an active cause standing (R133, R176, R185); without one no flag is cleared. In NORMAL a new section of
the demand in force becomes the one in execution (R101, R102), but while the learning period runs none does (R126, log 35). The
order in which restore, reactions, report and clear act in the event is the model's choice (log 7, log 26). -/
def Obligations.DemandIsTakenIntoItsEntry : Prop :=
  (∀ (before : Option IceMode) (b : Vector Byte 10), (demandContent before b).Mends before b ∧
    togglesOf b = ⟨b[2].toNat % 16, b[2].toNat / 16, b[3].toNat % 16⟩) ∧
  ∀ (s : State) (im : Image) (h : RxHeader) (b : Vector Byte 10), s.TableLaw → s.released = true → s.cl.image = some im →
    h.src ≠ s.cl.address → h.kind = .control →
    ∃ t e, exec (.demandReceived h b) s = .next t ∧ findEntry t.pv.table h.src = some e ∧
      e.addr = h.src ∧ e.lastSeq = h.seq.toNat ∧ e.age = 0 ∧
      (let old := (findEntry s.pv.table h.src).filter fun x => x.body.kind = .control
      e.state = (if old.isSome then .valid else .learning) ∧
      e.body = .control ⟨demandContent (old.bind fun x => x.control.demand.ice) b, some (togglesOf b)⟩) ∧
      (∀ a, a ≠ h.src → findEntry t.pv.table a = findEntry s.pv.table a) ∧
      ((∃ x, findEntry s.pv.table h.src = some x ∧ x.body.kind = .roof) → t.al.requested .addressClash = true) ∧
      (e.active.isSome = true → s.pv.learning = false → t.pv.silence = .running 0) ∧
      (e.active = none → t.pv.silence = s.pv.silence) ∧
      ((s.demandToggles h b).restore = true → ∀ p, (im.pan p).present = true → (s.pc p).state = .fault →
        s.downSensor p = true → (t.pc p).state = .down) ∧
      ((s.demandToggles h b).restore = true →
        t.ds.latch.emergency = (s.ds.latch.emergency && s.eloopOpen) ∧ t.ds.latch.forced = t.pv.force.forceDrop ∧
        (∀ p, s.ds.latch.get (airLossOf p) = true → (t.ds.latch.get (airLossOf p) = false ↔
          s.airOk p = true ∧ ((s.pc p).state = .down ∨ ((s.pc p).state = .fault ∧ s.downSensor p = true)))) ∧
        ∀ k, k.maskable = true → s.ds.latch.get k = true →
          (s.ds.cause.get k = true → k ≠ .controlSilent → im.autoRestore = false ∨ im.delayCode ≠ 0 →
            t.ds.latch.get k = true) ∧
          (s.ds.cause.get k = false ∨ (k = .controlSilent ∧ s.pv.learning = false) → s.NoNewCause im → s.SensorsCalm →
            s.cc.phase ≠ .aborted → t.ds.latch.get k = false)) ∧
      ((s.demandToggles h b).report = true → ∃ f, t.lau.rcSlot = some ⟨f, 0, none⟩ ∧ f.latches = t.ds.latch ∧
        f.faultA = t.pcA.fault ∧ f.faultB = t.pcB.fault ∧ f.rxErrors = s.lau.rxErrors ∧
        f.collisions = s.lau.collisions ∧ f.txDrops = s.lau.txDrops ∧ f.missedSeq = s.pv.missedSeq ∧
        f.invalid = s.lq.result.invalid ∧ f.clipped = s.lq.result.clipped ∧ f.arcCount = s.icu.arcCount ∧
        f.lastMode = im.arcLast ∧ f.arc = s.icu.arcFields ∧
        (∀ k, t.al.requested k = true ∨ s.al.requested k = true → f.requests.getLsbD k.number = true) ∧
        ((s.demandToggles h b).clear = false → f.requests = t.al.flags)) ∧
      ((s.demandToggles h b).report = false → t.lau.rcSlot = s.lau.rcSlot) ∧
      ((s.demandToggles h b).clear = true → t.lau.rxErrors = 0 ∧ t.lau.collisions = 0 ∧ t.lau.txDrops = 0 ∧
        t.pv.missedSeq = 0 ∧ t.icu.arcCount = 0 ∧ t.icu.arcFields = none ∧
        ∀ k, (t.alertCause k = false → t.al.requested k = false) ∧
          (t.alertCause k = true → s.al.requested k = true → t.al.requested k = true)) ∧
      ((s.demandToggles h b).clear = false → t.lau.rxErrors = s.lau.rxErrors ∧ t.lau.collisions = s.lau.collisions ∧
        t.lau.txDrops = s.lau.txDrops ∧ t.pv.missedSeq = s.pv.missedSeq ∧ t.icu.arcCount = s.icu.arcCount ∧
        t.icu.arcFields = s.icu.arcFields ∧ ∀ k, s.al.requested k = true → t.al.requested k = true) ∧
      (∀ r, s.pv.learning = true → t.pv.force.sect = some r → s.cc.phase = .normal →
        t.cc.current = s.cc.current ∧ t.cc.pendingSec = s.cc.pendingSec) ∧
      (∀ r, e.active.isSome = true → s.pv.learning = false → t.pv.force.sect = some r → s.cc.phase = .normal →
        (∀ sec, s.cc.current = some sec → sec.id ≠ r.id) → (∀ w, s.cc.pendingSec = some w → w.record.id ≠ r.id) →
        t.cc.phase ≠ .normal ∧ t.cc.current = some ⟨r.id, r.dist, r.len, r.next, true⟩) ∧
      t.ioc = s.ioc ∧ t.cl = s.cl ∧ t.bi.closed = s.bi.closed ∧ t.bi.stuck = s.bi.stuck ∧ t.lau.onLine = s.lau.onLine ∧
      t.lau.seq = s.lau.seq

/-- R65, R67, R68: the demand in force. None without an active entry; the one active entry's record, which governs; with two
or more the merged demand: DOWN if any record says so, the force-drop of any, the common expected system, the held ice
mode and the nearest section, of equally near ones that of the lower address, with the next system on which all carried
records agree, else UNKNOWN. -/
def Obligations.DemandInForceIsFormedFromActiveEntries : Prop :=
  ∀ v : PV,
    let active := v.table.filterMap fun e => e.active.map fun d => (e.addr, d)
    (active = [] → v.form.force.presence = .none ∧ v.form.force.pan = .hold ∧ v.form.force.forceDrop = false ∧
      v.form.force.expected = none ∧ v.form.force.ice = none ∧ v.form.force.sect = none ∧ v.form.governing = none) ∧
    (∀ a d, active = [(a, d)] → v.form.governing = some a ∧ v.form.force.presence = .governing ∧
      v.form.force.pan = (if d.up then .up else .down) ∧ v.form.force.forceDrop = d.forceDrop ∧
      v.form.force.expected = some d.expected ∧ v.form.force.ice = d.ice ∧ v.form.force.sect = d.sect) ∧
    (2 ≤ active.length → v.form.governing = none ∧ v.form.force.presence = .merged ∧
      v.form.force.pan = (if ∃ x ∈ active, x.2.up = false then .down else .hold) ∧
      (v.form.force.forceDrop = true ↔ ∃ x ∈ active, x.2.forceDrop = true) ∧
      (∀ e, (∀ x ∈ active, x.2.expected = e) → v.form.force.expected = some e) ∧
      ((∃ x ∈ active, ∃ y ∈ active, x.2.expected ≠ y.2.expected) → v.form.force.expected = some .any) ∧
      v.form.force.ice = (if v.force.presence = .merged then v.heldIce else v.force.ice) ∧
      ((∀ x ∈ active, x.2.sect = none) → v.form.force.sect = none) ∧
      ((∃ x ∈ active, x.2.sect ≠ none) → ∃ m, v.form.force.sect = some m ∧
        (∃ y ∈ active, ∃ q, y.2.sect = some q ∧ m.id = q.id ∧ m.dist = q.dist ∧ m.len = q.len ∧
          ∀ x ∈ active, ∀ r, x.2.sect = some r → q.dist ≤ r.dist ∧
            ((tableAddrs v.table).Pairwise (· < ·) → r.dist = q.dist → y.1.toNat ≤ x.1.toNat)) ∧
        (∀ n, (∀ x ∈ active, ∀ r, x.2.sect = some r → r.next = n) → m.next = n) ∧
        ((∃ x ∈ active, ∃ y ∈ active, ∃ r q, x.2.sect = some r ∧ y.2.sect = some q ∧ r.next ≠ q.next) →
          m.next = .unknown)))

/-- A STATUS of another roof station (R55, R58, R59, R60, R63): its entry is VALID, or LEARNING when new, with the fields
mended as R60 says: the interval within 50 to 500 ms, an undefined state UP, an undefined connection COLLECTING, an undefined
set BOTH, a position above L taken as L, and nothing of a config-fault peer; a heard claim stands only while the STATUS
carries its serial; no other entry changes; the missed-sequence counter gains what lies between the two sequence numbers, only
on a VALID entry and without the learning flag. The order of reactions is log 6. -/
def Obligations.StatusRefreshesItsEntry : Prop :=
  (∀ (trainLength : Nat) (flags hi lo : Byte), (panRecordOf trainLength flags hi lo).Mends trainLength flags hi lo) ∧
  ∀ (s : State) (im : Image) (h : RxHeader) (b : Vector Byte 28), s.released = true → s.cl.image = some im →
    h.src ≠ s.cl.address → h.kind = .roof →
    ∃ t e r, exec (.statusReceived h b) s = .next t ∧ findEntry t.pv.table h.src = some e ∧ e.body = .roof r ∧
      e.addr = h.src ∧ e.lastSeq = h.seq.toNat ∧ e.age = 0 ∧
      (let old := (findEntry s.pv.table h.src).filter fun x => x.body.kind = .roof
      e.state = (if old.isSome then .valid else .learning) ∧
      r.interval = max 50 (min 500 (b[0].toNat * 10)) ∧ r.configFault = b[1].getLsbD 0 ∧
      (r.configFault = true → r.recA = none ∧ r.recB = none ∧ r.draw = 0) ∧
      (r.configFault = false → r.draw = b[17].toNat ∧
        r.recA = some (panRecordOf im.trainLength b[2] b[3] b[4]) ∧
        r.recB = some (panRecordOf im.trainLength b[5] b[6] b[7])) ∧
      (∀ c, r.claim = some c → b[23].toNat % 4 ≠ 0 ∧ c.serial = b[24].toNat) ∧
      (∀ x q c, old = some x → x.body = .roof q → q.claim = some c → b[23].toNat % 4 ≠ 0 → c.serial = b[24].toNat →
        r.claim = some c) ∧
      (old = none → t.pv.missedSeq = min 65535 s.pv.missedSeq) ∧
      (∀ x, old = some x → x.state = .valid → b[1].getLsbD 1 = false →
        t.pv.missedSeq = min 65535 (s.pv.missedSeq + ((h.seq.toNat + 256 - x.lastSeq) % 256 - 1))) ∧
      (∀ x, old = some x → x.state ≠ .valid ∨ b[1].getLsbD 1 = true → t.pv.missedSeq = min 65535 s.pv.missedSeq)) ∧
      (∀ a, a ≠ h.src → findEntry t.pv.table a = findEntry s.pv.table a) ∧
      ((∃ x, findEntry s.pv.table h.src = some x ∧ x.body.kind = .control) → t.al.requested .addressClash = true) ∧
      t.ioc = s.ioc ∧ t.cl = s.cl ∧ t.lau.rxErrors = s.lau.rxErrors ∧ t.lau.onLine = s.lau.onLine ∧ t.lau.seq = s.lau.seq ∧
      t.bi.closed = s.bi.closed ∧ t.bi.stuck = s.bi.stuck ∧ t.icu.arcCount = s.icu.arcCount

/-- CLAIM, WITHDRAW and RECORD of another roof station (R55, R62, R63): each refreshes the entry; a CLAIM within its tables
sets the heard claim with its fields, a position above L taken as L, and age 0, one of an undefined kind or pantograph sets
none and removes none; a WITHDRAW of its serial removes it, and nothing else of the entry changes. -/
def Obligations.ClaimsAreHeardAndWithdrawn : Prop :=
  (∀ (trainLength : Nat) (b : Vector Byte 8), HeardFrom trainLength b (claimContent trainLength b)) ∧
  ∀ (s : State) (im : Image) (h : RxHeader), s.released = true → s.cl.image = some im → h.src ≠ s.cl.address →
    h.kind = .roof →
    ∀ (c : Instr) (change : Option HeardClaim → Option HeardClaim),
      ((∃ b : Vector Byte 8, c = .claimReceived h b ∧
          change = fun old => (claimContent im.trainLength b).or old) ∨
        (∃ n : Byte, c = .withdrawReceived h n ∧ change = fun old => old.filter fun k => k.serial ≠ n.toNat) ∨
        (∃ l : List Byte, l.length ≤ 28 ∧ c = .recordReceived h l ∧ change = id)) →
      ∃ t e r, exec c s = .next t ∧ findEntry t.pv.table h.src = some e ∧ e.body = .roof r ∧
        e.addr = h.src ∧ e.lastSeq = h.seq.toNat ∧ e.age = 0 ∧
        (∀ x q, findEntry s.pv.table h.src = some x → x.body = .roof q →
          e.state = .valid ∧ r = { q with claim := change q.claim }) ∧
        ((∀ x q, findEntry s.pv.table h.src = some x → x.body ≠ .roof q) →
          e.state = .learning ∧ r.claim = change none ∧ r.interval = 500 ∧ r.recA = none ∧ r.recB = none ∧ r.draw = 0) ∧
        (∀ a, a ≠ h.src → findEntry t.pv.table a = findEntry s.pv.table a) ∧ t.pv.missedSeq = s.pv.missedSeq ∧
        t.ioc = s.ioc ∧ t.cl = s.cl ∧ t.lau.rxErrors = s.lau.rxErrors

/-- What is not taken (R54, R174, R175): a good frame with the own address that is no echo requests ADDRESS_CLASH and
is no receive error; one whose type does not fit its kind is a receive error; a good frame before the
configuration-good event is discarded. None of them touches the peer table. A receive error (R174, R177, R178) is
counted once in the saturating counter and in the error period, whatever the fault; the sixteenth of a period requests
LINK_DEGRADED and makes its cause active. The order of reactions is log 6; an own frame on the line is told from a
clash by its content, the model's choice (log 18), and does not come in here. -/
def Obligations.FramesAreTurnedAway : Prop :=
  (∀ (s : State) (h : RxHeader) (c : Instr) (kind : NodeKind), s.released = true →
    ((∃ b, c = .demandReceived h b ∧ kind = .control) ∨ (∃ b, c = .statusReceived h b ∧ kind = .roof) ∨
      (∃ b, c = .claimReceived h b ∧ kind = .roof) ∨ (∃ n, c = .withdrawReceived h n ∧ kind = .roof) ∨
      (∃ l : List Byte, l.length ≤ 28 ∧ c = .recordReceived h l ∧ kind = .roof)) →
    (h.src = s.cl.address → s.lau.onLine = none →
      ∃ t, exec c s = .next t ∧ State.Reacts s t ∧ t.al.requested .addressClash = true) ∧
    (h.src ≠ s.cl.address → h.kind ≠ kind →
      ∃ t, exec c s = .next t ∧ State.Reacts { s with lau := s.lau.withError } t) ∧
    (h.src ≠ s.cl.address → h.kind = kind → s.cl.image = none → ∃ t, exec c s = .next t ∧ State.Reacts s t)) ∧
  (∀ (s : State) (f : RxFault), s.released = true →
    ∃ t, exec (.receiveError f) s = .next t ∧ State.Reacts { s with lau := s.lau.withError } t ∧
      (s.lau.periodErrors = 15 → t.al.requested .linkDegraded = true ∧ t.lau.degraded = true))

/-- The ends of an entry's times (R56, R57, R63): a LEARNING entry that has reached its validity window is removed, a VALID
one that has reached its lost limit becomes LOST with its fields kept, a LOST one is removed at the end of its hold, a
heard claim leaves its entry when it has outlived its hold-off by more than 500 ms; any other entry, an entry in another
state and an entry that has not reached its limit stand, as after a frame that was taken first (log 1). -/
def Obligations.EntriesEndByTheirAges : Prop :=
  ∀ (s : State) (im : Image) (a : Addr) (e : Entry), s.released = true → s.cl.image = some im →
    findEntry s.pv.table a = some e →
    let window := match e.body with | .roof r => 3 * r.interval | .control _ => im.tctl * 100
    let limit := match e.body with | .roof r => 3 * r.interval + 20 | .control _ => im.tctl * 100
    (∃ t, exec (.learningEntryRemoval a) s = .next t ∧
      findEntry t.pv.table a = (if e.state = .learning ∧ window ≤ e.age then none else some e) ∧
      ∀ b, b ≠ a → findEntry t.pv.table b = findEntry s.pv.table b) ∧
    (∃ t, exec (.entryLost a) s = .next t ∧
      findEntry t.pv.table a =
        some (if e.state = .valid ∧ limit ≤ e.age then { e with state := .lost, lostAge := Timer.started } else e) ∧
      ∀ b, b ≠ a → findEntry t.pv.table b = findEntry s.pv.table b) ∧
    (∃ t, exec (.lostHoldEnd a) s = .next t ∧
      (e.state = .lost → (∃ n, e.lostAge = some n ∧ 2000 ≤ n) → findEntry t.pv.table a = none) ∧
      (¬(e.state = .lost ∧ ∃ n, e.lostAge = some n ∧ 2000 ≤ n) → findEntry t.pv.table a = some e) ∧
      ∀ b, b ≠ a → findEntry t.pv.table b = findEntry s.pv.table b) ∧
    (∃ t, exec (.heardClaimAgeOut a) s = .next t ∧
      (∀ r c, e.body = .roof r → r.claim = some c → findEntry t.pv.table a =
        some (if c.holdOff + 500 < c.age then { e with body := .roof { r with claim := none } } else e)) ∧
      (∀ r, e.body = .roof r → r.claim = none → findEntry t.pv.table a = some e) ∧
      (∀ k, e.body = .control k → findEntry t.pv.table a = some e) ∧
      ∀ b, b ≠ a → findEntry t.pv.table b = findEntry s.pv.table b)

/-- The expiry of the running silence timer requests CONTROL_SILENT and gives the Drop Supervisor the cause, which it
latches when its mask is ON and the cause was inactive (R66, R159); the end of the learning period clears the learning
flag and starts the silence timer from 0 (R70). That the expiries act while their timer runs is log 1. -/
def Obligations.SilenceAndTheEndOfLearning : Prop :=
  (∀ (s : State) (im : Image) (n : Nat), s.released = true → s.cl.image = some im → s.pv.silence = .running n →
    ∃ t, exec .silenceTimerExpiry s = .next t ∧ t.pv = { s.pv with silence := .expired } ∧
      t.al.requested .controlSilent = true ∧ t.ds.cause.controlSilent = true ∧
      (im.masks.controlSilent = true → s.ds.cause.controlSilent = false → s.ds.latch.controlSilent = false →
        t.ds.latch.controlSilent = true ∧ t.bi.hold.ds = true)) ∧
  (∀ s : State, s.released = true → s.pv.learningT.isSome = true →
    ∃ t, exec .learningPeriodEnd s = .next t ∧
      State.Reacts { s with pv := { s.pv with learning := false, learningT := none, silence := .running 0 } } t)

/-- The law of R54: one entry to an address, none with the own address, in rising order; and R65: the demand in force is the
one that the active entries form. Every step keeps both. -/
def Obligations.PeerTableAndDemandInForceStand : Prop :=
  (∀ s t : State, s.TableLaw → step s = .next t → t.TableLaw) ∧
  (∀ s t : State, s.DemandLaw → step s = .next t → t.DemandLaw)

/-! ### Admission and claims -/

/-- The pantograph rank (R76) and the heat rank (R77) each put two different pantographs of a train in one order: by
connection first, then the larger or the smaller lead distance, then the lower address, then the letter. -/
def Obligations.RanksOrderDifferentPantographs : Prop :=
  ∀ rank larger, ((rank = panAhead ∧ larger = true) ∨ (rank = heatAhead ∧ larger = false)) →
    ∀ x y z : Seen,
      ¬(rank x y = true ∧ rank y x = true) ∧
      (rank x y = true → rank y z = true → rank x z = true) ∧
      ((x.addr ≠ y.addr ∨ x.pan ≠ y.pan) → rank x y = true ∨ rank y x = true) ∧
      (x.coll = true → y.coll = false → rank x y = true) ∧
      (x.coll = y.coll → x.e ≠ y.e → (rank x y = true ↔ if larger then y.e < x.e else x.e < y.e)) ∧
      (x.coll = y.coll → x.e = y.e → x.addr ≠ y.addr → (rank x y = true ↔ x.addr < y.addr)) ∧
      (x.coll = y.coll → x.e = y.e → x.addr = y.addr → (rank x y = true ↔ x.pan = .a ∧ y.pan = .b))

/-- R79: the admission test passes on a view exactly when all four conditions hold under the profile. R78: the candidate view
of a RAISE or SCRAPE want holds the peers' present and raised pantographs, the heard RAISE and SCRAPE claims that are ranked
ahead of the own one and not yet shown raised by the record, the own raised pantographs and the claimed one, each once. The
test of such a want is the admission test on it. R80: a permitted HEAT want passes exactly when the peers' draws, the heard
HEAT claims that outrank it and are not yet shown, the own heaters that are on and its own rating together are within the
budget. -/
def Obligations.AdmissionTestHasFourConditions : Prop :=
  (∀ (f : Profile) (view : List Seen),
    admits f view = true ↔
      view.countP (fun x => x.coll) ≤ f.maxCollecting ∧
      view.Pairwise (fun x y => x.coll = true → y.coll = true →
        f.minSpacing ≤ ((x.p : Int) - y.p).natAbs) ∧
      view.countP (fun x => !x.coll) ≤ f.maxScraping ∧
      ∀ x ∈ view, f.leadExclusion ≤ x.e) ∧
  (∀ (s : State) (im : Image) (own x : Seen),
    let e (p : Nat) : Nat := match s.ioc.view with | .end1 => p | .end2 => im.trainLength - p
    let record (r : RoofData) (p : Pan) : Option PanRecord := match p with | .a => r.recA | .b => r.recB
    let raised (st : PanState) : Prop := st = .rising ∨ st = .up ∨ st = .lowering
    (x ∈ s.candidateView im own ↔
      (∃ n ∈ s.pv.table, ∃ r c, n.body = .roof r ∧ record r x.pan = some c ∧ c.present = true ∧ raised c.state ∧
        x = ⟨c.coll, c.p, e c.p, n.addr, x.pan⟩) ∨
      (∃ n ∈ s.pv.table, ∃ r c, n.body = .roof r ∧ r.claim = some c ∧ c.kind ≠ .heat ∧
        x = ⟨decide (c.kind = .raise), c.p, e c.p, n.addr, c.pan⟩ ∧ panAhead x own = true ∧
        ¬∃ q, record r c.pan = some q ∧ q.present = true ∧ raised q.state) ∨
      (∃ p, (im.pan p).present = true ∧ raised (s.pc p).state ∧
        x = ⟨(s.pc p).disc, (im.pan p).p, e (im.pan p).p, s.cl.address, p⟩) ∨
      x = own)) ∧
  (∀ (s : State) (im : Image) (p : Pan) (coll : Bool), s.TableLaw → (s.pc p).state = .down →
    ((s.candidateView im (s.ownSeen im p coll)).map fun x => (x.addr, x.pan)).Nodup) ∧
  (∀ (s : State) (im : Image) (h : Head), s.permitted h = true →
    let e (p : Nat) : Nat := match s.ioc.view with | .end1 => p | .end2 => im.trainLength - p
    let own (coll : Bool) : Seen := ⟨coll, (im.pan h.pan).p, e (im.pan h.pan).p, s.cl.address, h.pan⟩
    (h.kind = .raise → (s.passes im h = true ↔ admits (s.limits im) (s.candidateView im (own true)) = true)) ∧
    (h.kind = .scrape → (s.passes im h = true ↔ admits (s.limits im) (s.candidateView im (own false)) = true)) ∧
    (h.kind = .heat → s.cl.image = some im → s.HeaterLaw → h.amount = im.rating h.pan →
      let draw (n : Entry) : Nat := match n.body with
        | .roof r => if r.configFault then 0 else r.draw
        | .control _ => 0
      let ahead (n : Entry) : Nat := match n.body with
        | .roof r =>
          match r.claim with
          | some c =>
            let shown : Option PanRecord := match c.pan with | .a => r.recA | .b => r.recB
            let seen : Seen := ⟨(shown.map fun q => q.coll).getD true, c.p, e c.p, n.addr, c.pan⟩
            if c.kind = .heat ∧ heatAhead seen (own (s.pc h.pan).disc) = true ∧
              (shown.any fun q => q.present && q.heater) = false then c.amount else 0
          | none => 0
        | .control _ => 0
      (s.passes im h = true ↔
        (s.pv.table.map draw).sum + (s.pv.table.map ahead).sum +
          ((if s.icu.heaterA then im.panA.rating else 0) + (if s.icu.heaterB then im.panB.rating else 0)) +
          (im.pan h.pan).rating ≤ im.budget)))

/-- The expiry of the re-test timer runs the claim test (R88), and so does the end of the retry hold, which permits the head
again (R93), and every event that changes what the test reads: after it the claim stands as the table of R88 says. The
conditions of permission (R86), with the demand in force GOVERNING UP in REQUALIFY too (log 34). A claim that opens in a step
(R89): the serial is one higher, 0 after 255; the claim is SENT for the first want of the list, that want's kind and
pantograph, with the configured position, the amount (the heater rating for HEAT, 0 for the others) and T_h; a CLAIM with
these fields waits in the CLAIM slot; and the test of R87 passes for it in the state that the step leaves. The serial changes
in no other way. That the expiries act while their timer runs is log 1, the order of reactions log 6. -/
def Obligations.ReTestAndRetryRunTheClaimTest : Prop :=
  (∀ (s : State) (im : Image), s.released = true → s.cl.image = some im →
    (s.au.retestT.isSome = true →
      ∃ t, exec .reTestTimerExpiry s = .next t ∧ t.Tested im ∧ State.Reacts s t) ∧
    (s.au.retryT.isSome = true →
      ∃ t, exec .retryHoldEnd s = .next t ∧ t.Tested im ∧ State.Reacts { s with au := { s.au with retryT := none } } t)) ∧
  (∀ (c : Instr) (rest : List Instr) (s t : State) (im : Image), s.pending = c :: rest → step s = .next t →
    s.released = true → t.released = true → t.cl.image = some im → t.testInputs ≠ s.testInputs → t.Tested im) ∧
  (∀ (s : State) (h : Head), s.permitted h = true ↔
    s.cl.image.isSome = true ∧ s.pv.learning = false ∧ s.au.retryT = none ∧
    let own := s.pc h.pan
    let other := s.pc h.pan.other
    (h.kind = .raise → own.state = .down ∧ ¬(other.disc = true ∧ other.state ≠ .down) ∧ s.ds.latch = .empty ∧
      s.pv.force.presence = .governing ∧ s.pv.force.pan = .up ∧
      (s.cc.phase = .normal ∨ (s.cc.phase = .requalify ∧ ∃ w, s.au.raise = some w ∧ w.source = .changeover))) ∧
    (h.kind = .scrape → own.state = .down ∧ other.state = .up ∧ other.disc = true ∧ s.cc.phase = .normal ∧
      s.ds.latch = .empty) ∧
    (h.kind = .heat → own.state = .up ∧ s.icu.heater h.pan = false ∧ s.bi.closed = true ∧
      (s.cc.phase = .normal ∨ s.cc.phase = .armed))) ∧
  (∀ s t : State, step s = .next t → s.released = true → t.released = true →
    (t.au.serial ≠ s.au.serial ∨ (s.au.claimOpen = false ∧ t.au.claimOpen = true)) →
    ∃ im b, t.cl.image = some im ∧ t.au.claim = .sent ∧ t.au.body = some b ∧ t.au.holdOffT = none ∧
      t.au.serial = (if s.au.serial < 255 then s.au.serial + 1 else 0) ∧
      b.p = (im.pan b.pan).p ∧ b.holdOff = im.th * 10 ∧
      t.lau.clSlot = some ⟨⟨t.au.serial, b.kind, b.pan, b.p, b.amount, im.th⟩, 0, none⟩ ∧
      (match b.kind with
        | .raise => (∃ source, t.au.raise = some ⟨b.pan, source⟩) ∧ b.amount = 0
        | .scrape => t.au.raise = none ∧ t.au.scrape = some b.pan ∧ b.amount = 0
        | .heat => t.au.raise = none ∧ t.au.scrape = none ∧ t.au.heat = some ⟨b.pan, b.amount⟩ ∧
          (s.ClaimLaw → b.amount = im.rating b.pan)) ∧
      t.passes im ⟨b.kind, b.pan, b.amount⟩ = true)

/-- The hold-off expiry (R92, R93) beside a grant that is taken: outside HOLDING it has no effect; a final test that
fails withdraws the claim, by a WITHDRAW or by removing the CLAIM that still waits; a grant that the receiving block
refuses leaves the pantographs and starts the retry hold. The body of a claim is cleared at its end by log 17; the
order of reactions is log 6. -/
def Obligations.HoldOffWithdrawsOrIsRefused : Prop :=
  ∀ (s : State) (im : Image), s.released = true → s.cl.image = some im →
    (s.au.claim ≠ .holding → ∃ t, exec .holdOffExpiry s = .next t ∧ State.Reacts s t) ∧
    (∀ h, s.au.claim = .holding → s.au.head = some h →
      (s.passes im h = false →
        ∃ t, exec .holdOffExpiry s = .next t ∧ State.Reacts s t ∧ t.au.claim ≠ .holding ∧
          ((∃ c, s.lau.clSlot = some c ∧ c.frame.serial = s.au.serial) →
            ∀ c, t.lau.clSlot = some c → c.frame.serial ≠ s.au.serial ∨ 255 < s.au.serial) ∧
          ((∀ c, s.lau.clSlot = some c → c.frame.serial ≠ s.au.serial) →
            t.lau.wdSlot = some ⟨s.au.serial, 0, none⟩)) ∧
      (s.passes im h = true → s.taken h = false →
        ∃ t, exec .holdOffExpiry s = .next t ∧ t.au.claim ≠ .holding ∧
          State.Reacts { s with au := { s.au with retryT := Timer.started } } t))

/-- A grant that is taken (R32, R92, R140, R144), in an event in which no sensor asks anything of a raised pantograph and no
maskable cause becomes active: the pantograph is RISING in the connection of the claim's kind with VALVE on, F_set 0 and
the raise timer started, a SCRAPE has begun its pass; or the heater, of the collecting pantograph or of an isolated one
beside it, is on and its rating in the draw. A SCRAPE and a HEAT are stated in an ice state that stays CLEARING, a SCRAPE of a
pantograph with DISC on, whose raise abandons the window, also after the ring advance of that window; a HEAT under the laws
of the hold-open set and of the one collecting pantograph and beside a next collecting pantograph that is not in FAULT. A
RAISE and a SCRAPE are stated without a scrape pass that runs already, a HEAT also beside one that goes on (R145): its
pantograph RISING or UP beside the collecting one in NORMAL. The order of reactions is log 6. -/
def Obligations.GrantsRaiseOrHeat : Prop :=
  ∀ (s : State) (im : Image) (h : Head), s.released = true → s.cl.image = some im → s.au.claim = .holding →
    s.au.head = some h → s.passes im h = true → s.taken h = true → s.SensorsCalm → s.NoNewCause im →
    (h.kind = .raise → s.upSensor h.pan = false → s.icu.scrape = none →
      ∃ t, exec .holdOffExpiry s = .next t ∧ (t.pc h.pan).state = .rising ∧ (t.pc h.pan).disc = true ∧
        (t.pc h.pan).valve = true ∧ (t.pc h.pan).fset = 0 ∧ (t.pc h.pan).raiseT = Timer.started ∧
        (t.pc h.pan).lowering = none ∧ t.au.claim ≠ .holding) ∧
    (h.kind = .scrape → s.upSensor h.pan = false → s.icu.scrape = none → s.IceStands im →
      ((s.pc h.pan).disc = true → 0 < s.lq.index →
        ¬(s.icu.mode = .auto ∧ 16 ≤ (s.icu.advance im.tClear).clearStreak)) →
      ∃ t, exec .holdOffExpiry s = .next t ∧ (t.pc h.pan).state = .rising ∧ (t.pc h.pan).disc = false ∧
        (t.pc h.pan).valve = true ∧ (t.pc h.pan).fset = 0 ∧ (t.pc h.pan).raiseT = Timer.started ∧
        t.icu.scrape = some h.pan ∧ t.au.claim ≠ .holding) ∧
    (h.kind = .heat → s.IceStands im → s.HoldOpenLaw → s.OneCollecting →
      (∀ q, s.icu.scrape = some q →
        (s.pc q).risingOrUp = true ∧ (s.pc q.other).upCollecting = true ∧ s.cc.phase = .normal) →
      ((s.pc h.pan).disc = true ∨ ((s.pc h.pan.other).upCollecting = true ∧ s.cc.phase = .normal)) →
      (∀ p, s.cc.nextPan = some p → (s.pc p).state ≠ .fault ∧ ((s.pc p).state = .lowering → s.downSensor p = false)) →
      ∃ t, exec .holdOffExpiry s = .next t ∧ t.icu.heater h.pan = true ∧
        t.icu.draw = drawOf im t.icu.heaterA t.icu.heaterB ∧ im.rating h.pan ≤ t.icu.draw ∧ t.au.claim ≠ .holding)

/-- Late conflict (R95): a present pantograph RISING or UP with no lowering in progress whose lead distance is below
lead_exclusion; in COLLECTING connection with max_collecting peers' collecting pantographs ranked ahead, or one of them nearer
than min_spacing; in ISOLATED connection with max_scraping isolated ones ranked ahead; heard claims do not enter. R96: every
step keeps the grace timer of a pantograph running exactly while it is in late conflict, starts it from 0 where that begins,
and leaves it running while it lasts. The expiry of a grace timer (R97) requests PEER_CONFLICT, sets the pantograph's mark and
asks for its soft lowering: a collecting pantograph on a closed breaker waits in SOFT-WAIT with a hold-open entry (R39), one
on an open breaker ramps down in SOFT-RAMP with that entry, an isolated one is LOWERING at once (R40). That the expiry acts
while its timer runs, whatever its time, is log 1; a collecting one on an open breaker with F_set 0 already vents at once by
log 10; the order of reactions is log 6. -/
def Obligations.LateConflictLowersThePantograph : Prop :=
  (∀ (s : State) (im : Image) (p : Pan),
    let f := s.limits im
    let own := s.ownSeen im p (s.pc p).disc
    let better := (s.peerPans im).filter fun x => panAhead x own
    (∀ x, x ∈ s.peerPans im ↔ ∃ n ∈ s.pv.table, ∃ r c, n.body = .roof r ∧
      (match x.pan with | .a => r.recA | .b => r.recB) = some c ∧ c.present = true ∧
      (c.state = .rising ∨ c.state = .up ∨ c.state = .lowering) ∧
      x = ⟨c.coll, c.p, leadDistance s.ioc.view im.trainLength c.p, n.addr, x.pan⟩) ∧
    (s.lateConflict im p = true ↔
      (im.pan p).present = true ∧ ((s.pc p).state = .rising ∨ (s.pc p).state = .up) ∧ (s.pc p).lowering = none ∧
      (own.e < f.leadExclusion ∨
        ((s.pc p).disc = true ∧ (f.maxCollecting ≤ better.countP (fun x => x.coll) ∨
          ∃ x ∈ better, x.coll = true ∧ ((x.p : Int) - own.p).natAbs < f.minSpacing)) ∨
        ((s.pc p).disc = false ∧ f.maxScraping ≤ better.countP fun x => !x.coll)))) ∧
  (∀ s t : State, s.HeldLaw → s.ConflictLaw → step s = .next t → t.ConflictLaw ∧
    ∀ p, t.released = true → (t.au.grace p).isSome = true →
      ((s.au.grace p).isSome = false → t.au.grace p = Timer.started) ∧
      (∀ c rest, s.pending = c :: rest → c ≠ .graceTimerExpiry p → (s.au.grace p).isSome = true →
        t.au.grace p = s.au.grace p)) ∧
  ∀ (s : State) (p : Pan), s.released = true → s.acts p = true → (s.au.grace p).isSome = true →
    (s.pc p).risingOrUp = true → s.SensorsCalm →
    ∃ t, exec (.graceTimerExpiry p) s = .next t ∧ t.al.requested .peerConflict = true ∧
      ((s.pc p).disc = true → s.bi.closed = true →
        (t.pc p).state = (s.pc p).state ∧ (t.pc p).lowering = some .softWait ∧ (t.pc p).valve = (s.pc p).valve ∧
          t.bi.hold.pan p = true ∧ (match p with | .a => t.au.markA | .b => t.au.markB) = true) ∧
      ((s.pc p).disc = true → s.bi.closed = false → (s.pc p).fset ≠ 0 →
        (t.pc p).state = (s.pc p).state ∧ (t.pc p).lowering = some .softRamp ∧ (t.pc p).valve = (s.pc p).valve ∧
          t.bi.hold.pan p = true ∧ (match p with | .a => t.au.markA | .b => t.au.markB) = true) ∧
      ((s.pc p).disc = true → s.bi.closed = false → (s.pc p).fset = 0 →
        (t.pc p).state = .lowering ∧ (t.pc p).valve = false ∧ (t.pc p).lowerT = Timer.started ∧
          t.bi.hold.pan p = true ∧ (match p with | .a => t.au.markA | .b => t.au.markB) = true) ∧
      ((s.pc p).disc = false →
        (t.pc p).state = .lowering ∧ (t.pc p).valve = false ∧ (t.pc p).lowerT = Timer.started ∧
          (match p with | .a => t.au.markA | .b => t.au.markB) = true)

/-- R81, R89 to R92: the own claim keeps its parts together: a body exactly in SENT and HOLDING, a hold-off timer exactly in
HOLDING, and a standing want of its kind, pantograph and amount; every step keeps it so. That no body stands outside SENT
and HOLDING is the model's choice (log 17). -/
def Obligations.OpenClaimBelongsToAStandingWant : Prop :=
  ∀ s t : State, s.HeldLaw → s.ClaimLaw → step s = .next t → t.ClaimLaw

/-- R73, R74, R153 and R183, R184: every step leaves the profile group, the profile in force, the RAISE want under the raise
inhibit, the top alert and the lamp as their rules form them from the state it leaves. The group is that of the next system in
REQUALIFY, else that of a live Q, else that of a live expected system, else ANY; the profile is the lowest-indexed one whose
band holds the speed and whose applies-to is the group or BOTH, else FALLBACK with its fixed limits. The top alert is the
requested and enabled kind of lowest level and then of lowest number, before the configuration is good CONFIG_FAULT at level 0
while its flag is set; the lamp is on before the configuration is good, then while a top alert stands at or below the lamp
threshold. -/
def Obligations.ProfileAndAlertsAreFormedAfresh : Prop :=
  (∀ s t : State, s.HeldLaw → s.AdmissionLaw ∧ s.AlertLaw → step s = .next t → t.AdmissionLaw ∧ t.AlertLaw) ∧
  (∀ s : State,
    let ac (c : LineClass) : Prop := c = .ac25 ∨ c = .ac15
    let dc (c : LineClass) : Prop := c = .dc3 ∨ c = .dc15
    (s.cc.phase = .requalify → ∀ sec, s.cc.current = some sec →
      (ac sec.next → s.profileGroup = .ac) ∧ (dc sec.next → s.profileGroup = .dc)) ∧
    (s.cc.phase ≠ .requalify →
      (ac s.lq.q → s.profileGroup = .ac) ∧ (dc s.lq.q → s.profileGroup = .dc) ∧
      (s.lq.q.live = false →
        (∀ c, s.pv.force.expected = some (.sys c) →
          (ac c → s.profileGroup = .ac) ∧ (dc c → s.profileGroup = .dc) ∧ (c.live = false → s.profileGroup = .any)) ∧
        (s.pv.force.expected = some .any ∨ s.pv.force.expected = none → s.profileGroup = .any)))) ∧
  (∀ (im : Image) (speed : Nat) (g : ProfileGroup),
    let fits (k : Nat) : Prop := ∃ f, im.profiles[k]? = some f ∧ f.low ≤ speed ∧ speed ≤ f.high ∧
      (f.applies = .both ∨ (f.applies = .ac ∧ g = .ac) ∨ (f.applies = .dc ∧ g = .dc))
    (∀ k, profileLookup im speed g = some k ↔ fits k ∧ ∀ j, j < k → ¬fits j) ∧
    (profileLookup im speed g = none ↔ ∀ k, ¬fits k) ∧
    limitsOf im none = ⟨0, 400, .both, 1, 0, 0, 0⟩ ∧
    ∀ k f, im.profiles[k]? = some f → limitsOf im (some k) = f) ∧
  (∀ (im : Image) (flags : BitVec 16),
    let takesPart (k : AlertKind) : Prop := flags.getLsbD k.number = true ∧ im.enables.getLsbD k.number = true
    let level (k : AlertKind) : Nat := (im.levels[k.number]?).getD 0
    (topAlert (some im) flags = none ↔ ∀ k, ¬takesPart k) ∧
    (∀ k l, topAlert (some im) flags = some (k, l) ↔
      takesPart k ∧ l = level k ∧
        ∀ j, takesPart j → level k < level j ∨ (level k = level j ∧ k.number ≤ j.number)) ∧
    (∀ k l, lampOf (some im) (some (k, l)) = decide (l ≤ im.lampThreshold)) ∧ lampOf (some im) none = false) ∧
  (∀ (flags : BitVec 16) (top : Option (AlertKind × Nat)),
    topAlert none flags = (if flags.getLsbD 0 then some (.configFault, 0) else none) ∧ lampOf none top = true)

/-! ### Changeover -/

/-- A pulse on ODO (R194 to R197): taken at its counted edge and no less than 50 µs after the last one, it restarts
the stationary timer, counts in the open bucket and, on a good configuration, in the train distance; in ARMED it
lowers leg 1, and in OPENING, STOWING and COASTING leg 2 or leg 3, that has more than one pulse left (R108), and at the last
pulse ends that leg and loads the next one, while the next collecting pantograph cannot come to FAULT. An edge that is no
pulse does nothing. The time of an edge is an operand of the model's (log 13), and the ends of legs come inline (log 12). -/
def Obligations.OdometerPulseAdvancesTheTrain : Prop :=
  ∀ (s : State) (rising : Bool) (us : Nat), s.released = true →
    ((rising = s.odoInverted ∨ ∃ last, s.ioc.lastOdo = some last ∧ us < last + 50) →
      ∃ t, exec (.odometerPulse rising us) s = .next t ∧ State.Reacts s t) ∧
    (rising ≠ s.odoInverted → (∀ last, s.ioc.lastOdo = some last → last + 50 ≤ us) →
      ∃ t, exec (.odometerPulse rising us) s = .next t ∧
        t.ioc.lastOdo = some us ∧ t.ioc.bucket = s.ioc.bucket + 1 ∧ t.ioc.stationary = false ∧
        t.ioc.stationaryT = Timer.started ∧ t.ioc.speed = s.ioc.speed ∧ t.ioc.levels = s.ioc.levels ∧
        t.ioc.view = s.ioc.view ∧ t.pv = s.pv ∧ t.cl = s.cl ∧
        (∀ im, s.cl.image = some im →
          (s.ioc.remainder + 1 < im.ppm →
            t.ioc.remainder = s.ioc.remainder + 1 ∧ t.ioc.distance = s.ioc.distance) ∧
          (im.ppm ≤ s.ioc.remainder + 1 → t.ioc.remainder = 0 ∧
            t.ioc.distance = if s.ioc.distance < 4294967295 then s.ioc.distance + 1 else 0) ∧
          (∀ p n, s.cc.phase = .armed → s.cc.nextPan = some p → s.Sound p →
            s.cc.countdown = .running .one n → 2 ≤ n →
            t.cc.phase = .armed ∧ t.cc.countdown = .running .one (n - 1)) ∧
          (∀ p n, s.cc.phase = .armed → s.cc.nextPan = some p → s.Sound p → s.cc.countdown = .running .one n → n ≤ 1 →
            t.cc.countdown = .running .two s.cc.leg2.toNat ∧ t.bi.hold.cc = true ∧
            (s.bi.closed = true → t.cc.phase = .opening) ∧
            (s.bi.closed = false → t.cc.phase = .stowing ∨ t.cc.phase = .coasting)) ∧
          (s.cc.phase = .opening ∨ s.cc.phase = .stowing ∨ s.cc.phase = .coasting →
            (∀ p, s.cc.nextPan = some p → s.Sound p) →
            (∀ leg n, leg ≠ .one → s.cc.countdown = .running leg n → 2 ≤ n →
              t.cc.countdown = .running leg (n - 1)) ∧
            (∀ n, s.cc.countdown = .running .two n → n ≤ 1 →
              t.cc.countdown = if s.cc.leg3 ≤ 0 then .ended else .running .three s.cc.leg3.toNat) ∧
            (∀ n, s.cc.countdown = .running .three n → n ≤ 1 →
              t.cc.countdown = .ended ∧ (s.cc.phase = .coasting → t.cc.phase = .requalify)))))

/-- A section is set up (R106, R107): among the own pantographs that are present, not in FAULT and of a set that contains the
next system, the next collecting one is that which collects in RISING or UP, else A, else B; with none the phase is ABORTED
with CHANGEOVER_FAIL. The legs are formed from the lead distances, and leg 1 runs in ARMED or, at zero or less, ends at once.
A section part is taken by the phase and by its id alone (R101 to R103, R123), but no record while the learning period runs
(R126, log 35); a change of direction by the phase (R104); and the return to NORMAL (R121) takes up the pending section less
the metres run since (R105). The end of leg 1 in ARMED (R111, R112), at its last pulse and while the next collecting
pantograph cannot come to FAULT: with the breaker CLOSED the phase is OPENING, with it OPEN stowing has begun; leg 2 is
loaded, the CC is in the hold-open set, the permit is withdrawn and every heater is off (R50, R141). A leg 1 with more pulses
left, as after a record taken first, runs on (R102). That LEG_1_END acts on the last pulse whatever has brought leg 1 there is
log 1 and log 12; that id 0 decides beside a RESTORE in ABORTED log 40; that a failed set-up leaves no next collecting
pantograph log 14; the order of reactions log 6. -/
def Obligations.Leg1EndOpensTheBreaker : Prop :=
  (∀ (s : State) (im : Image) (sec : CurrentSection),
    let fits (p : Pan) : Prop := (im.pan p).present = true ∧ (s.pc p).state ≠ .fault ∧
      ∃ set, (im.pan p).set = some set ∧ set.contains sec.next = true
    let now (p : Pan) : Prop := fits p ∧ (s.pc p).risingOrUp = true ∧ (s.pc p).disc = true
    let t := s.setUp im sec
    t.cc.current = some sec ∧
    ((∀ p, ¬fits p) → t.cc.nextPan = none ∧ t.cc.phase = .aborted ∧ t.cc.countdown = .stopped ∧
      t.al.requested .changeoverFail = true ∧ t.bi.hold.cc = true) ∧
    ((∃ p, fits p) → ∃ n, t.cc.nextPan = some n ∧ fits n ∧ ((∃ p, now p) → now n) ∧
      (n = .b → ¬fits .a ∨ (now .b ∧ ¬now .a)) ∧
      ∀ eMin : Nat,
        ((s.pcA.raisedCollecting = true ∧ eMin = s.lead im .a) ∨
          (s.pcA.raisedCollecting = false ∧ s.pcB.raisedCollecting = true ∧ eMin = s.lead im .b) ∨
          (s.pcA.raisedCollecting = false ∧ s.pcB.raisedCollecting = false ∧ eMin = s.lead im n)) →
        let leg1 := (sec.dist + eMin - im.mOpen) * im.ppm
        t.cc.leg2 = im.mOpen * im.ppm ∧ t.cc.leg3 = (sec.len + im.mClose + s.lead im n - eMin : Int) * im.ppm ∧
        (0 < leg1 → t.cc.phase = .armed ∧ t.cc.countdown = .running .one leg1.toNat) ∧
        (leg1 ≤ 0 → t.cc.phase = .opening ∧ t.cc.countdown = .running .two t.cc.leg2.toNat ∧ t.bi.hold.cc = true))) ∧
  (∀ (s : State) (im : Image) (d : DemandInForce) (restore : Bool),
    let t := s.ccDemand im d restore
    let forgotten : State := { s with cc := { s.cc with current := none } }
    (s.pv.learning = false ∨ d.sect = none → s.ccHanded im d restore = t) ∧
    (s.pv.learning = true → ∀ r, d.sect = some r →
      (restore = true → s.cc.phase = .aborted → s.ccHanded im d restore = s.returnToNormal im) ∧
      (restore = false ∨ s.cc.phase ≠ .aborted → s.ccHanded im d restore = s)) ∧
    (d.presence = .none → (restore = true → s.cc.phase = .aborted → t = s.returnToNormal im) ∧
      (restore = false ∨ s.cc.phase ≠ .aborted → t = s)) ∧
    (d.presence ≠ .none → d.sect = none →
      t = match s.cc.phase with
        | .normal => forgotten
        | .armed | .aborted => forgotten.returnToNormal im
        | _ => s) ∧
    (∀ r, d.presence ≠ .none → d.sect = some r →
      let kept : State := { s with cc := { s.cc with pendingSec := some ⟨r, s.ioc.distance⟩ } }
      (s.cc.currentId = some r.id → (restore = true → s.cc.phase = .aborted → t = s.returnToNormal im) ∧
        (restore = false ∨ s.cc.phase ≠ .aborted → t = s)) ∧
      (s.cc.currentId ≠ some r.id → s.cc.pendingId = some r.id →
        t = if s.cc.phase = .aborted then s.returnToNormal im else s) ∧
      (s.cc.currentId ≠ some r.id → s.cc.pendingId ≠ some r.id →
        t = match s.cc.phase with
          | .normal | .armed => s.setUp im ⟨r.id, r.dist, r.len, r.next, true⟩
          | .aborted => kept.returnToNormal im
          | _ => kept))) ∧
  (∀ (s : State) (im : Image),
    let t := s.ccDirection im
    let u : State := { s with cc := { s.cc with pendingSec := none } }
    (s.cc.phase = .normal ∨ s.cc.phase = .aborted → t = u) ∧ (s.cc.phase = .armed → t = u.returnToNormal im) ∧
    (s.cc.phase ≠ .normal → s.cc.phase ≠ .armed → t.cc.phase = .aborted ∧ t.cc.pendingSec = none) ∧
    (s.cc.phase ≠ .normal → s.cc.phase ≠ .armed → s.cc.phase ≠ .aborted → t.al.requested .changeoverFail = true)) ∧
  (∀ (s : State) (im : Image),
    let u : State := { s with
      cc := { s.cc with
        phase := .normal, current := s.cc.current.map fun sec => { sec with inExec := false }, nextPan := none,
        countdown := .stopped, raiseAsk := false, rqTimer := none, forcedDrop := false, pendingSec := none }
      bi := { s.bi with hold := { s.bi.hold with cc := false } } }
    (s.cc.pendingSec = none → s.returnToNormal im = u) ∧
    (∀ w, s.cc.pendingSec = some w → s.returnToNormal im = u.setUp im ⟨w.record.id,
      (w.record.dist : Int) - ((s.ioc.distance + 4294967296 - w.takenAt) % 4294967296 : Nat), w.record.len,
      w.record.next, true⟩)) ∧
  (∀ (s : State) (n : Nat), s.cc.countdown = .running .one n → 2 ≤ n →
    ∃ t, exec .leg1End s = .next t ∧ State.Reacts s t) ∧
  (∀ (s : State) (im : Image) (n : Nat) (p : Pan), s.released = true → s.cl.image = some im → s.cc.phase = .armed →
    s.cc.countdown = .running .one n → n ≤ 1 → s.cc.nextPan = some p → s.Sound p →
    ∃ t, exec .leg1End s = .next t ∧
      (s.bi.closed = true → t.cc.phase = .opening) ∧
      (s.bi.closed = false → t.cc.phase = .stowing ∨ t.cc.phase = .coasting) ∧
      t.cc.countdown = .running .two s.cc.leg2.toNat ∧ t.cc.nextPan = some p ∧ t.bi.hold.cc = true ∧
      t.bi.permit = false ∧ t.icu.heaterA = false ∧ t.icu.heaterB = false ∧ t.icu.draw = 0)

/-- The end of leg 2 (R113, R115, R116): in OPENING on a closed breaker every own pantograph, in STOWING every present one
whose set excludes the next system, that is RISING or UP is dropped at once, FORCED_SECTION_DROP is requested and the mark
set; in OPENING on an open breaker with none to stow, in STOWING with none late, and in COASTING the mark stands and, with
nothing asked by a sensor, a cause or a scrape pass, each raised collecting pantograph stays as it is. In all of these leg 3
is loaded (R108): it runs, or at zero or less has ended, while the next collecting pantograph cannot come to FAULT. That
LEG_2_END acts on a leg 2 that runs with any pulses left is log 1 and log 12; the order of reactions is log 6. -/
def Obligations.Leg2EndForcesTheDrop : Prop :=
  ∀ (s : State) (im : Image) (n : Nat), s.released = true → s.cl.image = some im →
    s.cc.countdown = .running .two n →
    (s.cc.phase = .opening → s.bi.closed = true →
      ∃ t, exec .leg2End s = .next t ∧ t.al.requested .forcedSectionDrop = true ∧ t.cc.forcedDrop = true ∧
        (∀ p, s.acts p = true → (t.pc p).risingOrUp = false ∧ ((s.pc p).risingOrUp = true → (t.pc p).fset = 0)) ∧
        (t.cc.phase = .coasting ∨ t.cc.phase = .requalify ∨ t.cc.phase = .aborted)) ∧
    (s.cc.phase = .stowing → (∃ p, s.lateStowing p = true) →
      ∃ t, exec .leg2End s = .next t ∧ t.al.requested .forcedSectionDrop = true ∧ t.cc.forcedDrop = true ∧
        (∀ p, s.lateStowing p = true → (t.pc p).risingOrUp = false ∧ (t.pc p).fset = 0)) ∧
    (((s.cc.phase = .opening ∧ s.bi.closed = false) ∨ s.cc.phase = .stowing) → (∀ p, s.lateStowing p = false) →
      ∃ t, exec .leg2End s = .next t ∧ State.Reacts s t ∧ t.cc.forcedDrop = s.cc.forcedDrop ∧
        (t.cc.phase = .stowing ∨ t.cc.phase = .coasting ∨ t.cc.phase = .requalify ∨ t.cc.phase = .aborted)) ∧
    (s.cc.phase = .coasting →
      ∃ t, exec .leg2End s = .next t ∧ State.Reacts s t ∧ t.cc.forcedDrop = s.cc.forcedDrop ∧
        (t.cc.phase = .coasting ∨ t.cc.phase = .requalify ∨ t.cc.phase = .aborted)) ∧
    (s.cc.phase = .opening ∨ s.cc.phase = .stowing ∨ s.cc.phase = .coasting →
      (∀ p, s.cc.nextPan = some p → s.Sound p) →
      ∃ t, exec .leg2End s = .next t ∧ t.cc.leg3 = s.cc.leg3 ∧
        (s.cc.leg3 ≤ 0 → t.cc.countdown = .ended) ∧
        (0 < s.cc.leg3 → t.cc.countdown = .running .three s.cc.leg3.toNat)) ∧
    ((s.cc.phase = .opening ∧ s.bi.closed = false) ∨ s.cc.phase = .stowing ∨ s.cc.phase = .coasting →
      (s.cc.phase = .coasting ∨ ∀ p, s.lateStowing p = false) → s.SensorsCalm → s.NoNewCause im → s.icu.scrape = none →
      ∃ t, exec .leg2End s = .next t ∧
        ∀ p, (s.pc p).risingOrUp = true → (s.pc p).disc = true →
          (t.pc p).state = (s.pc p).state ∧ (t.pc p).valve = (s.pc p).valve ∧ (t.pc p).lowering = none ∧
            (t.pc p).disc = true ∧ (t.pc p).fset = (s.pc p).fset ∧ (t.pc p).duty = (s.pc p).duty)

/-- The end of leg 3 in COASTING makes the phase REQUALIFY and the countdown ended (R116), while the next collecting
pantograph cannot come to FAULT (R109): with that pantograph not UP in COLLECTING connection the raise ask stands and no timer
runs, with it UP and COLLECTING the requalify timer starts and the ask is clear (R117). The expiry of the running requalify
timer (R119, R122) makes it ABORTED with CHANGEOVER_FAIL, countdown and timer stopped, the ask cleared, the CC in the
hold-open set, and the next collecting pantograph no longer raised without a lowering in progress. At a window end with the
timer running, the next pantograph UP and COLLECTING and nothing asked by a sensor, a cause or a scrape pass (R118): a result
that does not qualify raises the count and leaves phase and timer; a live class other than the next system with count and
streak at Kq aborts; the next system ends REQUALIFY in CLOSING or beyond (R120): with no other hold-open entry and a set that
contains it the phase is NORMAL again with the permit given and the section retained (R121, R50), under an EMERGENCY latch it
waits in CLOSING without permit. In CLOSING a window end after which Q is not the next system falls back to REQUALIFY, the CC
in the hold-open set and the timer started afresh. Every step keeps the laws of the phases that sections 5.4 to 5.6 give. That
LEG_3_END and the expiry act whatever their countdown or timer shows is log 1 and log 12; the order of reactions is log 6. -/
def Obligations.RequalifyBeginsAndTimesOut : Prop :=
  (∀ (s : State) (im : Image) (n : Nat) (p : Pan), s.released = true → s.cl.image = some im → s.cc.phase = .coasting →
    s.cc.countdown = .running .three n → s.cc.nextPan = some p → s.Sound p →
    ∃ t, exec .leg3End s = .next t ∧ t.cc.phase = .requalify ∧ t.cc.countdown = .ended ∧ t.cc.nextPan = some p ∧
      t.cc.rqCount = 0 ∧ t.bi.permit = false ∧
      ((s.pc p).upCollecting = false → ¬((s.pc p).state = .rising ∧ s.upSensor p = true) →
        t.cc.raiseAsk = true ∧ t.cc.rqTimer = none) ∧
      ((s.pc p).upCollecting = true → (s.pc p).lowering = none → s.icu.scrape = none → s.NoNewCause im →
        t.cc.raiseAsk = false ∧ t.cc.rqTimer = Timer.started)) ∧
  (∀ (s : State) (p : Pan), s.released = true → s.cc.rqTimer.isSome = true → s.cc.nextPan = some p → s.acts p = true →
    ∃ t, exec .requalifyTimerExpiry s = .next t ∧ t.cc.phase = .aborted ∧ t.al.requested .changeoverFail = true ∧
      t.cc.countdown = .stopped ∧ t.cc.rqTimer = none ∧ t.cc.raiseAsk = false ∧ t.bi.hold.cc = true ∧
      t.bi.permit = false ∧ ((t.pc p).risingOrUp = true → (t.pc p).lowering.isSome = true)) ∧
  (∀ (s : State) (im : Image) (code : BitVec 14) (valid : Bool) (p : Pan) (sec : CurrentSection), s.released = true →
    s.cl.image = some im → s.lq.index = 2303 → s.cc.nextPan = some p → s.cc.current = some sec → s.acts p = true →
    (s.pc p).state = .up → (s.pc p).disc = true → s.bi.closed = false → s.SensorsCalm → s.NoNewCause im →
    s.icu.scrape = none →
    let q := (s.lq.take im.h code valid).close im.kq
    let count := min 255 (s.cc.rqCount + 1)
    let qualifies : Prop := im.kq ≤ count ∧ q.result.cls.live = true ∧ im.kq ≤ q.candCount
    ∃ t, exec (.sampleEvent code valid) s = .next t ∧ t.lq.q = q.q ∧
      (s.cc.phase = .requalify → s.cc.rqTimer.isSome = true → s.cc.rqCount ≤ 255 →
        (¬qualifies → t.cc.phase = .requalify ∧ t.cc.rqCount = count ∧ t.cc.rqTimer = s.cc.rqTimer) ∧
        (qualifies → q.result.cls ≠ sec.next →
          t.cc.phase = .aborted ∧ t.al.requested .changeoverFail = true ∧ t.bi.hold.cc = true ∧ t.cc.rqTimer = none ∧
            t.cc.raiseAsk = false ∧ t.cc.countdown = .stopped ∧
            ((t.pc p).state = .lowering ∨ (t.pc p).lowering = some .softRamp)) ∧
        (qualifies → q.result.cls = sec.next →
          t.cc.phase ≠ .requalify ∧ t.cc.rqTimer = none ∧ t.cc.raiseAsk = false ∧
          (s.bi.hold = ⟨false, false, true, false, false⟩ → s.cc.pendingSec = none → s.OneCollecting → s.ImageLaw →
            (∃ set, (im.pan p).set = some set ∧ set.contains sec.next = true) →
            t.cc.phase = .normal ∧ t.bi.hold = ⟨false, false, false, false, false⟩ ∧ t.bi.permit = true ∧
              t.cc.nextPan = none ∧ t.cc.countdown = .stopped ∧ t.cc.forcedDrop = false ∧
              t.cc.current = some { sec with inExec := false }) ∧
          (s.ds.latch.emergency = true → s.bi.hold.ds = true →
            t.cc.phase = .closing ∧ t.bi.hold.cc = false ∧ t.bi.permit = false ∧ t.cc.nextPan = some p))) ∧
      (s.cc.phase = .closing → s.cc.rqTimer = none → q.q ≠ sec.next →
        t.cc.phase = .requalify ∧ t.bi.hold.cc = true ∧ t.bi.permit = false ∧ t.cc.rqCount = 0 ∧
          t.cc.rqTimer = Timer.started ∧ t.cc.raiseAsk = false)) ∧
  (∀ s t : State, s.HeldLaw → s.PhaseLaw → step s = .next t → t.PhaseLaw)

/-! ### Ice clearing and drop supervision -/

/-- An edge on an arc input (R193, R129, R132): a counted edge no less than 1 ms after the last one taken is an arc
edge; of a pantograph UP in COLLECTING connection it counts in the arc record and, saturating at 255, in the count of the
window in progress unless the same event abandons that window, and is written into the arc record, in FIRST mode only into
an empty one; of any other it is disregarded. At the end of a window both rings take the counts of that window, which start
again from 0 (R130), and the clear streak counts a low arc sum in CLEARING (R137); a window that the wiring abandons gives
them its partial counts when it holds a sample (R17 to R19), and a pantograph that enters UP in COLLECTING connection becomes
the arc pantograph (R131). The ice state moves by the table of R135, a move into WATCH followed at once by its rows; at each
exit from CLEARING, one that is entered again at once too, every heater is off, the HEAT and SCRAPE wants go with a claim of
theirs, a scrape pass ends (R138), and the clear streak is 0. The time of an edge is an operand of the model's (log 13). -/
def Obligations.ArcEdgeIsRecorded : Prop :=
  (∀ (s : State) (im : Image) (p : Pan) (rising : Bool) (us : Nat), s.released = true → s.cl.image = some im →
    ((rising = s.arcInverted p ∨ ∃ last, s.ioc.lastArc p = some last ∧ us < last + 1000) →
      ∃ t, exec (.arcEdge p rising us) s = .next t ∧ State.Reacts s t) ∧
    (rising ≠ s.arcInverted p → (∀ last, s.ioc.lastArc p = some last → last + 1000 ≤ us) →
      ∃ t, exec (.arcEdge p rising us) s = .next t ∧ t.ioc.lastArc p = some us ∧
        t.ioc.lastArc p.other = s.ioc.lastArc p.other ∧
        ((s.pc p).upCollecting = false → t.icu.arcCount = s.icu.arcCount ∧ t.icu.arcFields = s.icu.arcFields ∧
          (t.lq = s.lq → t.icu.winA = s.icu.winA ∧ t.icu.winB = s.icu.winB)) ∧
        ((s.pc p).upCollecting = true →
          t.icu.arcCount = (if s.icu.arcCount < 255 then s.icu.arcCount + 1 else 0) ∧
          t.icu.arcFields =
            (if im.arcLast = true ∨ s.icu.arcFields = none then
              some ⟨p, if s.lq.resultCounter < 65535 then s.lq.resultCounter + 1 else 0, s.ioc.distance, s.ioc.speed,
                s.lq.q⟩
            else s.icu.arcFields) ∧
          (t.lq = s.lq →
            t.icu.winA = (if p = .a then min 255 (s.icu.winA + 1) else s.icu.winA) ∧
            t.icu.winB = (if p = .b then min 255 (s.icu.winB + 1) else s.icu.winB))))) ∧
  (∀ (s : State) (im : Image) (code : BitVec 14) (valid : Bool), s.released = true → s.cl.image = some im →
    s.lq.index = 2303 →
    ∃ t, exec (.sampleEvent code valid) s = .next t ∧ t.icu.ringA = s.icu.ringA.tail ++ [s.icu.winA] ∧
      t.icu.ringB = s.icu.ringB.tail ++ [s.icu.winB] ∧ t.icu.winA = 0 ∧ t.icu.winB = 0) ∧
  (∀ (u : ICU) (tClear : Nat),
    let v := u.advance tClear
    v.ringA = u.ringA.tail ++ [u.winA] ∧ v.ringB = u.ringB.tail ++ [u.winB] ∧ v.winA = 0 ∧ v.winB = 0 ∧
    v.arcSum = (match u.arcPan with | some .a => v.ringA.sum | some .b => v.ringB.sum | none => 0) ∧
    (u.state ≠ .clearing → v.clearStreak = u.clearStreak) ∧
    (u.state = .clearing → tClear < v.arcSum → v.clearStreak = 0) ∧
    (u.state = .clearing → v.arcSum ≤ tClear → v.clearStreak = min 16 (u.clearStreak + 1))) ∧
  (∀ (s t : State) (im : Image), t.cl.image = some im →
    let changed := ∃ p, (s.pc p).upCollecting ≠ (t.pc p).upCollecting ∨ (s.pc p).disc ≠ (t.pc p).disc
    let w := s.wiring t
    (changed → w.lq = t.lq.abandon ∧
      (0 < t.lq.index → w.icu.ringA = t.icu.ringA.tail ++ [t.icu.winA] ∧ w.icu.ringB = t.icu.ringB.tail ++ [t.icu.winB] ∧
        w.icu.winA = 0 ∧ w.icu.winB = 0 ∧ w.icu.clearStreak = (t.icu.advance im.tClear).clearStreak) ∧
      (t.lq.index = 0 → w.icu.ringA = t.icu.ringA ∧ w.icu.ringB = t.icu.ringB ∧ w.icu.winA = t.icu.winA ∧
        w.icu.winB = t.icu.winB ∧ w.icu.clearStreak = t.icu.clearStreak)) ∧
    (∀ p, (s.pc p).upCollecting = false → (t.pc p).upCollecting = true → (t.pc p.other).upCollecting = false →
      w.icu.arcPan = some p ∧ w.icu.arcSum = match p with | .a => w.icu.ringA.sum | .b => w.icu.ringB.sum) ∧
    ((∀ p, (t.pc p).upCollecting = true → (s.pc p).upCollecting = true) → w.icu.arcPan = t.icu.arcPan) ∧
    (¬changed → w = t)) ∧
  (∀ (s : State) (im : Image),
    let t := s.formIce im
    let watching : IceState := if s.icu.mode = .forced ∨ im.tIce ≤ s.icu.arcSum then .clearing else .watch
    (s.iceOff im = true → t.icu.state = .off ∧ t.icu.clearStreak = 0) ∧
    (s.iceOff im = false → s.iceHold = true → t.icu.state = .suspended ∧ t.icu.clearStreak = 0) ∧
    (s.iceOff im = false → s.iceHold = false → s.icu.state = .clearing →
      ¬(s.icu.mode = .auto ∧ 16 ≤ s.icu.clearStreak) → t = s) ∧
    (s.iceOff im = false → s.iceHold = false → s.icu.state ≠ .clearing →
      t.icu.state = watching ∧ t.icu.clearStreak = 0) ∧
    (s.icu.state = .clearing → (s.iceOff im = true ∨ s.iceHold = true ∨ (s.icu.mode = .auto ∧ 16 ≤ s.icu.clearStreak)) →
      t.icu.heaterA = false ∧ t.icu.heaterB = false ∧ t.icu.draw = 0 ∧ t.au.heat = none ∧ t.au.scrape = none ∧
        t.icu.scrape = none ∧ t.au.raise = s.au.raise ∧
        (∀ b, s.au.claimOpen = true → s.au.body = some b → b.kind ≠ .raise → t.au.claimOpen = false) ∧
        (∀ p, s.icu.scrape = some p → t.icu.scrapeCount = none ∧
          t.icu.cooldown = if im.cooldownDist * im.ppm = 0 then none else some (im.cooldownDist * im.ppm))) ∧
    (s.iceOff im = false → s.iceHold = false → s.icu.state = .clearing → s.icu.mode = .auto →
      16 ≤ s.icu.clearStreak → im.tIce ≤ s.icu.arcSum → t.icu.state = .clearing ∧ t.icu.clearStreak = 0) ∧
    (s.iceOff im = false → s.iceHold = false → s.icu.state = .clearing → s.icu.mode = .auto →
      16 ≤ s.icu.clearStreak → s.icu.arcSum < im.tIce → t.icu.state = .watch ∧ t.icu.clearStreak = 0))

/-- The end of the scrape countdown (R145, R146) ends the pass: the pass is NONE, its countdown stopped, the cooldown
loaded with its distance in pulses, and an isolated scraping pantograph is LOWERING. The end of the cooldown stops it. An
odometer pulse (R144, R146) lowers the scrape countdown of a pass that goes on by one; at the last one it ends the pass and
loads the whole cooldown; with no pass it lowers the cooldown, which stops at its last pulse. That the end commands act
while their countdown stands is log 1, that a pulse ends a countdown inline log 12, the order of reactions log 6. -/
def Obligations.ScrapePassEndsInTheCooldown : Prop :=
  (∀ (s : State) (im : Image) (p : Pan) (n : Nat), s.released = true → s.cl.image = some im →
    s.icu.scrape = some p → s.icu.scrapeCount = some n →
    ∃ t, exec .scrapeCountdownEnd s = .next t ∧ t.icu.scrape = none ∧ t.icu.scrapeCount = none ∧
      t.icu.cooldown = (if im.cooldownDist * im.ppm = 0 then none else some (im.cooldownDist * im.ppm)) ∧
      (s.acts p = true → (s.pc p).risingOrUp = true → (s.pc p).lowering = none → (s.pc p).disc = false →
        s.downSensor p = false → (t.pc p).state = .lowering ∧ (t.pc p).valve = false)) ∧
  (∀ s : State, s.released = true → s.icu.scrape = none →
    ∃ t, exec .cooldownEnd s = .next t ∧ t.icu.cooldown = none ∧ State.Reacts s t) ∧
  (∀ (s : State) (im : Image) (rising : Bool) (us : Nat), s.released = true → s.cl.image = some im →
    rising ≠ s.odoInverted → (∀ last, s.ioc.lastOdo = some last → last + 50 ≤ us) →
    ∃ t, exec (.odometerPulse rising us) s = .next t ∧
      (let whole : Option Nat := if im.cooldownDist * im.ppm = 0 then none else some (im.cooldownDist * im.ppm)
      (∀ p n, s.icu.scrape = some p → s.icu.scrapeCount = some n → n ≤ 1 →
        t.icu.scrape = none ∧ t.icu.scrapeCount = none ∧ t.icu.cooldown = whole) ∧
      (∀ p n, s.icu.scrape = some p → s.icu.scrapeCount = some n → 2 ≤ n →
        (t.icu.scrape = some p ∧ t.icu.scrapeCount = some (n - 1)) ∨
          (t.icu.scrape = none ∧ t.icu.scrapeCount = none ∧ t.icu.cooldown = whole)) ∧
      (s.icu.scrape = none → s.icu.scrapeCount = none →
        (∀ n, s.icu.cooldown = some n → t.icu.cooldown = if n ≤ 1 then none else some (n - 1)) ∧
        (s.icu.cooldown = none → t.icu.cooldown = none))))

/-- The law of R142 with R131, R134 to R137 and R147: every step keeps the heater draw the sum of the ratings of the heaters
that are on, and zero with the breaker OPEN or the phase other than NORMAL or ARMED; the ice state OFF exactly under the off
condition, without it SUSPENDED exactly under the hold condition, WATCH only in AUTO below T_ice, CLEARING in AUTO only with
a clear streak below 16; the arc sum the sum of the arc pantograph's ring and the severe mark its comparison; the clear
streak within 16, and 0 outside CLEARING. Its premises, the law of R32 that one pantograph collects and that the image in use
is clamped (R203), are kept too. -/
def Obligations.HeaterDrawAndIceStateStandByTheirLaws : Prop :=
  ∀ s t : State, s.OneCollecting → s.ImageLaw → s.HeaterLaw ∧ s.IceLaw → step s = .next t →
    t.OneCollecting ∧ t.ImageLaw ∧ t.HeaterLaw ∧ t.IceLaw

/-- The expiry of the running restore timer (R162) with no pantograph RISING or UP and no cause that becomes active: every
maskable latch clears, the others stand, and the DS is in the hold-open set exactly while one does (R154). That the expiry
acts while its timer runs, whatever its time, is log 1; the order of reactions is log 6. -/
def Obligations.RestoreTimerClearsTheMaskableLatches : Prop :=
  ∀ (s : State) (im : Image), s.released = true → s.cl.image = some im → s.ds.restoreT.isSome = true →
    (∀ p, (s.pc p).risingOrUp = false) → s.NoNewCause im →
    ∃ t, exec .restoreTimerExpiry s = .next t ∧
      t.ds.latch = { s.ds.latch with wrongSystem := false, controlSilent := false, lineLost := false, arcSevere := false } ∧
      t.ds.restoreT = none ∧ (t.bi.hold.ds = true ↔ t.ds.latch ≠ .empty) ∧ t.kept = s.kept

/-- R155, R157 to R161: every step keeps the causes that the Drop Supervisor holds those of the loop, the demand in force, a
collecting pantograph on a live Q outside its set in NORMAL, the silence, a dead line under a collecting pantograph in NORMAL,
and the arc sum; and FORCED latched exactly while the demand in force carries force-drop (R157); with the laws of the table
and of the demand in force as premises. R162: every step keeps the restore timer running exactly while its three conditions
hold, and starts it from 0 where they come to hold or a latch is new. R151, R152: of the maskable conditions one with its mask
OFF is not latched, and one with its mask ON is where its cause becomes active; a new latch enters the DS in the hold-open set
and leaves no pantograph RISING or UP that is not being lowered, EMERGENCY none RISING or UP at all; WRONG_SYSTEM is requested
at its cause whatever the mask (R158). EMERGENCY and AIR_LOSS are cleared only by a restore toggle that acts, under the tests
of R163, a maskable condition only by one, by the expiry of the restore timer, or at once with delay code 0 (R162, log 20). -/
def Obligations.DropCausesFollowTheirSources : Prop :=
  (∀ s t : State, s.HeldLaw → s.TableLaw → s.DemandLaw → s.CauseLaw → step s = .next t → t.CauseLaw) ∧
  (∀ s t : State, s.HeldLaw → s.RestoreLaw → step s = .next t →
    t.RestoreLaw ∧ (t.RestoreDue → ¬s.RestoreDue → t.ds.restoreT = Timer.started)) ∧
  (∀ (c : Instr) (rest : List Instr) (s t : State) (im : Image), s.pending = c :: rest → step s = .next t →
    s.released = true → t.released = true → t.cl.image = some im →
    let restored : Prop := ∃ h b, c = .demandReceived h b ∧ ({ s with pending := rest }.demandToggles h b).restore = true
    (∀ k, k.maskable = true →
      (im.masks.get k = false → s.ds.latch.get k = false → t.ds.latch.get k = false) ∧
      (im.masks.get k = true → s.ds.cause.get k = false → t.ds.cause.get k = true → t.ds.latch.get k = true) ∧
      (s.ds.latch.get k = true → t.ds.latch.get k = false → restored ∨ c = .restoreTimerExpiry ∨ im.delayCode = 0)) ∧
    (∀ k, s.ds.latch.get k = false → t.ds.latch.get k = true →
      t.bi.hold.ds = true ∧ (t.RestoreDue → t.ds.restoreT = Timer.started) ∧
      (k = .forced ∨ k.maskable = true → t.AllLowering) ∧
      (k = .emergency → t.al.requested .emergency = true ∧
        ∀ p, t.acts p = true → (t.pc p).risingOrUp = false)) ∧
    (s.ds.cause.wrongSystem = false → t.ds.cause.wrongSystem = true → t.al.requested .wrongSystem = true) ∧
    (s.ds.latch.emergency = true → t.ds.latch.emergency = false → restored ∧ t.eloopOpen = false) ∧
    (∀ p, s.ds.latch.get (airLossOf p) = true → t.ds.latch.get (airLossOf p) = false → restored ∧ t.airOk p = true ∧
      ((t.pc p).state = .down ∨ ((t.pc p).state = .fault ∧ t.downSensor p = true))))

/-! ### The line -/

/-- The next frame is that of the first occupied slot in the order WITHDRAW, CLAIM, STATUS, RECORD (R169). Its attempt starts
(R169, R170) when the line has been idle for 16 bit times and that frame's own delay; its first attempt gives it the
sequence counter, which advances; a STATUS starts the gap (R180). With a shorter idle, no frame, or an attempt in progress
nothing starts. The idle time is an operand of the model's (log 19). -/
def Obligations.AttemptStartsAfterItsDelay : Prop :=
  ∀ (s : State) (idle : Nat), s.released = true →
    (∀ w, s.lau.wdSlot = some w → s.lau.chosen = some ⟨.withdraw w.frame, w.fails, w.seq, 0⟩) ∧
    (s.lau.wdSlot = none →
      (∀ c, s.lau.clSlot = some c → s.lau.chosen = some ⟨.claim c.frame, c.fails, c.seq, 0⟩) ∧
      (s.lau.clSlot = none →
        (∀ f, s.lau.stSlot = some f → s.lau.chosen = some ⟨.status f.frame, f.fails, f.seq, 1⟩) ∧
        (s.lau.stSlot = none →
          (∀ r, s.lau.rcSlot = some r → s.lau.chosen = some ⟨.record r.frame, r.fails, r.seq, 2⟩) ∧
          (s.lau.rcSlot = none → s.lau.chosen = none)))) ∧
    (s.lau.onLine.isSome = true ∨ s.lau.chosen = none →
      ∃ t, exec (.transmitStart idle) s = .next t ∧ State.Reacts s t) ∧
    (∀ c, s.lau.onLine = none → s.lau.chosen = some c →
      (c.cls = match c.frame with | .withdraw _ => 0 | .claim _ => 0 | .status _ => 1 | .record _ => 2) ∧
      let wait := 16 + if c.fails = 0 then 8 * c.cls + s.cl.address.toNat
        else (s.cl.address.toNat + 1) * 4 + c.fails * 32
      (idle < wait → ∃ t, exec (.transmitStart idle) s = .next t ∧ State.Reacts s t) ∧
      (wait ≤ idle →
        ∃ t, exec (.transmitStart idle) s = .next t ∧
          t.lau.onLine = some ⟨c.frame, c.fails, c.seq.getD s.lau.seq⟩ ∧
          t.lau.seq = (if c.seq.isSome then s.lau.seq else if s.lau.seq < 255 then s.lau.seq + 1 else 0) ∧
          (∀ f, c.frame = .status f → t.lau.gapT = Timer.started) ∧
          ((∀ f, c.frame ≠ .status f) → t.lau.gapT = s.lau.gapT) ∧
          (∀ f, c.frame = .record f → t.lau.rcSlot = none) ∧
          ((∀ f, c.frame ≠ .record f) → t.lau.rcSlot = s.lau.rcSlot) ∧
          t.pv = s.pv ∧ t.ioc = s.ioc ∧ t.lau.collisions = s.lau.collisions ∧ t.lau.rxErrors = s.lau.rxErrors))

/-- The ends of an attempt. A success takes the frame from the line (R171), and that of the own CLAIM in SENT makes the claim
HOLDING with the hold-off timer started (R90), unless the same event withdraws it. A failure counts a collision (R172) and
gives the frame back to its empty slot with its number kept and one failure more; a newer frame in the slot supersedes it,
and a CLAIM whose WITHDRAW waits is removed with it. The eighth failure of a frame counts a TX drop, requests LINK_DEGRADED
and makes its cause active (R173, R178); a CLAIM so discarded takes its waiting WITHDRAW with it, and in SENT its claim waits
through the retry hold (R90). What follows by reactions is the order of events of log 6, the model's; that the body of an
ended claim is cleared is log 17. -/
def Obligations.AttemptsEndOrFail : Prop :=
  ∀ (s : State) (a : Attempt), s.released = true → s.lau.onLine = some a →
    (∃ t, exec .transmitEnd s = .next t ∧ State.Reacts { s with lau := { s.lau with onLine := none } } t ∧
      ∀ c, a.frame = .claim c → s.au.claim = .sent → s.au.serial = c.serial →
        (∀ x, s.lau.clSlot = some x → x.frame.serial ≠ c.serial) →
        (t.au.claim = .holding ∧ t.au.holdOffT = Timer.started ∧ t.au.serial = c.serial) ∨
          (t.au.claim ≠ .holding ∧ t.lau.wdSlot = some ⟨c.serial, 0, none⟩)) ∧
    (∀ c, a.frame = .claim c → s.attemptEnds =
      if s.au.claim = .sent ∧ s.au.serial = c.serial then
        { s with lau := { s.lau with onLine := none }, au := { s.au with claim := .holding, holdOffT := Timer.started } }
      else { s with lau := { s.lau with onLine := none } }) ∧
    ((∀ c, a.frame ≠ .claim c) → s.attemptEnds = { s with lau := { s.lau with onLine := none } }) ∧
    (∃ t, exec .failedAttempt s = .next t ∧ t.lau.onLine = none ∧
      t.lau.collisions = (if s.lau.collisions < 65535 then s.lau.collisions + 1 else 65535) ∧
      t.lau.seq = s.lau.seq ∧ t.pv = s.pv ∧ t.ioc = s.ioc ∧
      (a.fails + 1 < 8 →
        t.lau.txDrops = s.lau.txDrops ∧ t.lau.degraded = s.lau.degraded ∧ t.au.retryT = s.au.retryT ∧
        (∀ f, a.frame = .record f → s.lau.rcSlot = none → t.lau.rcSlot = some ⟨f, a.fails + 1, some a.seq⟩) ∧
        (∀ f r, a.frame = .record f → s.lau.rcSlot = some r → t.lau.rcSlot = some r)) ∧
      (8 ≤ a.fails + 1 →
        t.lau.txDrops = (if s.lau.txDrops < 65535 then s.lau.txDrops + 1 else 65535) ∧ t.lau.degraded = true ∧
        t.lau.periodDrop = true ∧ t.al.requested .linkDegraded = true ∧
        (∀ c, a.frame = .claim c → s.au.claim = .sent → s.au.serial = c.serial → t.au.retryT = Timer.started))) ∧
    (let t := s.attemptFails
    let off : LAU := { s.lau with
      onLine := none, collisions := if s.lau.collisions < 65535 then s.lau.collisions + 1 else 65535 }
    (a.fails + 1 < 8 →
      (∀ n, a.frame = .withdraw n → t = { s with lau :=
        if s.lau.wdSlot = none then { off with wdSlot := some ⟨n, a.fails + 1, some a.seq⟩ } else off }) ∧
      (∀ c, a.frame = .claim c → t = { s with lau :=
        if s.lau.clSlot ≠ none then off
        else if (s.lau.wdSlot.any fun w => w.frame = c.serial) = true then { off with wdSlot := none }
        else { off with clSlot := some ⟨c, a.fails + 1, some a.seq⟩ } }) ∧
      (∀ f, a.frame = .status f → t = { s with lau :=
        if s.lau.stSlot = none then { off with stSlot := some ⟨f, a.fails + 1, some a.seq⟩ } else off }) ∧
      (∀ r, a.frame = .record r → t = { s with lau :=
        if s.lau.rcSlot = none then { off with rcSlot := some ⟨r, a.fails + 1, some a.seq⟩ } else off })) ∧
    (8 ≤ a.fails + 1 →
      (∀ c, a.frame = .claim c →
        ((∃ w, s.lau.wdSlot = some w ∧ w.frame = c.serial) → t.lau.wdSlot = none) ∧
        ((∀ w, s.lau.wdSlot = some w → w.frame ≠ c.serial) → t.lau.wdSlot = s.lau.wdSlot) ∧
        (s.au.claim = .sent → s.au.serial = c.serial →
          t.au = { s.au with claim := .waiting, body := none, retryT := Timer.started }) ∧
        (¬(s.au.claim = .sent ∧ s.au.serial = c.serial) → t.au = s.au)) ∧
      ((∀ c, a.frame ≠ .claim c) → t.au = s.au ∧ t.lau.wdSlot = s.lau.wdSlot)))

/-- The times of the line: the end of an error period (R177, R178) clears its count and its mark and ends a degraded
cause that it found clean; the STATUS countdown repeats and places a STATUS where its slot is occupied or no gap runs,
else leaves one pending (R179); the end of the gap places a pending STATUS once the countdown runs (R180, R181). A STATUS
placed on a good configuration carries every field of R188 as it stands at the end of that event. That the STATUS countdown
and the gap expire whenever they run is log 1, that the snapshot is of the end of the event log 26. The error period
restarts at its command by log 28, the STATUS countdown by log 22; the order of reactions is log 6. -/
def Obligations.LinePeriodsEnd : Prop :=
  (∀ s : State, s.released = true →
    ∃ t, exec .errorPeriodEnd s = .next t ∧
      State.Reacts { s with lau := { s.lau with
        periodErrors := 0, periodDrop := false, periodClock := 0,
        degraded := s.lau.degraded && (decide (16 ≤ s.lau.periodErrors) || s.lau.periodDrop) } } t) ∧
  (∀ s : State, s.released = true → s.lau.statusT.isSome = true →
    ∃ t, exec .statusCountdownExpiry s = .next t ∧ t.lau.statusT = Timer.started ∧ State.Reacts s t ∧
      (s.lau.stSlot.isSome = true ∨ s.lau.gapT = none → ∃ f, t.lau.stSlot = some ⟨f, 0, none⟩ ∧
        t.lau.statusPending = false ∧ (∀ im, s.cl.image = some im → f.Shows t im) ∧
        (s.cl.image = none → f.configFault = true ∧ f.interval = 10)) ∧
      (s.lau.stSlot = none → s.lau.gapT.isSome = true → t.lau.stSlot = none ∧ t.lau.statusPending = true)) ∧
  (∀ s : State, s.released = true → s.lau.gapT.isSome = true →
    ∃ t, exec .statusGapEnd s = .next t ∧ State.Reacts { s with lau := { s.lau with gapT := none } } t ∧
      (s.lau.statusPending = true → s.lau.statusT.isSome = true → ∃ f, t.lau.stSlot = some ⟨f, 0, none⟩ ∧
        t.lau.statusPending = false ∧ ∀ im, s.cl.image = some im → f.Shows t im))

/-- The periods of the odometry: a bucket close (R196) shifts the buckets and forms the speed of the four last closed
ones, clamped to 400; the stationary timer's expiry sets the flag and the direction view follows the accepted level
(R197, R198), but an expiry that a pulse has preceded, the timer short of its 2 s, does nothing (log 1); a conversion of
TEMP is taken when valid, and turning invalid requests SENSOR_FAULT (R199). The bucket clock restarts at its command by
log 28; the order of reactions is log 6. -/
def Obligations.OdometryPeriodsAndTemperature : Prop :=
  (∀ s : State, s.released = true →
    ∃ t, exec .bucketClose s = .next t ∧
      State.Reacts { s with ioc := { s.ioc with
        closed1 := s.ioc.closed2, closed2 := s.ioc.closed3, closed3 := s.ioc.closed4, closed4 := s.ioc.bucket,
        bucket := 0, bucketClock := 0,
        speed := match s.cl.image with
          | some im =>
            min 400 ((s.ioc.closed2 + s.ioc.closed3 + s.ioc.closed4 + s.ioc.bucket) * 3600 / (im.ppm * 1000))
          | none => s.ioc.speed } } t) ∧
  (∀ (s : State) (n : Nat), s.released = true → s.ioc.stationaryT = some n →
    ∃ t, exec .stationaryTimerExpiry s = .next t ∧
      (2000 ≤ n → State.Reacts { s with ioc := { s.ioc with
        stationary := true, stationaryT := none, view := directionOf s.ioc.levels.dir } } t) ∧
      (n < 2000 → State.Reacts s t)) ∧
  (∀ (s : State) (r : Int), s.released = true →
    ∃ t, exec (.ambientConversion r) s = .next t ∧
      State.Reacts { s with ioc := { s.ioc with
        ambient := if -100 ≤ r ∧ r ≤ 160 then some r else s.ioc.ambient,
        tempInvalid := decide ¬(-100 ≤ r ∧ r ≤ 160) } } t ∧
      (¬(-100 ≤ r ∧ r ≤ 160) → s.ioc.tempInvalid = false → t.al.requested .sensorFault = true))

/-- Section 12.1 with R174, R205 and R206: the bytes of every well-formed frame are read back as the command that they stand
for; a frame with a wrong CRC is a CRC error; and a peer reads in the station's own CLAIM the claim that it made. On the line
(R167) a frame is eight preamble bits, the start mark, the Manchester bits of its bytes and the end mark, 12 + 8n bit times
for n bytes; the signal of an attempt is that of its frame, and every signal is read back as its bytes. A frame is formed from
the first start mark, whatever bit times stand before it, and a signal without one gives no command (R174); that a signal is
given in whole bit times of its sender is log 19. A symbol among the
data that is no Manchester bit, a mark there, and a part of a byte before the end mark are coding faults (R174). -/
def Obligations.LineFramesAreReadBack : Prop :=
  (∀ (i : Instr) (bytes : List Byte), i.wellFormed = true → encodeLineFrame i = some bytes → decodeLineFrame bytes = i) ∧
  (∀ (ty who seq len : Byte) (payload crc : List Byte), crc.length = 2 →
    crc ≠ crcBytes (ty :: who :: seq :: len :: payload) →
    decodeLineFrame (ty :: who :: seq :: len :: (payload ++ crc)) = .receiveError .crc) ∧
  (∀ (c : ClaimFrame) (trainLength : Nat) (b : Vector Byte 8), b.toList = c.payload → c.serial ≤ 255 → c.p ≤ trainLength →
    trainLength ≤ 65535 → c.amount ≤ 65535 → c.holdOff ≤ 255 →
    claimContent trainLength b = some ⟨c.serial, c.kind, c.pan, c.p, c.amount, c.holdOff * 10, 0⟩) ∧
  (∀ (s : State) (a : Attempt), s.lau.onLine = some a → s.outputs.driver = true ∧
    s.outputs.line = some (lineSignal (frameBytes a.frame.type ⟨s.cl.address, .roof, byteOf a.seq⟩ a.frame.payload))) ∧
  (∀ s : State, s.lau.onLine = none → s.outputs.driver = false ∧ s.outputs.line = none) ∧
  (∀ bytes : List Byte, (lineSignal bytes).length = 2 * (12 + 8 * bytes.length) ∧
    receiveSignal (lineSignal bytes) = some (decodeLineFrame bytes)) ∧
  (∀ pre : List (Bool × Bool), ¬[(true, true), (false, false)] <:+: pre →
    let before := pre.flatMap fun x => [x.1, x.2]
    receiveSignal before = none ∧
    ∀ bytes : List Byte, receiveSignal (before ++ (lineSignal bytes).drop 16) = some (decodeLineFrame bytes)) ∧
  (∀ (bits rest : List Bool),
    let head := [false, true, true, false, false, true, true, false, false, true, true, false, false, true, true, false,
      true, true, false, false] ++ bits.flatMap fun b => [!b, b]
    receiveSignal (head ++ true :: true :: rest) = some (.receiveError .coding) ∧
    (rest ≠ [false, false] → receiveSignal (head ++ false :: false :: rest) = some (.receiveError .coding)) ∧
    receiveSignal head = some (.receiveError .coding) ∧
    (bits.length % 8 ≠ 0 → receiveSignal (head ++ [false, false, false, false]) = some (.receiveError .coding)))

/-! ### All laws at reset -/

/-- The state right after reset meets every law of this file. The values that the spec does not give are those of log
4. -/
def Obligations.ResetMeetsEveryLaw : Prop :=
  let s := State.reset
  s.HeldLaw ∧ s.OutputTable ∧ s.OneCollecting ∧ s.IsolatedLaw ∧ s.PermitLaw ∧ s.HoldOpenLaw ∧ s.BreakerLaw ∧
    s.TableLaw ∧ s.DemandLaw ∧ s.ClaimLaw ∧ s.ConflictLaw ∧ s.AdmissionLaw ∧ s.AlertLaw ∧ s.PhaseLaw ∧ s.HeaterLaw ∧
    s.IceLaw ∧ s.CauseLaw ∧ s.RestoreLaw ∧ s.ImageLaw ∧ s.lq.InRange ∧ s.lq.Tracked ∧ s.CounterLaw
end

