-- ==== Sys2Proof/Laws/State.lean ====
section
/-! SUPPORT. One lemma per field per named update of the state, so that no later proof unfolds a record update. -/

namespace Sys2Proof.Machine

/-! ### Controllers -/

@[simp] theorem State.setPc_pc (s : State) (p : Pan) (c : PC) : (s.setPc p c).pc p = c := by cases p <;> rfl
@[simp] theorem State.setPc_pc_other (s : State) (p : Pan) (c : PC) : (s.setPc p c).pc p.other = s.pc p.other := by
  cases p <;> rfl
theorem State.setPc_pc_ne (s : State) (c : PC) {p q : Pan} (h : q ≠ p) : (s.setPc p c).pc q = s.pc q := by
  cases p <;> cases q <;> first | rfl | exact absurd rfl h
@[simp] theorem State.setPc_self (s : State) (p : Pan) : s.setPc p (s.pc p) = s := by cases p <;> rfl
@[simp] theorem State.setPc_setPc (s : State) (p : Pan) (c d : PC) : (s.setPc p c).setPc p d = s.setPc p d := by
  cases p <;> rfl
@[simp] theorem State.pc_a (s : State) : s.pc .a = s.pcA := rfl
@[simp] theorem State.pc_b (s : State) : s.pc .b = s.pcB := rfl
@[simp] theorem State.setPc_a_pcA (s : State) (c : PC) : (s.setPc .a c).pcA = c := rfl
@[simp] theorem State.setPc_a_pcB (s : State) (c : PC) : (s.setPc .a c).pcB = s.pcB := rfl
@[simp] theorem State.setPc_b_pcB (s : State) (c : PC) : (s.setPc .b c).pcB = c := rfl
@[simp] theorem State.setPc_b_pcA (s : State) (c : PC) : (s.setPc .b c).pcA = s.pcA := rfl

/-! ### setPc -/

@[simp] theorem State.setPc_lq (s : State) (p : Pan) (c : PC) : (s.setPc p c).lq = s.lq := by cases p <;> rfl
@[simp] theorem State.setPc_rampClock (s : State) (p : Pan) (c : PC) : (s.setPc p c).rampClock = s.rampClock := by
  cases p <;> rfl
@[simp] theorem State.setPc_bi (s : State) (p : Pan) (c : PC) : (s.setPc p c).bi = s.bi := by cases p <;> rfl
@[simp] theorem State.setPc_pv (s : State) (p : Pan) (c : PC) : (s.setPc p c).pv = s.pv := by cases p <;> rfl
@[simp] theorem State.setPc_au (s : State) (p : Pan) (c : PC) : (s.setPc p c).au = s.au := by cases p <;> rfl
@[simp] theorem State.setPc_cc (s : State) (p : Pan) (c : PC) : (s.setPc p c).cc = s.cc := by cases p <;> rfl
@[simp] theorem State.setPc_icu (s : State) (p : Pan) (c : PC) : (s.setPc p c).icu = s.icu := by cases p <;> rfl
@[simp] theorem State.setPc_ds (s : State) (p : Pan) (c : PC) : (s.setPc p c).ds = s.ds := by cases p <;> rfl
@[simp] theorem State.setPc_lau (s : State) (p : Pan) (c : PC) : (s.setPc p c).lau = s.lau := by cases p <;> rfl
@[simp] theorem State.setPc_al (s : State) (p : Pan) (c : PC) : (s.setPc p c).al = s.al := by cases p <;> rfl
@[simp] theorem State.setPc_ioc (s : State) (p : Pan) (c : PC) : (s.setPc p c).ioc = s.ioc := by cases p <;> rfl
@[simp] theorem State.setPc_cl (s : State) (p : Pan) (c : PC) : (s.setPc p c).cl = s.cl := by cases p <;> rfl
@[simp] theorem State.setPc_released (s : State) (p : Pan) (c : PC) : (s.setPc p c).released = s.released := by
  cases p <;> rfl
@[simp] theorem State.setPc_resetCause (s : State) (p : Pan) (c : PC) : (s.setPc p c).resetCause = s.resetCause := by
  cases p <;> rfl
@[simp] theorem State.setPc_freeCount (s : State) (p : Pan) (c : PC) : (s.setPc p c).freeCount = s.freeCount := by
  cases p <;> rfl
@[simp] theorem State.setPc_pending (s : State) (p : Pan) (c : PC) : (s.setPc p c).pending = s.pending := by
  cases p <;> rfl

/-! ### holdPan -/

@[simp] theorem State.holdPan_lq (s : State) (p : Pan) (v : Bool) : (s.holdPan p v).lq = s.lq := by cases p <;> rfl
@[simp] theorem State.holdPan_pcA (s : State) (p : Pan) (v : Bool) : (s.holdPan p v).pcA = s.pcA := by
  cases p <;> rfl
@[simp] theorem State.holdPan_pcB (s : State) (p : Pan) (v : Bool) : (s.holdPan p v).pcB = s.pcB := by
  cases p <;> rfl
@[simp] theorem State.holdPan_rampClock (s : State) (p : Pan) (v : Bool) : (s.holdPan p v).rampClock = s.rampClock := by
  cases p <;> rfl
@[simp] theorem State.holdPan_pv (s : State) (p : Pan) (v : Bool) : (s.holdPan p v).pv = s.pv := by cases p <;> rfl
@[simp] theorem State.holdPan_au (s : State) (p : Pan) (v : Bool) : (s.holdPan p v).au = s.au := by cases p <;> rfl
@[simp] theorem State.holdPan_cc (s : State) (p : Pan) (v : Bool) : (s.holdPan p v).cc = s.cc := by cases p <;> rfl
@[simp] theorem State.holdPan_icu (s : State) (p : Pan) (v : Bool) : (s.holdPan p v).icu = s.icu := by
  cases p <;> rfl
@[simp] theorem State.holdPan_ds (s : State) (p : Pan) (v : Bool) : (s.holdPan p v).ds = s.ds := by cases p <;> rfl
@[simp] theorem State.holdPan_lau (s : State) (p : Pan) (v : Bool) : (s.holdPan p v).lau = s.lau := by
  cases p <;> rfl
@[simp] theorem State.holdPan_al (s : State) (p : Pan) (v : Bool) : (s.holdPan p v).al = s.al := by cases p <;> rfl
@[simp] theorem State.holdPan_ioc (s : State) (p : Pan) (v : Bool) : (s.holdPan p v).ioc = s.ioc := by
  cases p <;> rfl
@[simp] theorem State.holdPan_cl (s : State) (p : Pan) (v : Bool) : (s.holdPan p v).cl = s.cl := by cases p <;> rfl
@[simp] theorem State.holdPan_released (s : State) (p : Pan) (v : Bool) : (s.holdPan p v).released = s.released := by
  cases p <;> rfl
@[simp] theorem State.holdPan_resetCause (s : State) (p : Pan) (v : Bool) : (s.holdPan p v).resetCause = s.resetCause := by
  cases p <;> rfl
@[simp] theorem State.holdPan_freeCount (s : State) (p : Pan) (v : Bool) : (s.holdPan p v).freeCount = s.freeCount := by
  cases p <;> rfl
@[simp] theorem State.holdPan_pending (s : State) (p : Pan) (v : Bool) : (s.holdPan p v).pending = s.pending := by
  cases p <;> rfl
@[simp] theorem State.holdPan_pc (s : State) (p : Pan) (v : Bool) (q : Pan) : (s.holdPan p v).pc q = s.pc q := by
  cases q <;> simp

/-! ### holdCC -/

@[simp] theorem State.holdCC_lq (s : State) (v : Bool) : (s.holdCC v).lq = s.lq := rfl
@[simp] theorem State.holdCC_pcA (s : State) (v : Bool) : (s.holdCC v).pcA = s.pcA := rfl
@[simp] theorem State.holdCC_pcB (s : State) (v : Bool) : (s.holdCC v).pcB = s.pcB := rfl
@[simp] theorem State.holdCC_rampClock (s : State) (v : Bool) : (s.holdCC v).rampClock = s.rampClock := rfl
@[simp] theorem State.holdCC_pv (s : State) (v : Bool) : (s.holdCC v).pv = s.pv := rfl
@[simp] theorem State.holdCC_au (s : State) (v : Bool) : (s.holdCC v).au = s.au := rfl
@[simp] theorem State.holdCC_cc (s : State) (v : Bool) : (s.holdCC v).cc = s.cc := rfl
@[simp] theorem State.holdCC_icu (s : State) (v : Bool) : (s.holdCC v).icu = s.icu := rfl
@[simp] theorem State.holdCC_ds (s : State) (v : Bool) : (s.holdCC v).ds = s.ds := rfl
@[simp] theorem State.holdCC_lau (s : State) (v : Bool) : (s.holdCC v).lau = s.lau := rfl
@[simp] theorem State.holdCC_al (s : State) (v : Bool) : (s.holdCC v).al = s.al := rfl
@[simp] theorem State.holdCC_ioc (s : State) (v : Bool) : (s.holdCC v).ioc = s.ioc := rfl
@[simp] theorem State.holdCC_cl (s : State) (v : Bool) : (s.holdCC v).cl = s.cl := rfl
@[simp] theorem State.holdCC_released (s : State) (v : Bool) : (s.holdCC v).released = s.released := rfl
@[simp] theorem State.holdCC_resetCause (s : State) (v : Bool) : (s.holdCC v).resetCause = s.resetCause := rfl
@[simp] theorem State.holdCC_freeCount (s : State) (v : Bool) : (s.holdCC v).freeCount = s.freeCount := rfl
@[simp] theorem State.holdCC_pending (s : State) (v : Bool) : (s.holdCC v).pending = s.pending := rfl
@[simp] theorem State.holdCC_pc (s : State) (v : Bool) (q : Pan) : (s.holdCC v).pc q = s.pc q := by
  cases q <;> simp

/-! ### holdDS -/

@[simp] theorem State.holdDS_lq (s : State) (v : Bool) : (s.holdDS v).lq = s.lq := rfl
@[simp] theorem State.holdDS_pcA (s : State) (v : Bool) : (s.holdDS v).pcA = s.pcA := rfl
@[simp] theorem State.holdDS_pcB (s : State) (v : Bool) : (s.holdDS v).pcB = s.pcB := rfl
@[simp] theorem State.holdDS_rampClock (s : State) (v : Bool) : (s.holdDS v).rampClock = s.rampClock := rfl
@[simp] theorem State.holdDS_pv (s : State) (v : Bool) : (s.holdDS v).pv = s.pv := rfl
@[simp] theorem State.holdDS_au (s : State) (v : Bool) : (s.holdDS v).au = s.au := rfl
@[simp] theorem State.holdDS_cc (s : State) (v : Bool) : (s.holdDS v).cc = s.cc := rfl
@[simp] theorem State.holdDS_icu (s : State) (v : Bool) : (s.holdDS v).icu = s.icu := rfl
@[simp] theorem State.holdDS_ds (s : State) (v : Bool) : (s.holdDS v).ds = s.ds := rfl
@[simp] theorem State.holdDS_lau (s : State) (v : Bool) : (s.holdDS v).lau = s.lau := rfl
@[simp] theorem State.holdDS_al (s : State) (v : Bool) : (s.holdDS v).al = s.al := rfl
@[simp] theorem State.holdDS_ioc (s : State) (v : Bool) : (s.holdDS v).ioc = s.ioc := rfl
@[simp] theorem State.holdDS_cl (s : State) (v : Bool) : (s.holdDS v).cl = s.cl := rfl
@[simp] theorem State.holdDS_released (s : State) (v : Bool) : (s.holdDS v).released = s.released := rfl
@[simp] theorem State.holdDS_resetCause (s : State) (v : Bool) : (s.holdDS v).resetCause = s.resetCause := rfl
@[simp] theorem State.holdDS_freeCount (s : State) (v : Bool) : (s.holdDS v).freeCount = s.freeCount := rfl
@[simp] theorem State.holdDS_pending (s : State) (v : Bool) : (s.holdDS v).pending = s.pending := rfl
@[simp] theorem State.holdDS_pc (s : State) (v : Bool) (q : Pan) : (s.holdDS v).pc q = s.pc q := by
  cases q <;> simp

/-! ### holdCL -/

@[simp] theorem State.holdCL_lq (s : State) (v : Bool) : (s.holdCL v).lq = s.lq := rfl
@[simp] theorem State.holdCL_pcA (s : State) (v : Bool) : (s.holdCL v).pcA = s.pcA := rfl
@[simp] theorem State.holdCL_pcB (s : State) (v : Bool) : (s.holdCL v).pcB = s.pcB := rfl
@[simp] theorem State.holdCL_rampClock (s : State) (v : Bool) : (s.holdCL v).rampClock = s.rampClock := rfl
@[simp] theorem State.holdCL_pv (s : State) (v : Bool) : (s.holdCL v).pv = s.pv := rfl
@[simp] theorem State.holdCL_au (s : State) (v : Bool) : (s.holdCL v).au = s.au := rfl
@[simp] theorem State.holdCL_cc (s : State) (v : Bool) : (s.holdCL v).cc = s.cc := rfl
@[simp] theorem State.holdCL_icu (s : State) (v : Bool) : (s.holdCL v).icu = s.icu := rfl
@[simp] theorem State.holdCL_ds (s : State) (v : Bool) : (s.holdCL v).ds = s.ds := rfl
@[simp] theorem State.holdCL_lau (s : State) (v : Bool) : (s.holdCL v).lau = s.lau := rfl
@[simp] theorem State.holdCL_al (s : State) (v : Bool) : (s.holdCL v).al = s.al := rfl
@[simp] theorem State.holdCL_ioc (s : State) (v : Bool) : (s.holdCL v).ioc = s.ioc := rfl
@[simp] theorem State.holdCL_cl (s : State) (v : Bool) : (s.holdCL v).cl = s.cl := rfl
@[simp] theorem State.holdCL_released (s : State) (v : Bool) : (s.holdCL v).released = s.released := rfl
@[simp] theorem State.holdCL_resetCause (s : State) (v : Bool) : (s.holdCL v).resetCause = s.resetCause := rfl
@[simp] theorem State.holdCL_freeCount (s : State) (v : Bool) : (s.holdCL v).freeCount = s.freeCount := rfl
@[simp] theorem State.holdCL_pending (s : State) (v : Bool) : (s.holdCL v).pending = s.pending := rfl
@[simp] theorem State.holdCL_pc (s : State) (v : Bool) (q : Pan) : (s.holdCL v).pc q = s.pc q := by
  cases q <;> simp

/-! ### request -/

@[simp] theorem State.request_lq (s : State) (k : AlertKind) : (s.request k).lq = s.lq := rfl
@[simp] theorem State.request_pcA (s : State) (k : AlertKind) : (s.request k).pcA = s.pcA := rfl
@[simp] theorem State.request_pcB (s : State) (k : AlertKind) : (s.request k).pcB = s.pcB := rfl
@[simp] theorem State.request_rampClock (s : State) (k : AlertKind) : (s.request k).rampClock = s.rampClock := rfl
@[simp] theorem State.request_bi (s : State) (k : AlertKind) : (s.request k).bi = s.bi := rfl
@[simp] theorem State.request_pv (s : State) (k : AlertKind) : (s.request k).pv = s.pv := rfl
@[simp] theorem State.request_au (s : State) (k : AlertKind) : (s.request k).au = s.au := rfl
@[simp] theorem State.request_cc (s : State) (k : AlertKind) : (s.request k).cc = s.cc := rfl
@[simp] theorem State.request_icu (s : State) (k : AlertKind) : (s.request k).icu = s.icu := rfl
@[simp] theorem State.request_ds (s : State) (k : AlertKind) : (s.request k).ds = s.ds := rfl
@[simp] theorem State.request_lau (s : State) (k : AlertKind) : (s.request k).lau = s.lau := rfl
@[simp] theorem State.request_ioc (s : State) (k : AlertKind) : (s.request k).ioc = s.ioc := rfl
@[simp] theorem State.request_cl (s : State) (k : AlertKind) : (s.request k).cl = s.cl := rfl
@[simp] theorem State.request_released (s : State) (k : AlertKind) : (s.request k).released = s.released := rfl
@[simp] theorem State.request_resetCause (s : State) (k : AlertKind) : (s.request k).resetCause = s.resetCause :=
  rfl
@[simp] theorem State.request_freeCount (s : State) (k : AlertKind) : (s.request k).freeCount = s.freeCount := rfl
@[simp] theorem State.request_pending (s : State) (k : AlertKind) : (s.request k).pending = s.pending := rfl
@[simp] theorem State.request_pc (s : State) (k : AlertKind) (q : Pan) : (s.request k).pc q = s.pc q := by
  cases q <;> simp

/-! ### setLatch -/

@[simp] theorem State.setLatch_lq (s : State) (c : DropCondition) : (s.setLatch c).lq = s.lq := rfl
@[simp] theorem State.setLatch_pcA (s : State) (c : DropCondition) : (s.setLatch c).pcA = s.pcA := rfl
@[simp] theorem State.setLatch_pcB (s : State) (c : DropCondition) : (s.setLatch c).pcB = s.pcB := rfl
@[simp] theorem State.setLatch_rampClock (s : State) (c : DropCondition) : (s.setLatch c).rampClock = s.rampClock :=
  rfl
@[simp] theorem State.setLatch_pv (s : State) (c : DropCondition) : (s.setLatch c).pv = s.pv := rfl
@[simp] theorem State.setLatch_au (s : State) (c : DropCondition) : (s.setLatch c).au = s.au := rfl
@[simp] theorem State.setLatch_cc (s : State) (c : DropCondition) : (s.setLatch c).cc = s.cc := rfl
@[simp] theorem State.setLatch_icu (s : State) (c : DropCondition) : (s.setLatch c).icu = s.icu := rfl
@[simp] theorem State.setLatch_lau (s : State) (c : DropCondition) : (s.setLatch c).lau = s.lau := rfl
@[simp] theorem State.setLatch_al (s : State) (c : DropCondition) : (s.setLatch c).al = s.al := rfl
@[simp] theorem State.setLatch_ioc (s : State) (c : DropCondition) : (s.setLatch c).ioc = s.ioc := rfl
@[simp] theorem State.setLatch_cl (s : State) (c : DropCondition) : (s.setLatch c).cl = s.cl := rfl
@[simp] theorem State.setLatch_released (s : State) (c : DropCondition) : (s.setLatch c).released = s.released :=
  rfl
@[simp] theorem State.setLatch_resetCause (s : State) (c : DropCondition) : (s.setLatch c).resetCause = s.resetCause :=
  rfl
@[simp] theorem State.setLatch_freeCount (s : State) (c : DropCondition) : (s.setLatch c).freeCount = s.freeCount :=
  rfl
@[simp] theorem State.setLatch_pending (s : State) (c : DropCondition) : (s.setLatch c).pending = s.pending := rfl
@[simp] theorem State.setLatch_pc (s : State) (c : DropCondition) (q : Pan) : (s.setLatch c).pc q = s.pc q := by
  cases q <;> simp

/-! ### keepLatches -/

@[simp] theorem State.keepLatches_lq (s : State) (d : DropSet) : (s.keepLatches d).lq = s.lq := rfl
@[simp] theorem State.keepLatches_pcA (s : State) (d : DropSet) : (s.keepLatches d).pcA = s.pcA := rfl
@[simp] theorem State.keepLatches_pcB (s : State) (d : DropSet) : (s.keepLatches d).pcB = s.pcB := rfl
@[simp] theorem State.keepLatches_rampClock (s : State) (d : DropSet) : (s.keepLatches d).rampClock = s.rampClock :=
  rfl
@[simp] theorem State.keepLatches_pv (s : State) (d : DropSet) : (s.keepLatches d).pv = s.pv := rfl
@[simp] theorem State.keepLatches_au (s : State) (d : DropSet) : (s.keepLatches d).au = s.au := rfl
@[simp] theorem State.keepLatches_cc (s : State) (d : DropSet) : (s.keepLatches d).cc = s.cc := rfl
@[simp] theorem State.keepLatches_icu (s : State) (d : DropSet) : (s.keepLatches d).icu = s.icu := rfl
@[simp] theorem State.keepLatches_lau (s : State) (d : DropSet) : (s.keepLatches d).lau = s.lau := rfl
@[simp] theorem State.keepLatches_al (s : State) (d : DropSet) : (s.keepLatches d).al = s.al := rfl
@[simp] theorem State.keepLatches_ioc (s : State) (d : DropSet) : (s.keepLatches d).ioc = s.ioc := rfl
@[simp] theorem State.keepLatches_cl (s : State) (d : DropSet) : (s.keepLatches d).cl = s.cl := rfl
@[simp] theorem State.keepLatches_released (s : State) (d : DropSet) : (s.keepLatches d).released = s.released :=
  rfl
@[simp] theorem State.keepLatches_resetCause (s : State) (d : DropSet) : (s.keepLatches d).resetCause = s.resetCause :=
  rfl
@[simp] theorem State.keepLatches_freeCount (s : State) (d : DropSet) : (s.keepLatches d).freeCount = s.freeCount :=
  rfl
@[simp] theorem State.keepLatches_pending (s : State) (d : DropSet) : (s.keepLatches d).pending = s.pending := rfl
@[simp] theorem State.keepLatches_pc (s : State) (d : DropSet) (q : Pan) : (s.keepLatches d).pc q = s.pc q := by
  cases q <;> simp

/-! ### setCause -/

@[simp] theorem State.setCause_lq (s : State) (c : DropCondition) (v : Bool) : (s.setCause c v).lq = s.lq := rfl
@[simp] theorem State.setCause_pcA (s : State) (c : DropCondition) (v : Bool) : (s.setCause c v).pcA = s.pcA := rfl
@[simp] theorem State.setCause_pcB (s : State) (c : DropCondition) (v : Bool) : (s.setCause c v).pcB = s.pcB := rfl
@[simp] theorem State.setCause_rampClock (s : State) (c : DropCondition) (v : Bool) : (s.setCause c v).rampClock = s.rampClock :=
  rfl
@[simp] theorem State.setCause_bi (s : State) (c : DropCondition) (v : Bool) : (s.setCause c v).bi = s.bi := rfl
@[simp] theorem State.setCause_pv (s : State) (c : DropCondition) (v : Bool) : (s.setCause c v).pv = s.pv := rfl
@[simp] theorem State.setCause_au (s : State) (c : DropCondition) (v : Bool) : (s.setCause c v).au = s.au := rfl
@[simp] theorem State.setCause_cc (s : State) (c : DropCondition) (v : Bool) : (s.setCause c v).cc = s.cc := rfl
@[simp] theorem State.setCause_icu (s : State) (c : DropCondition) (v : Bool) : (s.setCause c v).icu = s.icu := rfl
@[simp] theorem State.setCause_lau (s : State) (c : DropCondition) (v : Bool) : (s.setCause c v).lau = s.lau := rfl
@[simp] theorem State.setCause_al (s : State) (c : DropCondition) (v : Bool) : (s.setCause c v).al = s.al := rfl
@[simp] theorem State.setCause_ioc (s : State) (c : DropCondition) (v : Bool) : (s.setCause c v).ioc = s.ioc := rfl
@[simp] theorem State.setCause_cl (s : State) (c : DropCondition) (v : Bool) : (s.setCause c v).cl = s.cl := rfl
@[simp] theorem State.setCause_released (s : State) (c : DropCondition) (v : Bool) : (s.setCause c v).released = s.released :=
  rfl
@[simp] theorem State.setCause_resetCause (s : State) (c : DropCondition) (v : Bool) : (s.setCause c v).resetCause = s.resetCause :=
  rfl
@[simp] theorem State.setCause_freeCount (s : State) (c : DropCondition) (v : Bool) : (s.setCause c v).freeCount = s.freeCount :=
  rfl
@[simp] theorem State.setCause_pending (s : State) (c : DropCondition) (v : Bool) : (s.setCause c v).pending = s.pending :=
  rfl
@[simp] theorem State.setCause_pc (s : State) (c : DropCondition) (v : Bool) (q : Pan) : (s.setCause c v).pc q = s.pc q := by
  cases q <;> simp

/-! ### placeClaim -/

@[simp] theorem State.placeClaim_lq (s : State) (f : ClaimFrame) : (s.placeClaim f).lq = s.lq := rfl
@[simp] theorem State.placeClaim_pcA (s : State) (f : ClaimFrame) : (s.placeClaim f).pcA = s.pcA := rfl
@[simp] theorem State.placeClaim_pcB (s : State) (f : ClaimFrame) : (s.placeClaim f).pcB = s.pcB := rfl
@[simp] theorem State.placeClaim_rampClock (s : State) (f : ClaimFrame) : (s.placeClaim f).rampClock = s.rampClock :=
  rfl
@[simp] theorem State.placeClaim_bi (s : State) (f : ClaimFrame) : (s.placeClaim f).bi = s.bi := rfl
@[simp] theorem State.placeClaim_pv (s : State) (f : ClaimFrame) : (s.placeClaim f).pv = s.pv := rfl
@[simp] theorem State.placeClaim_au (s : State) (f : ClaimFrame) : (s.placeClaim f).au = s.au := rfl
@[simp] theorem State.placeClaim_cc (s : State) (f : ClaimFrame) : (s.placeClaim f).cc = s.cc := rfl
@[simp] theorem State.placeClaim_icu (s : State) (f : ClaimFrame) : (s.placeClaim f).icu = s.icu := rfl
@[simp] theorem State.placeClaim_ds (s : State) (f : ClaimFrame) : (s.placeClaim f).ds = s.ds := rfl
@[simp] theorem State.placeClaim_al (s : State) (f : ClaimFrame) : (s.placeClaim f).al = s.al := rfl
@[simp] theorem State.placeClaim_ioc (s : State) (f : ClaimFrame) : (s.placeClaim f).ioc = s.ioc := rfl
@[simp] theorem State.placeClaim_cl (s : State) (f : ClaimFrame) : (s.placeClaim f).cl = s.cl := rfl
@[simp] theorem State.placeClaim_released (s : State) (f : ClaimFrame) : (s.placeClaim f).released = s.released :=
  rfl
@[simp] theorem State.placeClaim_resetCause (s : State) (f : ClaimFrame) : (s.placeClaim f).resetCause = s.resetCause :=
  rfl
@[simp] theorem State.placeClaim_freeCount (s : State) (f : ClaimFrame) : (s.placeClaim f).freeCount = s.freeCount :=
  rfl
@[simp] theorem State.placeClaim_pending (s : State) (f : ClaimFrame) : (s.placeClaim f).pending = s.pending := rfl
@[simp] theorem State.placeClaim_pc (s : State) (f : ClaimFrame) (q : Pan) : (s.placeClaim f).pc q = s.pc q := by
  cases q <;> simp

/-! ### placeWithdraw -/

@[simp] theorem State.placeWithdraw_lq (s : State) (n : Nat) : (s.placeWithdraw n).lq = s.lq := by
  unfold State.placeWithdraw; split <;> rfl
@[simp] theorem State.placeWithdraw_pcA (s : State) (n : Nat) : (s.placeWithdraw n).pcA = s.pcA := by
  unfold State.placeWithdraw; split <;> rfl
@[simp] theorem State.placeWithdraw_pcB (s : State) (n : Nat) : (s.placeWithdraw n).pcB = s.pcB := by
  unfold State.placeWithdraw; split <;> rfl
@[simp] theorem State.placeWithdraw_rampClock (s : State) (n : Nat) : (s.placeWithdraw n).rampClock = s.rampClock := by
  unfold State.placeWithdraw; split <;> rfl
@[simp] theorem State.placeWithdraw_bi (s : State) (n : Nat) : (s.placeWithdraw n).bi = s.bi := by
  unfold State.placeWithdraw; split <;> rfl
@[simp] theorem State.placeWithdraw_pv (s : State) (n : Nat) : (s.placeWithdraw n).pv = s.pv := by
  unfold State.placeWithdraw; split <;> rfl
@[simp] theorem State.placeWithdraw_au (s : State) (n : Nat) : (s.placeWithdraw n).au = s.au := by
  unfold State.placeWithdraw; split <;> rfl
@[simp] theorem State.placeWithdraw_cc (s : State) (n : Nat) : (s.placeWithdraw n).cc = s.cc := by
  unfold State.placeWithdraw; split <;> rfl
@[simp] theorem State.placeWithdraw_icu (s : State) (n : Nat) : (s.placeWithdraw n).icu = s.icu := by
  unfold State.placeWithdraw; split <;> rfl
@[simp] theorem State.placeWithdraw_ds (s : State) (n : Nat) : (s.placeWithdraw n).ds = s.ds := by
  unfold State.placeWithdraw; split <;> rfl
@[simp] theorem State.placeWithdraw_al (s : State) (n : Nat) : (s.placeWithdraw n).al = s.al := by
  unfold State.placeWithdraw; split <;> rfl
@[simp] theorem State.placeWithdraw_ioc (s : State) (n : Nat) : (s.placeWithdraw n).ioc = s.ioc := by
  unfold State.placeWithdraw; split <;> rfl
@[simp] theorem State.placeWithdraw_cl (s : State) (n : Nat) : (s.placeWithdraw n).cl = s.cl := by
  unfold State.placeWithdraw; split <;> rfl
@[simp] theorem State.placeWithdraw_released (s : State) (n : Nat) : (s.placeWithdraw n).released = s.released := by
  unfold State.placeWithdraw; split <;> rfl
@[simp] theorem State.placeWithdraw_resetCause (s : State) (n : Nat) : (s.placeWithdraw n).resetCause = s.resetCause := by
  unfold State.placeWithdraw; split <;> rfl
@[simp] theorem State.placeWithdraw_freeCount (s : State) (n : Nat) : (s.placeWithdraw n).freeCount = s.freeCount := by
  unfold State.placeWithdraw; split <;> rfl
@[simp] theorem State.placeWithdraw_pending (s : State) (n : Nat) : (s.placeWithdraw n).pending = s.pending := by
  unfold State.placeWithdraw; split <;> rfl
@[simp] theorem State.placeWithdraw_pc (s : State) (n : Nat) (q : Pan) : (s.placeWithdraw n).pc q = s.pc q := by
  cases q <;> simp

/-! ### The hold-open set -/

@[simp] theorem State.holdCC_hold_pcA (s : State) (v : Bool) : (s.holdCC v).bi.hold.pcA = s.bi.hold.pcA := rfl
@[simp] theorem State.holdCC_hold_pcB (s : State) (v : Bool) : (s.holdCC v).bi.hold.pcB = s.bi.hold.pcB := rfl
@[simp] theorem State.holdCC_hold_cc (s : State) (v : Bool) : (s.holdCC v).bi.hold.cc = v := rfl
@[simp] theorem State.holdCC_hold_ds (s : State) (v : Bool) : (s.holdCC v).bi.hold.ds = s.bi.hold.ds := rfl
@[simp] theorem State.holdCC_hold_cl (s : State) (v : Bool) : (s.holdCC v).bi.hold.cl = s.bi.hold.cl := rfl
@[simp] theorem State.holdCC_permit (s : State) (v : Bool) : (s.holdCC v).bi.permit = s.bi.permit := rfl
@[simp] theorem State.holdCC_closed (s : State) (v : Bool) : (s.holdCC v).bi.closed = s.bi.closed := rfl
@[simp] theorem State.holdCC_openConfirm (s : State) (v : Bool) : (s.holdCC v).bi.openConfirm = s.bi.openConfirm :=
  rfl
@[simp] theorem State.holdCC_stuck (s : State) (v : Bool) : (s.holdCC v).bi.stuck = s.bi.stuck := rfl
@[simp] theorem State.holdDS_hold_pcA (s : State) (v : Bool) : (s.holdDS v).bi.hold.pcA = s.bi.hold.pcA := rfl
@[simp] theorem State.holdDS_hold_pcB (s : State) (v : Bool) : (s.holdDS v).bi.hold.pcB = s.bi.hold.pcB := rfl
@[simp] theorem State.holdDS_hold_cc (s : State) (v : Bool) : (s.holdDS v).bi.hold.cc = s.bi.hold.cc := rfl
@[simp] theorem State.holdDS_hold_ds (s : State) (v : Bool) : (s.holdDS v).bi.hold.ds = v := rfl
@[simp] theorem State.holdDS_hold_cl (s : State) (v : Bool) : (s.holdDS v).bi.hold.cl = s.bi.hold.cl := rfl
@[simp] theorem State.holdDS_permit (s : State) (v : Bool) : (s.holdDS v).bi.permit = s.bi.permit := rfl
@[simp] theorem State.holdDS_closed (s : State) (v : Bool) : (s.holdDS v).bi.closed = s.bi.closed := rfl
@[simp] theorem State.holdDS_openConfirm (s : State) (v : Bool) : (s.holdDS v).bi.openConfirm = s.bi.openConfirm :=
  rfl
@[simp] theorem State.holdDS_stuck (s : State) (v : Bool) : (s.holdDS v).bi.stuck = s.bi.stuck := rfl
@[simp] theorem State.holdCL_hold_pcA (s : State) (v : Bool) : (s.holdCL v).bi.hold.pcA = s.bi.hold.pcA := rfl
@[simp] theorem State.holdCL_hold_pcB (s : State) (v : Bool) : (s.holdCL v).bi.hold.pcB = s.bi.hold.pcB := rfl
@[simp] theorem State.holdCL_hold_cc (s : State) (v : Bool) : (s.holdCL v).bi.hold.cc = s.bi.hold.cc := rfl
@[simp] theorem State.holdCL_hold_ds (s : State) (v : Bool) : (s.holdCL v).bi.hold.ds = s.bi.hold.ds := rfl
@[simp] theorem State.holdCL_hold_cl (s : State) (v : Bool) : (s.holdCL v).bi.hold.cl = v := rfl
@[simp] theorem State.holdCL_permit (s : State) (v : Bool) : (s.holdCL v).bi.permit = s.bi.permit := rfl
@[simp] theorem State.holdCL_closed (s : State) (v : Bool) : (s.holdCL v).bi.closed = s.bi.closed := rfl
@[simp] theorem State.holdCL_openConfirm (s : State) (v : Bool) : (s.holdCL v).bi.openConfirm = s.bi.openConfirm :=
  rfl
@[simp] theorem State.holdCL_stuck (s : State) (v : Bool) : (s.holdCL v).bi.stuck = s.bi.stuck := rfl
@[simp] theorem State.holdPan_hold_cc (s : State) (p : Pan) (v : Bool) : (s.holdPan p v).bi.hold.cc = s.bi.hold.cc := by
  cases p <;> rfl
@[simp] theorem State.holdPan_hold_ds (s : State) (p : Pan) (v : Bool) : (s.holdPan p v).bi.hold.ds = s.bi.hold.ds := by
  cases p <;> rfl
@[simp] theorem State.holdPan_hold_cl (s : State) (p : Pan) (v : Bool) : (s.holdPan p v).bi.hold.cl = s.bi.hold.cl := by
  cases p <;> rfl
@[simp] theorem State.holdPan_permit (s : State) (p : Pan) (v : Bool) : (s.holdPan p v).bi.permit = s.bi.permit := by
  cases p <;> rfl
@[simp] theorem State.holdPan_closed (s : State) (p : Pan) (v : Bool) : (s.holdPan p v).bi.closed = s.bi.closed := by
  cases p <;> rfl
@[simp] theorem State.holdPan_openConfirm (s : State) (p : Pan) (v : Bool) : (s.holdPan p v).bi.openConfirm = s.bi.openConfirm := by
  cases p <;> rfl
@[simp] theorem State.holdPan_stuck (s : State) (p : Pan) (v : Bool) : (s.holdPan p v).bi.stuck = s.bi.stuck := by
  cases p <;> rfl

/-! ### Requests and latches -/

@[simp] theorem State.request_top (s : State) (k : AlertKind) : (s.request k).al.top = s.al.top := rfl
@[simp] theorem State.request_flt (s : State) (k : AlertKind) : (s.request k).al.flt = s.al.flt := rfl

/-- A request sets the flag of its kind and keeps every other flag (R182). -/
theorem State.request_requested (s : State) (k j : AlertKind) :
    (s.request k).al.requested j = (s.al.requested j || decide (j = k)) := by
  cases k <;> cases j <;> simp [State.request, AL.requested, AlertKind.number]

@[simp] theorem State.request_self (s : State) (k : AlertKind) : (s.request k).al.requested k = true := by
  simp [State.request_requested]

theorem State.request_mono (s : State) (k j : AlertKind) (h : s.al.requested j = true) :
    (s.request k).al.requested j = true := by simp [State.request_requested, h]

@[simp] theorem State.setLatch_hold_ds (s : State) (c : DropCondition) : (s.setLatch c).bi.hold.ds = true := rfl
@[simp] theorem State.setLatch_hold_cl (s : State) (c : DropCondition) : (s.setLatch c).bi.hold.cl = s.bi.hold.cl :=
  rfl
@[simp] theorem State.setLatch_closed (s : State) (c : DropCondition) : (s.setLatch c).bi.closed = s.bi.closed :=
  rfl
@[simp] theorem State.setLatch_stuck (s : State) (c : DropCondition) : (s.setLatch c).bi.stuck = s.bi.stuck := rfl
@[simp] theorem State.setLatch_latch (s : State) (c : DropCondition) : (s.setLatch c).ds.latch = s.ds.latch.set c true :=
  rfl
@[simp] theorem State.setLatch_cause (s : State) (c : DropCondition) : (s.setLatch c).ds.cause = s.ds.cause := rfl
@[simp] theorem State.setLatch_restoreT (s : State) (c : DropCondition) : (s.setLatch c).ds.restoreT = none := rfl
@[simp] theorem State.keepLatches_latch (s : State) (d : DropSet) : (s.keepLatches d).ds.latch = d := rfl
@[simp] theorem State.keepLatches_cause (s : State) (d : DropSet) : (s.keepLatches d).ds.cause = s.ds.cause := rfl
@[simp] theorem State.keepLatches_hold_ds (s : State) (d : DropSet) : (s.keepLatches d).bi.hold.ds = !d.isEmpty :=
  rfl
@[simp] theorem State.setCause_latch (s : State) (c : DropCondition) (v : Bool) : (s.setCause c v).ds.latch = s.ds.latch :=
  rfl
@[simp] theorem State.setCause_cause (s : State) (c : DropCondition) (v : Bool) :
    (s.setCause c v).ds.cause = s.ds.cause.set c v := rfl

/-- One condition set, the others as they were. -/
theorem DropSet.get_set (d : DropSet) (c e : DropCondition) (v : Bool) :
    (d.set c v).get e = if e = c then v else d.get e := by cases c <;> cases e <;> rfl

/-- The set is empty exactly when it has no condition. -/
theorem DropSet.isEmpty_iff (d : DropSet) : d.isEmpty = true ↔ d = .empty := by
  cases d
  simp [DropSet.isEmpty, DropSet.empty, and_assoc]

end Sys2Proof.Machine
end

