-- ==== Sys2Proof/Laws/Reacts.lean ====
section
/-! SUPPORT. The reactions of an event and its end lead from a state to another by `State.Reacts`: one lemma for each
operation that they are made of, and for a whole event at the end. -/

namespace Sys2Proof.Machine

/-! ### The relation -/

theorem PC.Drift.refl (c : PC) : c.Drift c where
  down h := h
  fault h := ⟨h, rfl⟩
  lowering h := .inl h
  rising h := h
  up h := .inr h
  valve h := h
  disc h := h
  force := .inl ⟨rfl, rfl⟩
  cause := .inl rfl

theorem PC.Drift.trans {c d e : PC} (h : c.Drift d) (k : d.Drift e) : c.Drift e where
  down x := k.down (h.down x)
  fault x := ⟨(k.fault (h.fault x).1).1, (k.fault (h.fault x).1).2.trans (h.fault x).2⟩
  lowering x := by
    rcases h.lowering x with y | y | y
    · exact k.lowering y
    · exact .inr (.inl (k.down y))
    · exact .inr (.inr (k.fault y).1)
  rising x := h.rising (k.rising x)
  up x := by
    rcases k.up x with y | y
    · exact .inl (h.rising y)
    · exact h.up y
  valve x := h.valve (k.valve x)
  disc x := h.disc (k.disc x)
  force := by
    rcases k.force with y | y
    · rw [y.1, y.2]; exact h.force
    · exact .inr y
  cause := by
    rcases k.cause with y | y
    · rw [y]
      rcases h.cause with z | z
      · exact .inl z
      · exact .inr (k.fault z).1
    · exact .inr y

theorem LQ.abandon_abandon (q : LQ) : q.abandon.abandon = q.abandon := rfl

theorem State.Reacts.refl (s : State) : s.Reacts s where
  kept := rfl
  pcA := .refl _
  pcB := .refl _
  lq := .inl rfl
  flags _ h := h

theorem State.Reacts.trans {s t u : State} (h : s.Reacts t) (k : t.Reacts u) : s.Reacts u where
  kept := k.kept.trans h.kept
  pcA := h.pcA.trans k.pcA
  pcB := h.pcB.trans k.pcB
  lq := by
    rcases h.lq with x | x <;> rcases k.lq with y | y <;> simp [x, y, LQ.abandon_abandon]
  flags j x := k.flags j (h.flags j x)

/-- A change beside the kept part, the pantographs, the window and the flags. -/
theorem State.Reacts.beside {s t : State} (k : t.kept = s.kept) (a : t.pcA = s.pcA) (b : t.pcB = s.pcB) (l : t.lq = s.lq)
    (f : t.al.flags = s.al.flags) : s.Reacts t where
  kept := k
  pcA := a ▸ .refl _
  pcB := b ▸ .refl _
  lq := .inl l
  flags j h := by simpa [AL.requested, f] using h

theorem State.Reacts.pc {s t : State} (h : s.Reacts t) (p : Pan) : (s.pc p).Drift (t.pc p) := by
  cases p
  · exact h.pcA
  · exact h.pcB

/-! ### The shared operations -/

theorem State.Reacts.setPc (s : State) (p : Pan) {c : PC} (h : (s.pc p).Drift c) : s.Reacts (s.setPc p c) := by
  cases p
  · exact ⟨rfl, h, .refl _, .inl rfl, fun _ x => x⟩
  · exact ⟨rfl, .refl _, h, .inl rfl, fun _ x => x⟩

theorem State.Reacts.holdPan (s : State) (p : Pan) (v : Bool) : s.Reacts (s.holdPan p v) := by
  cases p <;> exact .beside rfl rfl rfl rfl rfl

theorem State.Reacts.holdCC (s : State) (v : Bool) : s.Reacts (s.holdCC v) := .beside rfl rfl rfl rfl rfl

theorem State.Reacts.request (s : State) (k : AlertKind) : s.Reacts (s.request k) :=
  ⟨rfl, .refl _, .refl _, .inl rfl, fun j h => s.request_mono k j h⟩

theorem State.Reacts.setLatch (s : State) (c : DropCondition) : s.Reacts (s.setLatch c) := .beside rfl rfl rfl rfl rfl

theorem State.Reacts.ifGood (s : State) (f : Image → State → State) (h : ∀ im (t : State), t.Reacts (f im t)) :
    s.Reacts (s.ifGood f) := by
  unfold State.ifGood
  split
  · exact h _ _
  · exact .refl _

/-! ### The Pantograph Controllers -/

theorem PC.Drift.vent {c : PC} (h : c.risingOrUp = true) : c.Drift c.vent := by
  have : c.state = .rising ∨ c.state = .up := by simpa [PC.risingOrUp] using h
  constructor <;> simp [PC.vent] <;> rcases this with h | h <;> simp [h]

theorem PC.Drift.advance (c : PC) (b : Bool) : c.Drift (c.advance b) := by
  unfold PC.advance
  split
  · exact .refl _
  · rename_i h
    have h : c.risingOrUp = true := by simp_all
    split
    · split
      · exact .vent h
      · exact ⟨id, fun x => ⟨x, rfl⟩, .inl, id, .inr, id, id, .inl ⟨rfl, rfl⟩, .inl rfl⟩
    · split
      · exact .vent h
      · exact .refl _
    · exact .refl _

/-- A pantograph whose state stands and whose outputs only go off. -/
theorem PC.Drift.same {c d : PC} (s : d.state = c.state) (v : d.valve = true → c.valve = true)
    (x : d.disc = true → c.disc = true)
    (f : (d.fset = c.fset ∧ d.duty = c.duty) ∨ (d.fset = 0 ∧ d.duty = 0)) (k : d.fault = c.fault) : c.Drift d where
  down h := s.trans h
  fault h := ⟨s.trans h, k⟩
  lowering h := .inl (s.trans h)
  rising h := s.symm.trans h
  up h := .inr (s.symm.trans h)
  valve := v
  disc := x
  force := f
  cause := .inl k

theorem PC.Drift.zeroForce (c : PC) : c.Drift c.zeroForce := .same rfl id id (.inr ⟨rfl, rfl⟩) rfl

theorem State.Reacts.vent (s : State) (p : Pan) (h : (s.pc p).risingOrUp = true) : s.Reacts (s.setPc p (s.pc p).vent) :=
  .setPc s p (.vent h)

theorem State.Reacts.softLower (s : State) (p : Pan) : s.Reacts (s.softLower p) := by
  unfold State.softLower
  dsimp only
  split
  · rename_i h
    simp only [Bool.and_eq_true] at h
    split
    · refine .trans (.setPc s p ?_) (.holdPan _ p true)
      refine .trans ?_ (.advance _ _)
      exact .same rfl id id (.inl ⟨rfl, rfl⟩) rfl
    · exact .vent s p h.1.2
  · exact .refl s

theorem State.Reacts.fastDrop (s : State) (p : Pan) : s.Reacts (s.fastDrop p) := by
  unfold State.fastDrop
  dsimp only
  split
  · exact .refl s
  · split
    · rename_i h
      have k : s.Reacts (s.setPc p (s.pc p).vent.zeroForce) := .setPc s p (.trans (.vent h) (.zeroForce _))
      split
      · exact k.trans (.holdPan _ p true)
      · exact k
    · split
      · exact .setPc s p (.zeroForce _)
      · exact .refl s

theorem State.Reacts.faultDrop (s : State) (p : Pan) (cause : FaultCause) : s.Reacts (s.faultDrop p cause) := by
  unfold State.faultDrop
  dsimp only
  refine .trans (.trans (.fastDrop s p) ?_) (.request _ _)
  exact .setPc _ p (.same rfl id id (.inl ⟨rfl, rfl⟩) rfl)

theorem State.Reacts.downInFault (s : State) (p : Pan) : s.Reacts (s.downInFault p) := by
  unfold State.downInFault
  refine .trans ?_ (.holdPan _ p false)
  exact .setPc s p (.same rfl id (by simp) (.inl ⟨rfl, rfl⟩) rfl)

/-- FAULT is entered from any state but DOWN, and FAULT itself. -/
theorem State.Reacts.enterFault (s : State) (p : Pan) (cause : FaultCause)
    (h : (s.pc p).state ≠ .down ∧ (s.pc p).state ≠ .fault) : s.Reacts (s.enterFault p cause) := by
  unfold State.enterFault
  dsimp only
  have k : ∀ f : PC, f.state = .fault → f.valve = false → f.disc = (s.pc p).disc → f.fset = 0 → f.duty = 0 →
      s.Reacts ((s.setPc p f).request (panFaultKind p)) := by
    intro f a b c d e
    refine .trans (.setPc s p ?_) (.request _ _)
    constructor <;> simp_all
  generalize hf : (⟨.fault, _, _, _, _, _, _, _, _, _, _, _⟩ : PC) = f
  have k := k f (by simp [← hf]) (by simp [← hf]) (by simp [← hf]) (by simp [← hf]) (by simp [← hf])
  split <;> split
  · exact (k.trans (.holdPan _ p true)).trans (.downInFault _ p)
  · exact k.trans (.holdPan _ p true)
  · exact k.trans (.downInFault _ p)
  · exact k

theorem State.Reacts.downInLowering (s : State) (p : Pan) (h : (s.pc p).state = .lowering) :
    s.Reacts (s.downInLowering p) := by
  unfold State.downInLowering
  split
  · exact .enterFault s p _ (by simp [h])
  · refine .trans (.setPc s p ?_) (.holdPan _ p false)
    constructor <;> simp_all [PC.zeroForce]

theorem State.Reacts.airLoss (s : State) (p : Pan) : s.Reacts (s.airLoss p) := by
  unfold State.airLoss State.latchAirLoss
  split
  · exact .faultDrop s p _
  · exact .trans (.faultDrop s p _) (.setLatch _ _)

theorem State.Reacts.sense (s : State) (p : Pan) : s.Reacts (s.sense p) := by
  unfold State.sense
  dsimp only
  split
  · exact .refl s
  · split <;> rename_i h
    · split
      · exact .airLoss s p
      · split
        · refine .setPc s p ?_
          constructor <;> simp_all
        · exact .refl s
    · split
      · exact .airLoss s p
      · split
        · exact .enterFault s p _ (by simp [h])
        · exact .refl s
    · split
      · exact .downInLowering s p h
      · exact .refl s
    · split
      · exact .downInFault s p
      · exact .refl s
    · exact .refl s

theorem State.Reacts.advancePan (s : State) (p : Pan) : s.Reacts (s.advancePan p) := .setPc s p (.advance _ _)

theorem State.Reacts.watchIsolated (s : State) (p : Pan) : s.Reacts (s.watchIsolated p) := by
  unfold State.watchIsolated
  dsimp only
  split
  · rename_i h
    simp only [Bool.and_eq_true] at h
    exact .vent s p h.1.1.2
  · exact .refl s

theorem State.Reacts.pantographs (s : State) : s.Reacts s.pantographs :=
  (((((State.Reacts.sense s .a).trans (.sense _ .b)).trans (.advancePan _ .a)).trans (.advancePan _ .b)).trans
    (.watchIsolated _ .a)).trans (.watchIsolated _ .b)

/-! ### The wiring -/

@[simp] theorem ICU.advance_mode (u : ICU) (n : Nat) : (u.advance n).mode = u.mode := by
  unfold ICU.advance ICU.stepStreak; split <;> rfl
@[simp] theorem ICU.advance_arcCount (u : ICU) (n : Nat) : (u.advance n).arcCount = u.arcCount := by
  unfold ICU.advance ICU.stepStreak; split <;> rfl
@[simp] theorem ICU.advance_arcFields (u : ICU) (n : Nat) : (u.advance n).arcFields = u.arcFields := by
  unfold ICU.advance ICU.stepStreak; split <;> rfl

theorem State.Reacts.abandonWindow (s : State) : s.Reacts s.abandonWindow := by
  unfold State.abandonWindow
  dsimp only
  have k : s.Reacts { s with lq := s.lq.abandon } := ⟨rfl, .refl _, .refl _, .inr rfl, fun _ h => h⟩
  split
  · split
    · exact k.trans (.beside (by simp [State.kept]) rfl rfl rfl rfl)
    · exact k
  · exact k

theorem State.Reacts.takeArcPan (ref s : State) : s.Reacts (ref.takeArcPan s) := by
  unfold State.takeArcPan
  split
  · exact .beside rfl rfl rfl rfl rfl
  · split
    · exact .beside rfl rfl rfl rfl rfl
    · exact .refl s

theorem State.Reacts.wiring (ref s : State) : s.Reacts (ref.wiring s) := by
  unfold State.wiring
  split
  · exact (State.Reacts.abandonWindow s).trans (.takeArcPan ref _)
  · exact .takeArcPan ref s

/-! ### The Changeover Controller -/

/-- A change inside the Changeover Controller. -/
theorem State.Reacts.cc (s : State) (c : CC) : s.Reacts { s with cc := c } := .beside rfl rfl rfl rfl rfl

/-- A change inside the Drop Supervisor. -/
theorem State.Reacts.ds (s : State) (d : DS) : s.Reacts { s with ds := d } := .beside rfl rfl rfl rfl rfl

theorem State.Reacts.abort (s : State) : s.Reacts s.abort :=
  ((State.Reacts.cc s _).trans (.request _ _)).trans (.holdCC _ _)

theorem State.Reacts.enterOpening (s : State) : s.Reacts s.enterOpening := (State.Reacts.cc s _).trans (.holdCC _ _)

theorem State.Reacts.enterStowing (s : State) : s.Reacts s.enterStowing := by
  unfold State.enterStowing
  dsimp only
  have k := State.Reacts.cc s { s.cc with phase := .stowing }
  split <;> split
  · exact (k.trans (.softLower _ _)).trans (.softLower _ _)
  · exact k.trans (.softLower _ _)
  · exact k.trans (.softLower _ _)
  · exact k

theorem State.Reacts.markForcedDrop (s : State) : s.Reacts s.markForcedDrop := (State.Reacts.cc s _).trans (.request _ _)

theorem State.Reacts.forcedDropAll (s : State) : s.Reacts s.forcedDropAll :=
  (((State.Reacts.fastDrop s .a).trans (.fastDrop _ .b)).trans (.markForcedDrop _)).trans (.cc _ _)

theorem State.Reacts.forcedDropStowing (s : State) : s.Reacts s.forcedDropStowing := by
  unfold State.forcedDropStowing
  dsimp only
  split
  · split <;> split
    · exact ((State.Reacts.fastDrop s .a).trans (.fastDrop _ .b)).trans (.markForcedDrop _)
    · exact (State.Reacts.fastDrop s .b).trans (.markForcedDrop _)
    · exact (State.Reacts.fastDrop s .a).trans (.markForcedDrop _)
    · exact .markForcedDrop s
  · exact .refl s

theorem State.Reacts.loadLeg2 (s : State) : s.Reacts s.loadLeg2 := .cc s _
theorem State.Reacts.loadLeg3 (s : State) : s.Reacts s.loadLeg3 := .cc s _
theorem State.Reacts.endLeg1 (s : State) : s.Reacts s.endLeg1 := (State.Reacts.enterOpening s).trans (.loadLeg2 _)
theorem State.Reacts.endLeg3 (s : State) : s.Reacts s.endLeg3 := .cc s _

theorem State.Reacts.endLeg2 (s : State) : s.Reacts s.endLeg2 := by
  refine .trans ?_ (.loadLeg3 _)
  unfold State.leg2Effect
  split
  · split
    · exact .forcedDropAll s
    · exact (State.Reacts.enterStowing s).trans (.forcedDropStowing _)
  · exact .forcedDropStowing s
  · exact .refl s

theorem State.Reacts.loadLeg1 (s : State) (n : Int) : s.Reacts (s.loadLeg1 n) := by
  unfold State.loadLeg1
  split
  · exact .endLeg1 s
  · exact .cc s _

theorem State.Reacts.setUp (s : State) (im : Image) (sec : CurrentSection) : s.Reacts (s.setUp im sec) := by
  unfold State.setUp
  dsimp only
  refine .trans (.cc s { s.cc with current := some sec, countdown := .stopped, nextPan := none }) ?_
  split
  · exact .abort _
  · refine .trans ?_ (.loadLeg1 _ _)
    exact .cc _ _

theorem State.Reacts.takeUpPending (s : State) (im : Image) : s.Reacts (s.takeUpPending im) := by
  unfold State.takeUpPending
  split
  · exact .refl s
  · exact (State.Reacts.cc s _).trans (.setUp _ im _)

theorem State.Reacts.returnToNormal (s : State) (im : Image) : s.Reacts (s.returnToNormal im) :=
  ((State.Reacts.cc s _).trans (.holdCC _ _)).trans (.takeUpPending _ im)

theorem State.Reacts.enterClosing (s : State) : s.Reacts s.enterClosing := (State.Reacts.cc s _).trans (.holdCC _ _)

theorem State.Reacts.failRequalify (s : State) : s.Reacts s.failRequalify := by
  unfold State.failRequalify
  split
  · exact (State.Reacts.softLower s _).trans (.abort _)
  · exact .abort s

theorem State.Reacts.judgeWindow (s : State) (im : Image) : s.Reacts (s.judgeWindow im) := by
  unfold State.judgeWindow
  dsimp only
  split
  · refine .trans (.cc s { s.cc with rqCount := satInc 255 s.cc.rqCount }) ?_
    split
    · split
      · exact .enterClosing _
      · exact .failRequalify _
    · exact .refl _
  · exact .refl s

theorem State.Reacts.reactFault (s : State) (im : Image) : s.Reacts (s.reactFault im) := by
  unfold State.reactFault
  split
  · split
    · split
      · exact .abort s
      · dsimp only
        split
        · exact (State.Reacts.cc s _).trans (.cc _ _)
        · exact ((State.Reacts.cc s _).trans (.cc _ _)).trans (.holdCC _ _)
        · exact .cc s _
    · exact .refl s
  · exact .refl s

theorem State.Reacts.reactOpening (s : State) : s.Reacts s.reactOpening := by
  unfold State.reactOpening
  split
  · exact .enterStowing s
  · exact .refl s

theorem State.Reacts.reactStowing (s : State) : s.Reacts s.reactStowing := by
  unfold State.reactStowing
  dsimp only
  split
  · exact .cc s _
  · exact .refl s

theorem State.Reacts.reactCoasting (s : State) : s.Reacts s.reactCoasting := by
  unfold State.reactCoasting
  split
  · exact .cc s _
  · exact .refl s

theorem State.Reacts.reactClosing (s : State) (im : Image) : s.Reacts (s.reactClosing im) := by
  unfold State.reactClosing
  split
  · split
    · exact (State.Reacts.cc s _).trans (.holdCC _ _)
    · split
      · exact .returnToNormal s im
      · exact .refl s
  · exact .refl s

theorem State.Reacts.reactRequalify (s : State) : s.Reacts s.reactRequalify := by
  unfold State.reactRequalify
  split
  · split
    · split
      · exact .cc s _
      · exact .cc s _
    · exact .cc s _
  · exact .refl s

theorem State.Reacts.ccReact (s : State) (im : Image) : s.Reacts (s.ccReact im) :=
  (((((State.Reacts.reactFault s im).trans (.reactOpening _)).trans (.reactStowing _)).trans (.reactCoasting _)).trans
    (.reactClosing _ im)).trans (.reactRequalify _)

/-! ### Wants and the own claim -/

/-- A change inside the Admission Unit that leaves the retry hold. -/
theorem State.Reacts.au (s : State) (a : AU) (h : a.retryT = s.au.retryT) : s.Reacts { s with au := a } :=
  .beside (by simp [State.kept, h]) rfl rfl rfl rfl

theorem State.Reacts.placeWithdraw (s : State) (n : Nat) : s.Reacts (s.placeWithdraw n) := by
  unfold State.placeWithdraw
  split <;> exact .beside rfl rfl rfl rfl rfl

theorem State.Reacts.withdraw (s : State) : s.Reacts s.withdraw := by
  unfold State.withdraw
  refine .trans ?_ (.placeWithdraw _ _)
  exact .au s _ rfl

theorem State.Reacts.dropWant (s : State) (k : ClaimKind) : s.Reacts (s.dropWant k) := by
  unfold State.dropWant
  dsimp only
  cases k <;> dsimp only <;> split
  all_goals first
    | exact .trans (.au s { s.au with raise := none } rfl) (.withdraw _)
    | exact .trans (.au s { s.au with scrape := none } rfl) (.withdraw _)
    | exact .trans (.au s { s.au with heat := none } rfl) (.withdraw _)
    | exact .au s _ rfl

/-! ### The Ice-Clearing Unit -/

theorem State.Reacts.endScrape (s : State) (im : Image) (p : Pan) : s.Reacts (s.endScrape im p) :=
  (State.Reacts.softLower s p).trans (.beside rfl rfl rfl rfl rfl)

/-- A change inside the Ice-Clearing Unit that leaves the mode and the arc record. -/
theorem State.Reacts.icu (s : State) (u : ICU) (a : u.mode = s.icu.mode) (b : u.arcCount = s.icu.arcCount)
    (c : u.arcFields = s.icu.arcFields) : s.Reacts { s with icu := u } :=
  .beside (by simp [State.kept, a, b, c]) rfl rfl rfl rfl

theorem State.Reacts.judgeSevere (s : State) (im : Image) : s.Reacts (s.judgeSevere im) := by
  unfold State.judgeSevere
  dsimp only
  split
  · refine .trans ?_ (.request _ _)
    exact .icu s _ rfl rfl rfl
  · exact .icu s _ rfl rfl rfl

theorem State.Reacts.heatersOff (s : State) : s.Reacts s.heatersOff := .icu s _ rfl rfl rfl

theorem State.Reacts.endPass (s : State) (im : Image) : s.Reacts (s.endPass im) := by
  unfold State.endPass
  split
  · exact .endScrape s im _
  · exact .refl s

theorem State.Reacts.leaveClearing (s : State) (im : Image) : s.Reacts (s.leaveClearing im) :=
  (((State.Reacts.dropWant s .scrape).trans (.dropWant _ .heat)).trans (.heatersOff _)).trans (.endPass _ im)

theorem State.Reacts.markPending (s : State) : s.Reacts s.markPending := .beside rfl rfl rfl rfl rfl

theorem State.Reacts.formIce (s : State) (im : Image) : s.Reacts (s.formIce im) := by
  unfold State.formIce
  dsimp only
  split
  · split
    · refine .trans (.leaveClearing s im) ?_
      generalize s.leaveClearing im = t
      split
      · refine .trans ?_ (.markPending _)
        exact .icu t _ rfl rfl rfl
      · exact .icu t _ rfl rfl rfl
    · exact .refl s
  · exact .icu s _ rfl rfl rfl

theorem State.Reacts.guardHeaters (s : State) (im : Image) : s.Reacts (s.guardHeaters im) := .beside rfl rfl rfl rfl rfl

theorem State.Reacts.reactPass (s : State) (im : Image) : s.Reacts (s.reactPass im) := by
  unfold State.reactPass
  split
  · split
    · exact .refl s
    · exact .endScrape s im _
  · exact .refl s

theorem State.Reacts.loadScrape (s : State) (im : Image) : s.Reacts (s.loadScrape im) := by
  unfold State.loadScrape
  split
  · split
    · exact .beside rfl rfl rfl rfl rfl
    · exact .refl s
  · exact .refl s

theorem State.Reacts.icuReact (s : State) (im : Image) : s.Reacts (s.icuReact im) :=
  ((((State.Reacts.judgeSevere s im).trans (.formIce _ im)).trans (.guardHeaters _ im)).trans (.reactPass _ im)).trans
    (.loadScrape _ im)

/-! ### The Drop Supervisor -/

theorem State.Reacts.latchSoft (s : State) (c : DropCondition) : s.Reacts (s.latchSoft c) := by
  unfold State.latchSoft
  split
  · exact .refl s
  · exact ((State.Reacts.softLower s .a).trans (.softLower _ .b)).trans (.setLatch _ c)

theorem State.Reacts.keepLatches (s : State) (d : DropSet) : s.Reacts (s.keepLatches d) := .beside rfl rfl rfl rfl rfl

theorem State.Reacts.judgeCause (s : State) (im : Image) (c : DropCondition) : s.Reacts (s.judgeCause im c) := by
  unfold State.judgeCause
  dsimp only
  generalize ht : s.setCause c (s.maskableCause im c) = t
  have k : s.Reacts t := ht ▸ .ds s _
  refine k.trans ?_
  split
  · have l : ∀ u : State, t.Reacts u → t.Reacts (if im.masks.get c then u.latchSoft c else u) := by
      intro u l
      split
      · exact l.trans (.latchSoft u c)
      · exact l
    refine l (if c = .wrongSystem then t.request .wrongSystem else t) ?_
    split
    · exact .request t _
    · exact .refl t
  · exact .refl t

theorem State.Reacts.restoreMaskable (s : State) : s.Reacts s.restoreMaskable :=
  (State.Reacts.keepLatches s _).trans (.ds _ _)

theorem State.Reacts.formRestore (s : State) (im : Image) : s.Reacts (s.formRestore im) := by
  unfold State.formRestore
  split
  · split
    · exact .restoreMaskable s
    · exact .ds s _
  · exact .ds s _

theorem State.Reacts.dsReact (s : State) (im : Image) : s.Reacts (s.dsReact im) :=
  ((((State.Reacts.judgeCause s im _).trans (.judgeCause _ im _)).trans (.judgeCause _ im _)).trans
    (.judgeCause _ im _)).trans (.formRestore _ im)

/-! ### The Admission Unit -/

theorem State.Reacts.placeRaise (s : State) (w : RaiseWant) : s.Reacts (s.placeRaise w) := by
  unfold State.placeRaise
  split
  · exact .refl s
  · exact .au s _ rfl

theorem State.Reacts.placeScrape (s : State) (p : Pan) : s.Reacts (s.placeScrape p) := by
  unfold State.placeScrape
  split
  · exact .refl s
  · exact .au s _ rfl

theorem State.Reacts.placeHeat (s : State) (w : HeatWant) : s.Reacts (s.placeHeat w) := by
  unfold State.placeHeat
  split
  · exact .refl s
  · exact .au s _ rfl

theorem State.Reacts.reactRaise (s : State) (im : Image) : s.Reacts (s.reactRaise im) := by
  unfold State.reactRaise
  dsimp only
  have k : s.Reacts (if (s.raiseBarred && s.au.raise.isSome) = true then s.dropWant .raise else s) := by
    split
    · exact .dropWant s _
    · exact .refl s
  refine k.trans ?_
  generalize (if (s.raiseBarred && s.au.raise.isSome) = true then s.dropWant .raise else s) = t
  split
  · split
    · split
      · exact .dropWant t _
      · exact .refl t
    · split
      · exact .refl t
      · split
        · exact .placeRaise t _
        · exact .refl t
  · exact .refl t

theorem State.Reacts.reactScrape (s : State) (im : Image) : s.Reacts (s.reactScrape im) := by
  unfold State.reactScrape
  split
  · split
    · exact .refl s
    · split
      · exact (State.Reacts.dropWant s _).trans (.placeScrape _ _)
      · exact .placeScrape s _
  · split
    · exact .dropWant s _
    · exact .refl s

theorem State.Reacts.formHeat (s : State) (im : Image) : s.Reacts (s.formHeat im) := by
  unfold State.formHeat
  split
  · split
    · exact .refl s
    · exact .placeHeat s _
  · split
    · exact .dropWant s _
    · exact .refl s

theorem State.Reacts.formHeatWant (before s : State) : s.Reacts (before.formHeatWant s) := by
  refine .ifGood s _ fun im t => ?_
  unfold State.reactHeat
  split
  · exact .formHeat t im
  · exact .refl t

theorem State.Reacts.openClaim (s : State) (im : Image) (h : Head) : s.Reacts (s.openClaim im h) :=
  .beside rfl rfl rfl rfl rfl

theorem State.Reacts.testFirst (s : State) (im : Image) : s.Reacts (s.testFirst im) := by
  unfold State.testFirst
  split
  · split
    · exact .openClaim s im _
    · exact .au s _ rfl
  · exact .au s _ rfl

theorem State.Reacts.claimTest (s : State) (im : Image) : s.Reacts (s.claimTest im) := by
  have k : ∀ t : State, s.Reacts t → s.Reacts (if t.au.claimOpen then
      (match t.au.head with
      | some h => if t.passes im h then t else t.withdraw.testFirst im
      | none => t)
    else t.testFirst im) := by
    intro t k
    refine k.trans ?_
    split
    · split
      · split
        · exact .refl t
        · exact (State.Reacts.withdraw t).trans (.testFirst _ im)
      · exact .refl t
    · exact .testFirst t im
  exact k { s with au := { s.au with retestT := if s.au.noWants then none else .started } } (.au s _ rfl)

/-! ### The whole event -/

theorem State.Reacts.clearMarks (s : State) : s.Reacts s.clearMarks := .au s _ rfl

theorem State.Reacts.formProfile (s : State) (im : Image) : s.Reacts (s.formProfile im) := .au s _ rfl

theorem State.Reacts.others (s : State) : s.Reacts s.others := by
  refine .ifGood s _ fun im t => ?_
  dsimp only
  refine .trans (.trans (.trans ?_ (.formProfile _ im)) (.reactRaise _ im)) (.reactScrape _ im)
  refine .trans (.trans (.trans ?_ (.ccReact _ im)) (.icuReact _ im)) (.dsReact _ im)
  exact .clearMarks t

theorem State.Reacts.round (ref s : State) : s.Reacts (ref.round s).2 :=
  ((State.Reacts.pantographs s).trans (.wiring ref _)).trans (.others _)

theorem State.Reacts.settle (n : Nat) (ref s : State) : s.Reacts (settle n ref s) := by
  induction n generalizing ref s with
  | zero => exact .refl s
  | succ n ih => exact (State.Reacts.round ref s).trans (ih _ _)

theorem State.Reacts.guard (s : State) : s.Reacts s.guard := by
  refine .trans (.trans (.trans (.watchIsolated s .a) (.watchIsolated _ .b)) (.ifGood _ _ fun im t => .guardHeaters t im)) ?_
  exact ⟨rfl, .same rfl id id (.inl ⟨rfl, rfl⟩) rfl, .same rfl id id (.inl ⟨rfl, rfl⟩) rfl, .inl rfl, fun _ h => h⟩

theorem State.Reacts.admission (before s : State) (test : Bool) : s.Reacts (before.admission test s) := by
  refine .ifGood s _ fun im t => ?_
  dsimp only
  have k : t.Reacts (t.evaluateConflict im) := .au t _ rfl
  split
  · exact k.trans (.claimTest _ im)
  · exact k

theorem State.Reacts.report (before s : State) (ask : Bool) : s.Reacts (before.report ask s) := by
  unfold State.report State.askStatus State.placeStatus
  split
  · split
    · exact .refl s
    · split <;> exact .beside rfl rfl rfl rfl rfl
  · exact .refl s

theorem State.Reacts.formAlerts (s : State) : s.Reacts s.formAlerts := .beside rfl rfl rfl rfl rfl

theorem State.Reacts.formOpenConfirm (before s : State) : s.Reacts (before.formOpenConfirm s.formPermit) :=
  .beside rfl rfl rfl rfl rfl

theorem State.Reacts.finish (before s : State) (test ask : Bool) : s.Reacts (finish before test ask s) := by
  unfold Machine.finish
  dsimp only
  refine .trans (.trans (.guard s) (.formHeatWant before _)) (.trans ?_ (.report before _ ask))
  refine .trans ?_ (.formAlerts _)
  refine .trans ?_ (.admission before _ test)
  exact .formOpenConfirm before _

/-- An event leads from the state after its direct effect to its end by reactions alone. -/
theorem State.Reacts.event (s : State) (test ask : Bool) (f : State → State) : (f s).Reacts (s.event test ask f) :=
  (State.Reacts.settle rounds s (f s)).trans (.finish s _ test ask)

/-- An event of a released part. -/
theorem State.Reacts.live (s : State) (test ask : Bool) (f : State → State) (h : s.released = true) :
    (f s).Reacts (s.live test ask f) := by
  rw [State.live, if_pos h]
  exact .event s test ask f

end Sys2Proof.Machine
end

