-- ==== Sys2Proof/Laws/Step.lean ====
section
/-! SUPPORT. A step by the front of the queue, and that every command and every step answers a next state. -/

namespace Sys2Proof.Machine

theorem step_nil {s : State} (h : s.pending = []) : step s = .next s.tick := by simp [step, h]

/-- No command stops: every meaning answers a next state. -/
theorem exec_next (c : Instr) (s : State) : ∃ t, exec c s = .next t := by
  cases c <;> exact ⟨_, rfl⟩

/-- No step stops. -/
theorem step_next (s : State) : ∃ t, step s = .next t := by
  unfold step
  split
  · exact exec_next _ _
  · exact ⟨_, rfl⟩

end Sys2Proof.Machine
end

