-- ==== Sys2Proof/Tests/Slice0.lean ====
section
/-! SUPPORT. Worked cases of the spec, and one state for each statement whose hypotheses need one. -/

namespace Sys2Proof.Tests

open Sys2Proof Sys2Proof.Machine

/-! ### The typical image (section 11.4) and small states -/

/-- The typical configuration record in four parts: section 11.4's values at section 12.7's places; two CRC bytes follow. -/
def record0 : List Byte :=
  [5, 1, 40, 90, 30, 3, 1, 54, 70, 30, 1, 144, 4, 10, 30, 15, 3, 0, 50, 50, 0, 0, 0, 200, 3, 4, 0, 0, 2, 0, 0,
    0]
def record1 : List Byte :=
  [201, 1, 44, 1, 2, 0, 200, 1, 0, 0, 0, 201, 1, 44, 2, 3, 0, 100, 1, 0, 20, 1, 45, 1, 144, 3, 1, 0, 0, 0, 0,
    100]
def record2 : List Byte :=
  [0, 240, 6, 6, 1, 40, 20, 50, 11, 184, 19, 136, 2, 88, 0, 50, 6, 8, 6, 1, 244, 5, 0, 200, 95, 255, 255, 0, 17,
    17, 34, 51]
def record3 : List Byte :=
  [51, 84, 100, 2, 0, 0, 0, 0, 0, 0, 0, 0, 0, 0, 0, 0, 0, 0, 0, 0, 0, 0, 0, 0, 0, 0, 0, 0, 0, 0]

/-- The typical configuration record. -/
def typicalRecord : Vector Byte 128 :=
  ⟨(record0 ++ record1 ++ record2 ++ record3 ++ [0x14, 0xA8]).toArray, by decide +kernel⟩

/-- The typical image in record units (section 11.4; profiles R72; levels section 9.2). -/
def typical : Image where
  panA := ⟨true, some .dc, 296, 90, 30⟩
  panB := ⟨true, some .ac, 310, 70, 30⟩
  trainLength := 400
  ppm := 4
  ts := 10
  th := 30
  tctl := 15
  kq := 3
  h := 50
  nDead := 50
  profile0 := ⟨0, 200, .both, 4, 0, 2, 0⟩
  profile1 := ⟨201, 300, .ac, 2, 200, 1, 0⟩
  profile2 := ⟨201, 300, .dc, 3, 100, 1, 20⟩
  profile3 := ⟨301, 400, .both, 1, 0, 0, 100⟩
  budget := 240
  ambientLimit := 6
  tIce := 6
  tClear := 1
  tSevere := 40
  fIce := 20
  fScrape := 50
  scrapeDist := 3000
  cooldownDist := 5000
  mOpen := 600
  mClose := 50
  tRq := 6
  tRaise := 8
  tLower := 6
  tBrk := 500
  rampStep := 5
  fFull := 200
  masks := ⟨true, true, true, true⟩
  autoRestore := true
  delayCode := 2
  enables := 0xFFFF#16
  levels := [0, 0, 1, 1, 1, 1, 2, 2, 3, 3, 3, 3, 4, 5, 4, 6]
  lampThreshold := 2
  polarities := ⟨.negated, false, false, false⟩
  arcLast := false

/-- Both pantographs DOWN on a good configuration, breaker OPEN, air and loop in order. -/
def idle : State :=
  { State.held .powerOn with
    released := true
    pcA := .reset true
    pcB := .reset true
    bi := { BI.reset with hold := ⟨false, false, false, false, false⟩ }
    pv := { PV.reset with learning := false, silence := .running 0 }
    au := { AU.reset with profile := some 0 }
    al := { AL.reset with flt := false }
    ioc := { IOC.reset with levels := ⟨false, true, false, true, true, true, false, true, true⟩ }
    cl := ⟨some typical, false, none, none, true, 5, .powerOn⟩ }

/-- A pantograph UP, with its connection and force. -/
def upPc (coll : Bool) : PC :=
  { PC.reset true with state := .up, disc := coll, valve := true, fset := 90, target := 90, duty := 450 }

/-- A UP and COLLECTING on a qualified DC3 line, breaker CLOSED with permit. -/
def collecting : State :=
  { idle with
    pcA := upPc true
    lq := { LQ.reset with q := .dc3 }
    au := { AU.reset with group := .dc, profile := some 0 }
    bi := ⟨⟨false, false, false, false, false⟩, true, true, none, false⟩
    ioc := { idle.ioc with levels := ⟨true, false, false, true, true, true, true, true, true⟩ } }

/-- The state after a command; the state itself after a stop. -/
def after (c : Instr) (s : State) : State :=
  match exec c s with
  | .next t => t
  | _ => s

/-! ### Line Qualifier: the worked cases of section 1.9 -/

theorem test_mean_ties : meanOf 1152 = 1 ∧ meanOf 1151 = 0 ∧ meanOf (-3456) = -2 ∧ meanOf (-3457) = -2 := by decide

theorem test_ac15_window :
    meanOf 11520 = 5 ∧ racOf 11520 14400000000 = 2499 ∧ freqOf 8 (some 40) (some 2056) = some 16666 ∧
    classOf .ok 5 2499 (some 16666) = .ac15 := by decide +kernel

theorem test_ac25_window :
    racOf 0 40002048000 = 4166 ∧ freqOf 24 (some 10) (some 2218) = some 50000 ∧
    classOf .ok 0 4166 (some 50000) = .ac25 := by decide +kernel

theorem test_dc3_window :
    meanOf 1152000 = 500 ∧ racOf 1152000 576921600 = 20 ∧ classOf .ok 500 20 none = .dc3 := by decide +kernel

theorem test_variance_not_negative : meanOf 5760 = 3 ∧ varianceOf 5760 14976 = 0 ∧ racOf 5760 14976 = 0 := by
  decide +kernel

theorem test_frequency_limits :
    freqOf 1152 (some 1) (some 2303) = some 2400000 ∧ freqOf 3 (some 1) (some 2303) = some 4170 ∧
    freqOf 2 (some 1) (some 2303) = none := by decide

/-- Section 1.9, 32 and 33 invalid samples and the clipped window. -/
theorem test_reasons : reasonOf 0 32 = .ok ∧ reasonOf 0 33 = .samples ∧ reasonOf 3 40 = .clip := by decide

/-! ### Frames and the record -/

/-- R206: the check value of the nine bytes of "123456789". -/
theorem test_crc_check_value : crc16 [0x31, 0x32, 0x33, 0x34, 0x35, 0x36, 0x37, 0x38, 0x39] = 0x29B1#16 := by decide +kernel

/-- R202, R206: the CRC of the record's 126 bytes, part by part, is its last two bytes. -/
theorem test_typical_record_is_good : recordGood typicalRecord = true := by
  have h0 : record0.foldl crcByte 0xFFFF#16 = 0x7E21#16 := by decide +kernel
  have h1 : record1.foldl crcByte 0x7E21#16 = 0xB05F#16 := by decide +kernel
  have h2 : record2.foldl crcByte 0xB05F#16 = 0xBA9E#16 := by decide +kernel
  have h3 : record3.foldl crcByte 0xBA9E#16 = 0x14A8#16 := by decide +kernel
  have h : typicalRecord.toList.take 126 = record0 ++ record1 ++ record2 ++ record3 := by decide +kernel
  have e : crcBytes (record0 ++ record1 ++ record2 ++ record3) =
      [recordByte typicalRecord 126, recordByte typicalRecord 127] := by
    simp only [crcBytes, crc16, List.foldl_append, h0, h1, h2, h3]
    decide +kernel
  simp only [recordGood, h, e, decide_true]

/-- Section 11.4: the typical image needs no clamping. -/
theorem test_typical_record_is_read : rawImage typicalRecord = typical ∧ clampImage typical = typical := by
  decide +kernel

/-- Section 12.1 by hand: a WITHDRAW of serial 9 from roof station 3, sequence number 7. -/
theorem test_withdraw_frame_is_read :
    decodeLineFrame ([3, 3, 7, 1, 9] ++ crcBytes [3, 3, 7, 1, 9]) = .withdrawReceived ⟨3, .roof, 7⟩ 9 := by
  decide +kernel

/-- R174: a frame whose length byte is not that of its payload, and one of an unknown type. -/
theorem test_bad_frames_are_errors :
    decodeLineFrame ([3, 3, 7, 2, 9] ++ crcBytes [3, 3, 7, 2, 9]) = .receiveError .length ∧
    decodeLineFrame ([5, 3, 7, 1, 9] ++ crcBytes [5, 3, 7, 1, 9]) = .receiveError .frameType := by decide +kernel

/-- WellFormed refuses a RECORD of 29 bytes and takes one of 28 (section 12.1). -/
theorem test_long_record_is_ill_formed :
    (Instr.recordReceived ⟨3, .roof, 0⟩ (List.replicate 29 0)).wellFormed = false ∧
    (Instr.recordReceived ⟨3, .roof, 0⟩ (List.replicate 28 0)).wellFormed = true := by decide

/-- The table gives no row any bits. -/
theorem test_no_word_spells_a_command : decodeTableWord 16 0x1234 = none ∧ State.reset.withFetchWord 8 3 = State.reset := by
  decide

/-! ### One step of the block -/

/-- R31: from 70 N toward 90 N by the typical step of 5 N, and the duty of 75 N at F_full 200 N. -/
theorem test_ramp_steps_up :
    (after .rampTick { collecting with pcA := { collecting.pcA with fset := 70 } }).pcA.fset = 75 ∧
    (after .rampTick { collecting with pcA := { collecting.pcA with fset := 70 } }).pcA.duty = 375 := by
  decide +kernel

/-- R39: an air loss of a collecting pantograph on a closed breaker drops it at once (R37) and withdraws the permit. -/
theorem test_air_loss_drops :
    (after (.levelAccepted .airA false) collecting).pcA.state = .lowering ∧
    (after (.levelAccepted .airA false) collecting).bi.permit = false ∧
    (after (.levelAccepted .airA false) collecting).ds.latch.airLossA = true := by decide +kernel

/-- R155: the loop opening drops the pantograph and requests EMERGENCY. -/
theorem test_emergency_drops :
    (after (.levelAccepted .eloop false) collecting).pcA.state = .lowering ∧
    (after (.levelAccepted .eloop false) collecting).al.requested .emergency = true ∧
    (after (.levelAccepted .eloop false) collecting).bi.hold.ds = true := by decide +kernel

/-- R54, R55: the first frame of a node makes a LEARNING entry, the second a VALID one. -/
theorem test_entry_becomes_valid :
    let f := Instr.withdrawReceived ⟨3, .roof, 7⟩ 9
    ((after f idle).pv.table.map fun e => e.state) = [.learning] ∧
    ((after f (after f idle)).pv.table.map fun e => e.state) = [.valid] := by decide +kernel

/-- R174, R177: a receive error counts once in each counter. -/
theorem test_receive_error_counts :
    (after (.receiveError .crc) idle).lau.rxErrors = 1 ∧ (after (.receiveError .crc) idle).lau.periodErrors = 1 := by
  decide +kernel

/-- R199: -50.0 °C is a valid reading in 0.5 °C steps, -50.5 °C is none and a sensor fault. -/
theorem test_temperature_range :
    (after (.ambientConversion (-100)) idle).ioc.ambient = some (-100) ∧
    (after (.ambientConversion (-101)) idle).ioc.ambient = none ∧
    (after (.ambientConversion (-101)) idle).al.requested .sensorFault = true := by decide +kernel

/-- R200: RST low for one sample does nothing, for two it resets. -/
theorem test_short_reset_is_ignored :
    (after (.rstAsserted 1) idle).released = true ∧ (after (.rstAsserted 2) idle).released = false := by decide +kernel

/-! ### A state that meets the hypotheses of each statement -/

/-- A step of a state answers a next state, so a law's second hypothesis is always met. -/
theorem witness_step (s : State) : ∃ t, step s = .next t := step_next s

theorem witness_StepRunsTheFrontCommand :
    ({ collecting with pending := [.rampTick, .leg1End] } : State).pending = .rampTick :: [.leg1End] := rfl

/-- `idle` with the timers of A, an entry of each state and every other timer one short of its limit, so that all are due at
the next millisecond, and the timers of B two short. -/
def timed : State :=
  { idle with
    rampClock := 49
    pcA := { idle.pcA with raiseT := some 7999, lowerT := some 5999, heightT := some 499 }
    pcB := { idle.pcB with raiseT := some 7998, lowerT := some 5998, heightT := some 498 }
    bi := { idle.bi with openConfirm := some 499 }
    au := { idle.au with holdOffT := some 299, retestT := some 999, retryT := some 999, graceA := some 299, graceB := some 298 }
    cc := { CC.reset with rqTimer := some 5999 }
    ds := { DS.reset with restoreT := some 4999 }
    lau := { LAU.reset with statusT := some 99, gapT := some 19, periodClock := 9999 }
    ioc := { idle.ioc with bucketClock := 249, stationaryT := some 1999 }
    pv := { idle.pv with
      silence := .running 1499, learningT := some 299,
      table := [⟨1, .learning, 0, 1499, none, .roof .fresh⟩, ⟨2, .valid, 0, 1519, none, .roof .fresh⟩,
        ⟨3, .lost, 0, 1600, some 1999, .roof { RoofData.fresh with claim := some ⟨9, .raise, .b, 20, 0, 300, 800⟩ }⟩] } }

theorem dueNext_some (n limit : Nat) : DueNext (some n) limit ↔ limit ≤ n + 1 :=
  ⟨fun ⟨_, h, k⟩ => by cases h; exact k, fun h => ⟨n, rfl, h⟩⟩

theorem witness_EmptyQueueQueuesDueExpiries :
    timed.released = true ∧ timed.cl.image = some typical ∧ timed.pending = [] ∧
    (DueNext timed.pcA.raiseT (typical.tRaise * 1000) ∧ ¬DueNext timed.pcB.raiseT (typical.tRaise * 1000)) ∧
    (DueNext timed.au.graceA (3 * (typical.ts * 10)) ∧ ¬DueNext timed.au.graceB (3 * (typical.ts * 10))) ∧
    DueNext timed.ds.restoreT typical.restoreMs ∧
    (∃ e ∈ timed.pv.table, e.state = .learning ∧ e.windowMs typical = e.age + 1) ∧
    (∃ e ∈ timed.pv.table, e.state = .valid ∧ e.lostMs typical = e.age + 1) ∧
    (∃ e ∈ timed.pv.table, e.state = .lost ∧ DueNext e.lostAge 2000) := by
  refine ⟨rfl, rfl, rfl, ⟨⟨_, rfl, by decide⟩, ?_⟩, ⟨⟨_, rfl, by decide⟩, ?_⟩, ⟨_, rfl, by decide⟩, ?_, ?_, ?_⟩
  · exact fun h => absurd ((dueNext_some _ _).1 h) (by decide)
  · exact fun h => absurd ((dueNext_some _ _).1 h) (by decide)
  · exact ⟨_, List.mem_cons_self, by decide, by decide⟩
  · exact ⟨_, List.mem_cons_of_mem _ List.mem_cons_self, by decide, by decide⟩
  · exact ⟨_, List.mem_cons_of_mem _ (List.mem_cons_of_mem _ List.mem_cons_self), by decide, ⟨_, rfl, by decide⟩⟩

theorem witness_ResetsHoldThePart :
    (1 < 2 ∧ 2 ≤ 2) ∧ ¬(idle.released = false ∧ idle.resetCause = .powerOn) ∧
    (State.reset.released = false ∧ State.reset.resetCause = .powerOn) := by decide

theorem witness_HeldPartKeepsItsResetValues :
    State.reset.released = false ∧ Instr.rampTick ≠ .powerOnReset ∧ (∀ n, Instr.rampTick ≠ .rstAsserted n) ∧
    (∀ pins straps, Instr.rampTick ≠ .resetRelease pins straps) ∧
    State.HeldLaw { State.reset with pending := [.rampTick] } :=
  ⟨rfl, by decide, by simp, by simp, fun _ => rfl⟩

/-- A part whose first read is running. -/
def reading : State :=
  { idle with
    cl := { CL.reset with read := .started, address := 5 }
    bi := BI.reset
    pcB := { PC.reset false with pendingFault := none } }

theorem witness_GoodRecordStartsThePart :
    reading.released = true ∧ reading.cl.read.isSome = true ∧ recordGood typicalRecord = true ∧
    reading.bi.closed = reading.ioc.levels.brkFb ∧ reading.cl.verdictGiven = false ∧ reading.lau.gapT = none :=
  ⟨rfl, rfl, test_typical_record_is_good, rfl, rfl, rfl⟩

theorem witness_BadRecordIsRetried :
    (reading.released = true ∧ reading.cl.read.isSome = true ∧ recordGood (Vector.replicate 128 0) = false) ∧
    ({ reading with cl := { reading.cl with read := none, retryT := some 0 } } : State).cl.retryT.isSome = true := by
  refine ⟨⟨rfl, rfl, ?_⟩, rfl⟩
  have z : (List.replicate 42 (0 : Byte)).foldl crcByte 0xFFFF#16 = 0xBE39#16 := by decide +kernel
  have y : (List.replicate 42 (0 : Byte)).foldl crcByte 0xBE39#16 = 0x5EAE#16 := by decide +kernel
  have x : (List.replicate 42 (0 : Byte)).foldl crcByte 0x5EAE#16 = 0x7ED1#16 := by decide +kernel
  have h : (Vector.replicate 128 (0 : Byte)).toList.take 126 =
      List.replicate 42 0 ++ List.replicate 42 0 ++ List.replicate 42 0 := by decide +kernel
  simp only [recordGood, h, crcBytes, crc16, List.foldl_append, z, y, x]
  decide +kernel

theorem witness_MeanRoundsHalfAwayFromZero :
    (-18874368 ≤ (-18874368 : Int) ∧ (-18874368 : Int) ≤ 18872064) ∧
    2 * ((1152 : Int) - 2304 * meanOf 1152).natAbs = 2304 := by decide

theorem witness_AcMagnitudeIsTheExactRoot : (8192 * 8192 ≤ varianceOf 0 (2304 * 67108864)) ∧
    varianceOf 0 (2304 * 67108864) ≤ 67108864 := by decide +kernel

/-- `collecting` with a window at an index, and the NEG side set by a sample below -H. -/
def windowAt (n : Nat) : State := { collecting with lq := { LQ.reset with index := n, side := .neg, q := .dc3 } }

theorem witness_SampleIsTakenIntoTheWindow :
    (windowAt 2302).released = true ∧ (windowAt 2302).cl.image = some typical ∧ (windowAt 2302).lq.index < 2303 ∧
    (windowAt 0).lq.index < 2303 ∧ (windowAt 7).lq.side = .neg ∧ collecting.lq.side ≠ .neg ∧
    ((-50#14).toInt ≤ -(typical.h : Int) ∧ (typical.h : Int) ≤ (50#14).toInt ∧
      -(typical.h : Int) < (49#14).toInt ∧ (49#14).toInt < (typical.h : Int)) ∧
    reading.cl.image = none ∧
    (∀ p, ((after (.sampleEvent 50 true) (windowAt 7)).pc p).state = ((windowAt 7).pc p).state ∧
      ((after (.sampleEvent 50 true) (windowAt 7)).pc p).disc = ((windowAt 7).pc p).disc) := by
  refine ⟨by decide, by decide, by decide, by decide, by decide, by decide, by decide, by decide, ?_⟩
  intro p
  cases p <;> decide +kernel

/-- R5: a sample stays in the sums of its window. -/
theorem test_sample_stays_in_its_window :
    (after (.sampleEvent 50 true) (windowAt 7)).lq.s2 = (windowAt 7).lq.s2 + 2500 ∧
    (after (.sampleEvent 50 true) (windowAt 7)).lq.index = 8 := by decide +kernel

theorem witness_WindowEndReplacesTheResult :
    (windowAt 2303).released = true ∧ (windowAt 2303).cl.image = some typical ∧ (windowAt 2303).lq.index = 2303 ∧
    32 < (({ LQ.reset with index := 2303, invalid := 32 } : LQ).take 50 0 false).invalid := by decide

theorem witness_ClassTableDecides : WindowReason.clip ≠ .ok ∧ classOf .ok 99 99 none = .dead ∧ classOf .ok 100 99 none = .unknown := by
  decide

/-- A field below, in and above its range, and each adjustment: the values of R203 by hand. -/
theorem witness_ClampedImageIsInRange :
    let raw : Image := { typical with
      trainLength := 5, ppm := 0, ts := 50, th := 9, tIce := 40, tClear := 60, tSevere := 1, levels := [9, 7]
      panA := { typical.panA with set := none, fBase := 141 }
      profile0 := { typical.profile0 with applies := .undefined, minSpacing := 801 } }
    let i := clampImage raw
    (∃ f g, raw.profiles[0]? = some f ∧ i.profiles[0]? = some g ∧ g.applies = .off ∧ g.minSpacing = 800) ∧
    (∃ a b, raw.levels[0]? = some a ∧ i.levels[0]? = some b ∧ b = 7) ∧ i.trainLength = 10 ∧ i.ppm = 1 ∧ i.th = 100 ∧
    i.tClear = 39 ∧ i.tSevere = 41 ∧ i.panA.present = false ∧ i.panA.fBase = 140 ∧ i.panB.p = 10 := by
  exact ⟨⟨_, _, rfl, rfl, by decide, by decide⟩, ⟨_, _, rfl, rfl, by decide⟩, by decide⟩

theorem witness_QualificationFollowsTheResult :
    (({ LQ.reset with cand := some .dead, candCount := 255, deadCount := 255 } : LQ).close 3).result.cls = .dead ∧
    (({ LQ.reset with clipped := 1, unknownStreak := 255, cand := some .unknown } : LQ).close 3).result.cls = .unknown ∧
    (({ LQ.reset with s1 := 1152000, s2 := 576921600, cand := some .dc3, candCount := 2 } : LQ).close 3).q = .dc3 := by
  decide +kernel

/-- A DEAD window on a line that was DC3: Q changes at the window end. -/
theorem witness_QChangesOnlyAtWindowEnds :
    let s : State := { windowAt 2303 with pending := [.sampleEvent 0 true] }
    ∃ t, s.pending = [.sampleEvent 0 true] ∧ step s = .next t ∧ t.lq.q ≠ s.lq.q := by
  refine ⟨after (.sampleEvent 0 true) (windowAt 2303), rfl, rfl, ?_⟩
  decide +kernel

theorem held_of_released {s : State} (h : s.released = true) : s.HeldLaw := fun e => by simp [h] at e

theorem witness_WindowAndCountersStayInRange :
    State.HeldLaw (windowAt 1) ∧ (windowAt 1).lq.InRange ∧ (windowAt 1).lq.Tracked ∧ idle.HeldLaw ∧ idle.CounterLaw := by
  refine ⟨held_of_released rfl, ?_, ?_, held_of_released rfl, ?_⟩
  · constructor <;> decide
  · exact ⟨by decide, fun _ => ⟨rfl, rfl⟩, fun h => absurd h (by decide), fun _ => ⟨by decide, by simp [windowAt, LQ.reset]⟩⟩
  · constructor
    case remainder => exact ⟨by decide, rfl, rfl⟩
    case runs => intro i; cases i <;> decide
    case waiting => refine ⟨?_, ?_, ?_, ?_⟩ <;> intro x h <;> cases h
    case attempt => exact fun _ h => nomatch h
    all_goals decide

/-- A rises in COLLECTING connection beside a B that is DOWN, in a window with `n` samples. -/
def rising (n : Nat) : State :=
  { idle with
    pcA := { upPc true with state := .rising }
    lq := { LQ.reset with index := n, candCount := 2, cand := some .dc3, deadCount := 3 }
    ioc := { idle.ioc with levels := { idle.ioc.levels with downA := false } } }

/-- `collecting` with a soft lowering of A in progress and a force. -/
def lowered (l : Lowering) (n : Nat) : State :=
  { collecting with
    pcA := { collecting.pcA with lowering := some l, fset := n, target := 0 }
    bi := { collecting.bi with hold := ⟨true, false, false, false, false⟩, permit := false } }

theorem witness_AcceptedLevelReachesItsReaders :
    (collecting.released = true ∧ levelOf collecting.ioc.levels .eloop ≠ false ∧
      levelOf collecting.ioc.levels .brkFb ≠ false ∧ levelOf collecting.ioc.levels .upA ≠ false ∧
      levelOf collecting.ioc.levels .downA ≠ true ∧ levelOf collecting.ioc.levels .airA ≠ false ∧
      collecting.acts .a = true ∧ collecting.pcA.state = .up ∧ collecting.airOk .a = true ∧
      collecting.ds.latch.emergency = false ∧ levelOf collecting.ioc.levels .dir ≠ false ∧
      collecting.ioc.stationary = false ∧ directionOf true ≠ collecting.ioc.view) ∧
    (∀ n, (rising n).released = true ∧ (rising n).cl.image = some typical ∧ (rising n).acts .a = true ∧
      (rising n).pcA.state = .rising ∧ (rising n).pcA.disc = true ∧ (rising n).pcA.lowering = none ∧
      (rising n).pcB.disc = false ∧ (rising n).airOk .a = true ∧ (rising n).upSensor .a = false ∧
      (rising n).lq.index = n) ∧
    (exec .rampTick (windowAt 7) = .next (after .rampTick (windowAt 7)) ∧
      (after .rampTick (windowAt 7)).released = true ∧
      ∀ p, ((after .rampTick (windowAt 7)).pc p).state = ((windowAt 7).pc p).state ∧
        ((after .rampTick (windowAt 7)).pc p).disc = ((windowAt 7).pc p).disc) ∧
    (∀ l n, (lowered l n).released = true ∧ (lowered l n).ioc.levels.brkFb = true ∧ (lowered l n).acts .a = true ∧
      (lowered l n).pcA.risingOrUp = true ∧ (lowered l n).pcA.disc = true ∧ (lowered l n).airOk .a = true ∧
      (lowered l n).downSensor .a = false ∧ (lowered l n).pcA.lowering = some l ∧ (lowered l n).pcA.fset = n) := by
  refine ⟨by decide, fun n => ⟨rfl, rfl, rfl, rfl, rfl, rfl, rfl, rfl, rfl, rfl⟩, ⟨rfl, by decide +kernel, ?_⟩,
    fun l n => ⟨rfl, rfl, rfl, rfl, rfl, rfl, rfl, rfl, rfl⟩⟩
  intro p
  cases p <;> decide +kernel

/-- R39 by hand: at BRK_FB OPEN a SOFT-WAIT with 90 N becomes SOFT-RAMP, a SOFT-RAMP with 0 N vents; at a ramp tick with 5 N
left it vents on an open breaker and waits on a closed one. -/
theorem test_soft_lowering_steps :
    (after (.levelAccepted .brkFb false) (lowered .softWait 90)).pcA.lowering = some .softRamp ∧
    (after (.levelAccepted .brkFb false) (lowered .softRamp 0)).pcA.state = .lowering ∧
    (after .rampTick { lowered .softRamp 5 with bi := { collecting.bi with closed := false } }).pcA.state = .lowering ∧
    (after .rampTick (lowered .softRamp 5)).pcA.valve = true := by decide +kernel

/-- R17, R18, R131 by hand: A reaches UP with 7 samples taken; the window, the streak and the dead count are gone, the rings
take the partial count of 4, and A is the arc pantograph. -/
theorem test_reaching_up_abandons :
    let s : State := { rising 7 with icu := { ICU.reset with winA := 4 } }
    let t := after (.levelAccepted .upA true) s
    t.lq.index = 0 ∧ t.lq.cand = none ∧ t.lq.deadCount = 0 ∧ t.icu.ringA = [0, 0, 0, 0, 0, 0, 0, 4] ∧ t.icu.winA = 0 ∧
    t.icu.arcPan = some .a ∧ t.icu.arcSum = 4 := by decide +kernel

/-- Each of the three clauses: the level that stands, a run one short of its class time, and a run that reaches it. -/
theorem witness_LevelSamplesCountToTheClassTime :
    let s : State := { idle with ioc := { idle.ioc with runs := { RunCounts.zero with eloop := 0, airA := 1 } } }
    let pins : Levels := { idle.ioc.levels with eloop := false, airA := false }
    s.released = true ∧ levelOf (logical s.levelPolarity pins) .dir = levelOf s.ioc.levels .dir ∧
    (levelOf (logical s.levelPolarity pins) .eloop ≠ levelOf s.ioc.levels .eloop ∧
      s.ioc.runs.get .eloop + 1 < classTime .eloop) ∧
    (levelOf (logical s.levelPolarity pins) .airA ≠ levelOf s.ioc.levels .airA ∧
      classTime .airA ≤ s.ioc.runs.get .airA + 1) := by decide

/-- `collecting` with the permit withdrawn and the open-confirm timer running: the CC holds the breaker open. -/
def opening : State :=
  { collecting with
    bi := ⟨⟨false, false, true, false, false⟩, false, true, some 0, false⟩
    cc := { CC.reset with phase := .opening, nextPan := some .b, countdown := .running .two 1 } }

theorem witness_StuckBreakerIsReported :
    opening.released = true ∧ opening.bi.openConfirm.isSome = true ∧ opening.HeldLaw ∧ opening.BreakerLaw :=
  ⟨rfl, rfl, held_of_released rfl, by decide, by decide⟩

/-- The conditions hold and the permit is given; and a breaker that closes without permit starts the open-confirm timer. -/
theorem witness_PermitOnlyUnderItsFiveConditions :
    collecting.bi.permit = true ∧ collecting.PermitLaw ∧
    (let s : State := { idle with pending := [.levelAccepted .brkFb true] }
     let t := after (.levelAccepted .brkFb true) idle
     s.pending = [.levelAccepted .brkFb true] ∧ step s = .next t ∧ s.released = true ∧ t.released = true ∧
      t.cl.image.isSome = true ∧ t.bi.permit = false ∧ t.bi.closed = true ∧ s.bi.closed = false ∧
      t.bi.openConfirm = Timer.started) ∧
    (let t := after .rampTick opening
     t.cl.image.isSome = true ∧ t.bi.permit = false ∧ t.bi.closed = true ∧ opening.bi.permit = false ∧
      opening.bi.closed = true ∧ t.bi.openConfirm = opening.bi.openConfirm) := by
  refine ⟨rfl, ⟨fun _ => ⟨rfl, ⟨typical, rfl, .a, .dc, rfl, rfl, rfl, rfl, rfl⟩, .inl rfl⟩, fun _ => rfl⟩, ⟨rfl, rfl, ?_⟩, ?_⟩ <;>
    decide +kernel

theorem witness_HoldOpenSetFollowsItsTable : opening.HeldLaw ∧ opening.HoldOpenLaw := by
  refine ⟨held_of_released rfl, ?_, ?_, ?_, ?_, by decide, by decide, by decide, by decide⟩ <;>
    intro p <;> cases p <;> decide

theorem witness_ControllerTimersEndInTheirFaults :
    let s : State := { collecting with
      pcA := { collecting.pcA with raiseT := some 7999, heightT := some 499, lowerT := some 5999 } }
    s.released = true ∧ s.acts .a = true ∧ s.pcA.risingOrUp = true ∧ s.downSensor .a = false ∧
    s.pcA.raiseT.isSome = true ∧ s.pcA.heightT.isSome = true ∧ s.pcA.lowerT.isSome = true ∧ s.pcA.disc = true ∧
    idle.downSensor .a = true := by decide

theorem witness_RampTickMovesTheForce :
    collecting.released = true ∧ collecting.cl.image = some typical ∧ reading.released = true ∧ reading.cl.image = none ∧
    collecting.airOk .a = true ∧ collecting.downSensor .a = false ∧ reading.airOk .a = true ∧
    ({ reading with ioc := { reading.ioc with levels := { reading.ioc.levels with downA := false } } } : State).downSensor .a = false ∧
    ({ collecting.pcA with fset := 84 } : PC).fset + typical.rampStep < collecting.pcA.target ∧
    ({ collecting.pcA with fset := 85 } : PC).fset + typical.rampStep = collecting.pcA.target ∧
    collecting.pcA.target + typical.rampStep < ({ collecting.pcA with fset := 96 } : PC).fset ∧
    ((lowered .softRamp 5).pcA.lowering = some .softRamp ∧ (lowered .softRamp 5).pcA.target = 0 ∧
      (typical.pan .a).present = true ∧ (lowered .softRamp 5).pcA.fset ≤ typical.rampStep ∧
      typical.rampStep < (lowered .softRamp 6).pcA.fset ∧ (lowered .softRamp 5).bi.closed = true) := by decide

theorem witness_LowerRequestsFollowTheState :
    collecting.acts .a = true ∧ collecting.pcA.risingOrUp = true ∧ collecting.pcA.lowering = none ∧
    collecting.pcA.disc = true ∧ collecting.bi.closed = true ∧ collecting.pcA.fset ≠ 0 ∧ idle.pcA.state = .down ∧
    (upPc false).disc = false := by decide

theorem witness_OutputsFollowThePantographState : collecting.OutputTable := by
  refine ⟨⟨rfl, by decide, by decide⟩, ⟨rfl, by decide, by decide⟩, ⟨?_, nofun⟩⟩
  intro im h p
  cases h
  cases p
  · exact ⟨by decide, by decide, fun _ _ _ _ => ⟨fun _ _ => rfl, by decide, by decide⟩, fun _ _ _ h => nomatch h.1⟩
  · exact ⟨fun _ => rfl, (fun h => nomatch h), (fun h => nomatch h), fun h => nomatch h⟩

/-- A collecting and B scraping beside it. -/
def scraping : State :=
  { collecting with
    pcB := upPc false
    icu := { ICU.reset with scrape := some .b, scrapeCount := some 1 }
    ioc := { idle.ioc with levels := ⟨true, false, true, false, true, true, true, true, true⟩ } }

theorem witness_RaisedPantographsStandByTheirLaws : scraping.OneCollecting ∧ scraping.IsolatedLaw := by
  refine ⟨by unfold State.OneCollecting; decide, ?_⟩
  intro p
  cases p <;> decide

/-- The height-loss drop on a closed breaker: the collecting pantograph leaves the wire. -/
theorem witness_CollectingLeavesTheWireOnlyOnAnOpenBreaker :
    let s : State := { collecting with
      pcA := { collecting.pcA with heightT := some 499 }, pending := [.heightTimerExpiry .a] }
    ∃ t, step s = .next t ∧ s.released = true ∧ t.released = true ∧ s.bi.closed = true ∧ t.bi.closed = true ∧
      s.pcA.upCollecting = true ∧ t.pcA.state = .lowering := by
  refine ⟨after (.heightTimerExpiry .a) { collecting with pcA := { collecting.pcA with heightT := some 499 } }, rfl, ?_⟩
  decide +kernel

/-- A governs-and-restores DEMAND of node 0 with restore 1, on an entry whose last toggles were all 0. -/
def restoreDemand : Instr :=
  .demandReceived ⟨0, .control, 8⟩ ⟨#[3, 0x1F, 1, 0, 0, 0, 0, 0, 0, 0], rfl⟩

/-- B in FAULT beside a governing control node. -/
def faulted : State :=
  { idle with
    pcB := { PC.reset true with state := .fault, fault := some .airLoss }
    pv := ({ idle.pv with
      table := [⟨0, .valid, 7, 0, none, .control ⟨⟨true, true, false, .any, none, none⟩, some ⟨0, 0, 0⟩⟩⟩] } : PV).form }

theorem witness_FaultIsLeftOnlyByRestore :
    ∃ t, ({ faulted with pending := [restoreDemand] } : State).pending = [restoreDemand] ∧
      step { faulted with pending := [restoreDemand] } = .next t ∧ faulted.released = true ∧ t.released = true ∧
      faulted.pcB.state = .fault ∧ t.pcB.state ≠ .fault := by
  refine ⟨after restoreDemand faulted, rfl, rfl, ?_⟩
  decide +kernel

/-- A control node that governs with pantograph demand UP. -/
def governed : PV :=
  ({ idle.pv with
    table := [⟨0, .valid, 7, 0, none, .control ⟨⟨true, true, false, .any, none, none⟩, some ⟨0, 0, 0⟩⟩⟩] } : PV).form

/-- A claim in HOLDING for A, DOWN with air, on a line of profile 0, its want standing. -/
def granted : State :=
  { idle with
    lq := { LQ.reset with q := .dc3 }
    pv := governed
    au := { idle.au with
      group := .dc, raise := some ⟨.a, .demand⟩, claim := .holding, serial := 1, holdOffT := some 300
      body := some ⟨.raise, .a, 296, 0, 300⟩ } }

/-- VALVE of A comes on at the hold-off expiry. -/
theorem witness_RaisesAndHeatersComeOnlyFromTheOwnClaim :
    ∃ t, step { granted with pending := [.holdOffExpiry] } = .next t ∧
      granted.pcA.valve = false ∧ t.pcA.valve = true := by
  refine ⟨after .holdOffExpiry granted, rfl, ?_⟩
  decide +kernel

/-- A DEMAND of node 0 that changes its report and clear toggles and announces section 4: 700 m ahead, 200 m long, AC25. -/
def announcing : Vector Byte 10 := ⟨#[3, 0x1F, 0x10, 1, 4, 2, 188, 0, 200, 2], rfl⟩

/-- `faulted` with latches of all kinds but FORCED, the arc sum above T_severe. -/
def latched : State :=
  { faulted with
    ds := ⟨⟨true, false, true, false, false, true, true, true⟩, { DropSet.empty with arcSevere := true }, none⟩
    bi := { faulted.bi with hold := ⟨false, false, false, true, false⟩ }
    icu := { ICU.reset with arcPan := some .b, ringB := [0, 0, 0, 0, 0, 0, 0, 50], arcSum := 50, severe := true } }

theorem witness_DemandIsTakenIntoItsEntry :
    (faulted.TableLaw ∧ faulted.released = true ∧ faulted.cl.image = some typical ∧ (0 : Addr) ≠ faulted.cl.address ∧
      (faulted.demandToggles ⟨0, .control, 8⟩ ⟨#[3, 0x1F, 1, 0, 0, 0, 0, 0, 0, 0], rfl⟩).restore = true ∧
      (typical.pan .b).present = true ∧ faulted.downSensor .b = true) ∧
    (faulted.demandToggles ⟨0, .control, 8⟩ announcing).report = true ∧
    (faulted.demandToggles ⟨0, .control, 8⟩ announcing).clear = true ∧
    ((after (.demandReceived ⟨0, .control, 8⟩ announcing) faulted).pv.force.sect = some ⟨4, 700, 200, .ac25⟩ ∧
      (demandEntry faulted.pv.table ⟨0, .control, 8⟩ announcing).active.isSome = true ∧ faulted.cc.phase = .normal ∧
      faulted.cc.current = none ∧ faulted.cc.pendingSec = none ∧ faulted.pv.learning = false ∧
      (let s : State := { faulted with pv := { faulted.pv with learning := true } }
      s.pv.learning = true ∧ s.cc.phase = .normal ∧
        (after (.demandReceived ⟨0, .control, 8⟩ announcing) s).pv.force.sect = some ⟨4, 700, 200, .ac25⟩)) ∧
    (latched.NoNewCause typical ∧ latched.SensorsCalm ∧ latched.cc.phase ≠ .aborted ∧ latched.TableLaw ∧
      (latched.demandToggles ⟨0, .control, 8⟩ ⟨#[3, 0x1F, 1, 0, 0, 0, 0, 0, 0, 0], rfl⟩).restore = true ∧
      latched.ds.latch.lineLost = true ∧ latched.ds.cause.lineLost = false ∧ latched.ds.latch.arcSevere = true ∧
      latched.ds.cause.arcSevere = true ∧ (typical.autoRestore = false ∨ typical.delayCode ≠ 0) ∧
      latched.ds.latch.controlSilent = true ∧ latched.pv.learning = false) := by
  refine ⟨⟨⟨by decide +kernel, by decide +kernel, by decide⟩, by decide +kernel⟩, by decide +kernel, by decide +kernel,
    by decide +kernel, ⟨?_, ?_, by decide, ⟨by decide +kernel, by decide +kernel, by decide⟩, by decide +kernel⟩⟩
  · exact ⟨fun h => absurd h (by decide), fun h => absurd h (by decide), fun h => absurd h (by decide), fun _ => rfl⟩
  · intro p
    cases p <;> decide

/-- R163 by hand: of the latches of `latched` its RESTORE leaves ARC_SEVERE, whose cause is active, and clears the AIR_LOSS of
B, in FAULT on its DOWN sensor with air, with the others; with the loop open EMERGENCY stays too. -/
theorem test_restore_clears_latches :
    (after restoreDemand latched).ds.latch = { DropSet.empty with arcSevere := true } ∧
    (after restoreDemand { latched with ioc := { latched.ioc with levels := { latched.ioc.levels with eloop := false } } }).ds.latch =
      { DropSet.empty with arcSevere := true, emergency := true } := by decide +kernel

/-- R101, R102, R106, R107 by hand: with both pantographs DOWN and the train's End 2 leading, section 4 takes B (AC) as the
next collecting one; e_min is its lead distance 400 - 310, so leg 1 is (700 + 90 - 600) x 4 pulses. -/
theorem test_new_section_is_armed :
    let t := after (.demandReceived ⟨0, .control, 8⟩ announcing)
      { faulted with pcB := .reset true, ioc := { faulted.ioc with view := .end2 } }
    t.cc.phase = .armed ∧ t.cc.nextPan = some .b ∧ t.cc.countdown = .running .one 760 ∧ t.cc.leg2 = 2400 ∧
    t.cc.leg3 = 1000 := by decide +kernel

theorem witness_DemandInForceIsFormedFromActiveEntries :
    let e (a : Addr) (up : Bool) (sect : Option SectionRecord) : Entry :=
      ⟨a, .valid, 0, 0, none, .control ⟨⟨true, up, false, .any, none, sect⟩, none⟩⟩
    let two := [e 0 true (some ⟨1, 300, 100, .dc3⟩), e 1 false (some ⟨2, 300, 90, .ac25⟩)]
    (activeEntries idle.pv.table).length = 0 ∧ (activeEntries [e 0 true none]).length = 1 ∧
    (activeEntries two).length = 2 ∧ (tableAddrs two).Pairwise (· < ·) ∧
    ({ PV.reset with table := two } : PV).form.force.sect = some ⟨1, 300, 100, .unknown⟩ := by decide

/-- A header of a roof station's frame. -/
def fromPeer : RxHeader := ⟨3, .roof, 7⟩

/-- A VALID roof entry of station 3 with a heard claim of serial 9, a LEARNING entry of control node 6 and a LOST one of 9,
each with its time at its limit; 10, 11 and 12 are the same short of it. -/
def peers : State :=
  { idle with
    pv := { idle.pv with
      table := [⟨3, .valid, 5, 1520, none, .roof { RoofData.fresh with claim := some ⟨9, .raise, .b, 20, 0, 300, 801⟩ }⟩,
        ⟨6, .learning, 0, 1500, none, .control .fresh⟩, ⟨9, .lost, 0, 1600, some 2000, .roof .fresh⟩,
        ⟨10, .valid, 5, 1519, none, .roof { RoofData.fresh with claim := some ⟨9, .raise, .b, 20, 0, 300, 800⟩ }⟩,
        ⟨11, .learning, 0, 1499, none, .control .fresh⟩, ⟨12, .lost, 0, 1600, some 1999, .roof .fresh⟩] } }

theorem witness_StatusRefreshesItsEntry :
    peers.released = true ∧ peers.cl.image = some typical ∧ fromPeer.src ≠ peers.cl.address ∧ fromPeer.kind = .roof ∧
    (findEntry peers.pv.table fromPeer.src).isSome = true ∧ (findEntry peers.pv.table 4).isNone = true ∧
    ((findEntry peers.pv.table 6).any fun e => e.body.kind = .control) = true := by decide

theorem witness_ClaimsAreHeardAndWithdrawn :
    peers.released = true ∧ peers.cl.image = some typical ∧ fromPeer.src ≠ peers.cl.address ∧ fromPeer.kind = .roof ∧
    (List.replicate 28 (0 : Byte)).length ≤ 28 := by decide

/-- R60, R62, R64 by hand on L 400: undefined state, connection and set codes read UP, COLLECTING and BOTH, a position of 4095
reads 400; a CLAIM of kind 0 or pantograph 2 is none; an expected code 9 is ANY, an undefined ice mode leaves AUTO, a distance
of 9000 is 8000, a length of 9 is 10, and a length of 0 or a next system of ANY is no section. -/
theorem test_mended_payloads :
    panRecordOf 400 0xFD 0xFF 0xFF = ⟨true, 400, .both, .up, true, false⟩ ∧
    panRecordOf 400 0x01 0x10 0x96 = ⟨true, 150, .ac, .down, false, false⟩ ∧
    claimContent 400 ⟨#[18, 1, 1, 1, 244, 0, 30, 80], rfl⟩ = some ⟨18, .raise, .b, 400, 30, 800, 0⟩ ∧
    claimContent 400 ⟨#[18, 0, 1, 0, 150, 0, 0, 30], rfl⟩ = none ∧
    claimContent 400 ⟨#[18, 1, 2, 0, 150, 0, 0, 30], rfl⟩ = none ∧
    demandContent (some .auto) ⟨#[3, 0x39, 0, 0, 4, 0x23, 0x28, 0, 9, 2], rfl⟩ =
      ⟨true, true, false, .any, some .auto, some ⟨4, 8000, 10, .ac25⟩⟩ ∧
    (demandContent none ⟨#[7, 0x12, 0, 0, 4, 0, 100, 0, 0, 2], rfl⟩) = ⟨true, true, true, .sys .ac25, some .auto, none⟩ ∧
    (demandContent none ⟨#[1, 0x12, 0, 0, 4, 0, 100, 0, 50, 6], rfl⟩).sect = none := by decide +kernel

theorem witness_FramesAreTurnedAway :
    idle.released = true ∧ (5 : Addr) = idle.cl.address ∧ idle.lau.onLine = none ∧ (3 : Addr) ≠ idle.cl.address ∧
    NodeKind.roof ≠ .control ∧ reading.released = true ∧ reading.cl.image = none ∧
    ({ LAU.reset with periodErrors := 15 } : LAU).periodErrors = 15 := by decide

theorem witness_EntriesEndByTheirAges :
    peers.released = true ∧ peers.cl.image = some typical ∧
    ((findEntry peers.pv.table 3).map fun e => (e.state, e.lostOver typical, e.claimOver)) = some (.valid, true, true) ∧
    ((findEntry peers.pv.table 6).map fun e => (e.state, e.windowOver typical)) = some (.learning, true) ∧
    ((findEntry peers.pv.table 9).map fun e => (e.state, e.holdOver)) = some (.lost, true) ∧
    ((findEntry peers.pv.table 10).map fun e => (e.state, e.lostOver typical, e.claimOver)) = some (.valid, false, false) ∧
    ((findEntry peers.pv.table 11).map fun e => (e.state, e.windowOver typical)) = some (.learning, false) ∧
    ((findEntry peers.pv.table 12).map fun e => (e.state, e.holdOver)) = some (.lost, false) := by decide

theorem witness_SilenceAndTheEndOfLearning :
    idle.released = true ∧ idle.cl.image = some typical ∧ idle.pv.silence = .running 0 ∧
    typical.masks.controlSilent = true ∧ idle.ds.cause.controlSilent = false ∧ idle.ds.latch.controlSilent = false ∧
    ({ idle.pv with learningT := some 0 } : PV).learningT.isSome = true := by decide

theorem witness_PeerTableAndDemandInForceStand : faulted.TableLaw ∧ faulted.DemandLaw :=
  ⟨⟨by decide +kernel, by decide +kernel, by decide⟩, rfl⟩

theorem witness_RanksOrderDifferentPantographs :
    let x : Seen := ⟨true, 0, 10, 1, .a⟩
    let y : Seen := ⟨true, 0, 10, 1, .b⟩
    let z : Seen := ⟨false, 0, 10, 0, .a⟩
    panAhead x y = true ∧ panAhead y z = true ∧ heatAhead x y = true ∧ heatAhead y z = true := by decide

/-- CLEARING on a collecting pantograph, with a claim in HOLDING of kind SCRAPE for B or HEAT for A. -/
def clearing (k : ClaimKind) : State :=
  { collecting with
    icu := { ICU.reset with mode := .forced, state := .clearing }
    pv := { idle.pv with force := { DemandInForce.absent with ice := some .forced } }
    ioc := { idle.ioc with levels := ⟨true, false, false, true, true, true, true, true, true⟩, ambient := some 0 }
    au := { collecting.au with
      scrape := if k = .scrape then some .b else none
      heat := if k = .heat then some ⟨.a, 30⟩ else none
      claim := .holding, serial := 1, holdOffT := some 300
      body := some (if k = .heat then ⟨.heat, .a, 296, 30, 300⟩ else ⟨.scrape, .b, 310, 0, 300⟩) } }

/-- A RAISE want for A waits; the serial of the last claim was 255. -/
def wanting : State :=
  { granted with au := { granted.au with claim := .waiting, body := none, holdOffT := none, retestT := some 1000, serial := 255 } }

theorem witness_ReTestAndRetryRunTheClaimTest :
    (let s : State := { granted with au := { granted.au with retestT := some 1000, retryT := some 1 } }
     s.released = true ∧ s.cl.image.isSome = true ∧ s.au.retestT.isSome = true ∧ s.au.retryT.isSome = true) ∧
    (let s : State := { wanting with pending := [.reTestTimerExpiry] }
     ∃ t, step s = .next t ∧ s.released = true ∧ t.released = true ∧ t.au.serial ≠ s.au.serial ∧
      s.au.claimOpen = false ∧ t.au.claimOpen = true ∧ t.au.serial = 0 ∧
      t.lau.clSlot = some ⟨⟨0, .raise, .a, 296, 0, 30⟩, 0, none⟩) ∧
    (let s : State := { wanting with pending := [.levelAccepted .brkFb true] }
     ∃ t, step s = .next t ∧ s.pending = [.levelAccepted .brkFb true] ∧ t.released = true ∧ t.cl.image.isSome = true ∧
      t.testInputs ≠ s.testInputs) := by
  refine ⟨by decide, ⟨after .reTestTimerExpiry wanting, rfl, ?_⟩, ⟨after (.levelAccepted .brkFb true) wanting, rfl, ?_⟩⟩ <;>
    decide +kernel

theorem witness_AdmissionTestHasFourConditions :
    (granted.TableLaw ∧ granted.pcA.state = .down) ∧
    (granted.permitted ⟨.raise, .a, 0⟩ = true ∧ (clearing .scrape).permitted ⟨.scrape, .b, 0⟩ = true) ∧
    ((clearing .heat).permitted ⟨.heat, .a, 30⟩ = true ∧ (clearing .heat).cl.image = some typical ∧
      (clearing .heat).HeaterLaw ∧ 30 = typical.rating .a) :=
  ⟨⟨⟨by decide +kernel, by decide +kernel, by decide⟩, rfl⟩, by decide +kernel, by decide +kernel, rfl,
    ⟨rfl, fun _ => ⟨rfl, rfl, rfl⟩⟩, rfl⟩

/-- R80's two cases: draws of 30, 30 and 60, a heard HEAT claim of 30 ahead and one behind give 180, which passes under 240; a
fourth draw of 90 gives 270, which fails. -/
theorem test_heat_budget :
    let peer (a : Addr) (draw : Nat) (claim : Option HeardClaim) : Entry :=
      ⟨a, .valid, 0, 0, none, .roof { RoofData.fresh with draw := draw, claim := claim }⟩
    let s (more : List Entry) : State := { clearing .heat with
      pv := { (clearing .heat).pv with
        table := [peer 1 30 (some ⟨1, .heat, .a, 300, 30, 300, 0⟩), peer 2 30 (some ⟨1, .heat, .a, 20, 30, 300, 0⟩),
          peer 3 60 none] ++ more } }
    (s []).heatSum typical ((s []).ownSeen typical .a true) 30 = 180 ∧ (s []).passes typical ⟨.heat, .a, 30⟩ = true ∧
    (s [peer 4 90 none]).heatSum typical ((s []).ownSeen typical .a true) 30 = 270 ∧
    (s [peer 4 90 none]).passes typical ⟨.heat, .a, 30⟩ = false := by decide +kernel

/-- Another collecting pantograph of the train stands too near under the profile of one collecting head. -/
def crowded : State :=
  { granted with
    au := { granted.au with group := .any, profile := none }
    pv := { granted.pv with table := [⟨3, .valid, 0, 0, none,
      .roof { RoofData.fresh with recA := some ⟨true, 100, .dc, .up, true, false⟩, recB := some ⟨false, 0, .ac, .down, false, false⟩ }⟩] } }

theorem witness_HoldOffWithdrawsOrIsRefused :
    (idle.au.claim ≠ .holding ∧ idle.cl.image = some typical) ∧
    (∃ im h, crowded.cl.image = some im ∧ crowded.au.claim = .holding ∧ crowded.au.head = some h ∧
      crowded.passes im h = false ∧ crowded.lau.clSlot = none) ∧
    (∃ im h, ({ granted with bi := { granted.bi with closed := true } } : State).cl.image = some im ∧
      granted.au.claim = .holding ∧ granted.au.head = some h ∧
      ({ granted with bi := { granted.bi with closed := true } } : State).passes im h = true ∧
      ({ granted with bi := { granted.bi with closed := true } } : State).taken h = false) := by
  refine ⟨by decide, ⟨_, _, rfl, rfl, rfl, ?_, rfl⟩, ⟨_, _, rfl, rfl, rfl, ?_, ?_⟩⟩ <;> decide +kernel

theorem calm_of (s : State)
    (ha : s.pcA.risingOrUp = true → s.airOk .a = true ∧ s.downSensor .a = false ∧
      (s.pcA.state = .rising → s.upSensor .a = false) ∧ s.pcA.lowering = none)
    (hb : s.pcB.risingOrUp = true → s.airOk .b = true ∧ s.downSensor .b = false ∧
      (s.pcB.state = .rising → s.upSensor .b = false) ∧ s.pcB.lowering = none) : s.SensorsCalm := by
  intro p
  cases p
  · exact ha
  · exact hb

/-- `clearing` with A isolated in a running scrape pass beside a collecting B, and the HEAT claim for A. -/
def isolatedHeat : State :=
  { clearing .heat with
    pcA := upPc false
    pcB := upPc true
    icu := { (clearing .heat).icu with scrape := some .a, scrapeCount := some 5 }
    lq := { LQ.reset with q := .ac25 }
    ioc := { (clearing .heat).ioc with levels := ⟨true, false, true, false, true, true, true, true, true⟩ } }

/-- R30 by the typical numbers: a DC pantograph collects at 90 N and at 110 N while clearing on a DC line, an AC one at 70 N and
at 90 N, a clearing on a line outside its set adds nothing, a scrape is at 50 N and a SOFT-RAMP at 0. -/
theorem test_force_targets :
    let ice (s : State) (q : LineClass) : State := { s with
      lq := { LQ.reset with q := q }
      bi := collecting.bi
      icu := { ICU.reset with mode := .forced, state := .clearing }
      pv := { idle.pv with force := { DemandInForce.absent with ice := some .forced } } }
    let b : State := { idle with
      pcB := upPc true, ioc := { idle.ioc with levels := ⟨false, true, true, false, true, true, true, true, true⟩ } }
    (after .rampTick collecting).pcA.target = 90 ∧ (after .rampTick (ice collecting .dc3)).pcA.target = 110 ∧
    (after .rampTick (ice collecting .ac25)).pcA.target = 90 ∧
    (after .rampTick b).pcB.target = 70 ∧ (after .rampTick (ice b .ac25)).pcB.target = 90 ∧
    (after .rampTick isolatedHeat).pcA.target = 50 ∧
    (after .rampTick { lowered .softRamp 50 with pcA := { (lowered .softRamp 50).pcA with target := 90 } }).pcA.target = 0 := by
  decide +kernel

/-- The law of the hold-open set with nothing lowered, nothing in FAULT and no entry. -/
theorem hold_of (s : State)
    (pans : ∀ p, (s.pc p).holdsOpen = false ∧ (s.pc p).state ≠ .fault ∧ s.bi.hold.pan p = false)
    (rest : (s.bi.hold.cc = true ↔ s.cc.phase ≠ .normal ∧ s.cc.phase ≠ .armed ∧ s.cc.phase ≠ .closing) ∧
      (s.bi.hold.ds = true ↔ s.ds.latch ≠ .empty) ∧ (s.bi.hold.cl = true ↔ s.cl.image = none) ∧
      (s.cl.image.isSome = true → s.cl.read = none ∧ s.cl.retryT = none)) : s.HoldOpenLaw where
  lowered p _ h := by simp [pans p] at h
  down p _ _ := (pans p).2.2
  fault p _ h := absurd h (pans p).2.1
  member p _ h := by simp [pans p] at h
  cc := rest.1
  ds := rest.2.1
  cl := rest.2.2.1
  loader := rest.2.2.2

/-- `clearing` with the SCRAPE claim for a pantograph that has kept its DISC. -/
def discScrape : State :=
  { clearing .scrape with
    pcB := { (clearing .scrape).pcB with disc := true }
    lq := { (clearing .scrape).lq with index := 9 } }

theorem quiet_of (s : State) (im : Image) (silent : s.pv.silence ≠ .expired) (wrong : s.wrongSystemCause im = false)
    (lost : s.lineLostCause im = false) (sum : s.icu.arcSum < im.tSevere)
    (after : (s.icu.advance im.tClear).arcSum < im.tSevere) : s.NoNewCause im :=
  ⟨fun h => absurd h silent, fun h => by simp [wrong] at h, fun h => by simp [lost] at h, fun h => by omega⟩

theorem witness_GrantsRaiseOrHeat :
    (granted.cl.image = some typical ∧ granted.au.claim = .holding ∧ granted.SensorsCalm ∧ granted.NoNewCause typical ∧
      ∃ h, granted.au.head = some h ∧ granted.passes typical h = true ∧ granted.taken h = true ∧ h.kind = .raise ∧
        granted.upSensor h.pan = false ∧ granted.icu.scrape = none) ∧
    ((clearing .scrape).SensorsCalm ∧ (clearing .scrape).IceStands typical ∧ (clearing .scrape).NoNewCause typical ∧
      ∃ h, (clearing .scrape).au.head = some h ∧ (clearing .scrape).passes typical h = true ∧
        (clearing .scrape).taken h = true ∧ h.kind = .scrape ∧ (clearing .scrape).upSensor h.pan = false ∧
        ((clearing .scrape).pc h.pan).disc = false ∧ (clearing .scrape).icu.scrape = none) ∧
    (discScrape.SensorsCalm ∧ discScrape.IceStands typical ∧ discScrape.NoNewCause typical ∧
      ∃ h, discScrape.au.head = some h ∧ discScrape.passes typical h = true ∧ discScrape.taken h = true ∧
        h.kind = .scrape ∧ discScrape.upSensor h.pan = false ∧ (discScrape.pc h.pan).disc = true ∧
        discScrape.icu.scrape = none ∧ 0 < discScrape.lq.index ∧
        ¬(discScrape.icu.mode = .auto ∧ 16 ≤ (discScrape.icu.advance typical.tClear).clearStreak)) ∧
    isolatedHeat.icu.scrape = some .a ∧
    (∀ s, (s = clearing .heat ∨ s = isolatedHeat) →
      s.HoldOpenLaw ∧ s.OneCollecting ∧ s.SensorsCalm ∧ s.IceStands typical ∧ s.NoNewCause typical ∧
      s.cl.image = some typical ∧ s.au.claim = .holding ∧ s.cc.nextPan = none ∧
      (∀ q, s.icu.scrape = some q →
        (s.pc q).risingOrUp = true ∧ (s.pc q.other).upCollecting = true ∧ s.cc.phase = .normal) ∧
      ∃ h, s.au.head = some h ∧ s.passes typical h = true ∧ s.taken h = true ∧ h.kind = .heat ∧
        ((s.pc h.pan).disc = true ∨ ((s.pc h.pan.other).upCollecting = true ∧ s.cc.phase = .normal))) := by
  refine ⟨⟨rfl, rfl, calm_of _ (by decide) (by decide),
      quiet_of _ _ (by decide) (by decide) (by decide) (by decide) (by decide), _, rfl, ?_⟩,
    ⟨calm_of _ (by decide) (by decide), ?_, quiet_of _ _ (by decide) (by decide) (by decide) (by decide) (by decide), _,
      rfl, ?_⟩,
    ⟨calm_of _ (by decide) (by decide), ?_, quiet_of _ _ (by decide) (by decide) (by decide) (by decide) (by decide), _,
      rfl, ?_⟩, rfl, ?_⟩
  · decide +kernel
  · unfold State.IceStands; decide +kernel
  · decide +kernel
  · unfold State.IceStands; decide +kernel
  · decide +kernel
  · rintro s (rfl | rfl)
    · refine ⟨hold_of _ (by intro p; cases p <;> decide) (by decide), by unfold State.OneCollecting; decide,
        calm_of _ (by decide) (by decide), ?_, quiet_of _ _ (by decide) (by decide) (by decide) (by decide) (by decide), rfl,
        rfl, rfl, (fun _ h => nomatch h), _, rfl, ?_⟩
      · unfold State.IceStands; decide +kernel
      · decide +kernel
    · refine ⟨hold_of _ (by intro p; cases p <;> decide) (by decide), by unfold State.OneCollecting; decide,
        calm_of _ (by decide) (by decide), ?_, quiet_of _ _ (by decide) (by decide) (by decide) (by decide) (by decide), rfl,
        rfl, rfl, fun _ h => by cases h; decide, _, rfl, ?_⟩
      · unfold State.IceStands; decide +kernel
      · decide +kernel

/-- R92, R140, R142 by hand: a HEAT claim for the isolated A is granted while its scrape pass runs. -/
theorem test_heat_beside_a_running_pass :
    let t := after .holdOffExpiry isolatedHeat
    t.icu.heaterA = true ∧ t.icu.draw = 30 ∧ t.icu.scrape = some .a := by decide +kernel

theorem witness_LateConflictLowersThePantograph :
    let s : State := { scraping with au := { scraping.au with graceA := some 500, graceB := some 500 } }
    s.released = true ∧ s.SensorsCalm ∧
    (s.acts .a = true ∧ (s.au.grace .a).isSome = true ∧ s.pcA.risingOrUp = true ∧ s.pcA.disc = true ∧ s.bi.closed = true) ∧
    (s.acts .b = true ∧ (s.au.grace .b).isSome = true ∧ s.pcB.risingOrUp = true ∧ s.pcB.disc = false) ∧
    (∀ n, let u : State := { s with pcA := { s.pcA with fset := n }, bi := { s.bi with closed := false } }
      u.SensorsCalm ∧ u.bi.closed = false ∧ u.pcA.fset = n) :=
  ⟨rfl, calm_of _ (by decide) (by decide), by decide, by decide, fun _ =>
    ⟨calm_of _ (fun _ => ⟨rfl, rfl, nofun, rfl⟩) (fun _ => ⟨rfl, rfl, nofun, rfl⟩), rfl, rfl⟩⟩

/-- Section 4.10 at station 3, with the positions of section 4.9: 3B (p 150) is UP and COLLECTING on AC25 under profile 1, 7B
(p 370) too, and a bucket closes that makes the speed 0.9 × `pulses` km/h. -/
def tightening (pulses : Nat) : State :=
  { idle with
    pcB := upPc true
    lq := { LQ.reset with q := .ac25 }
    pv := ({ governed with table := governed.table ++ [⟨7, .valid, 0, 0, none,
      .roof { RoofData.fresh with
        recA := some ⟨true, 356, .dc, .down, false, false⟩, recB := some ⟨true, 370, .ac, .up, true, false⟩ }⟩] } : PV).form
    au := { AU.reset with group := .ac, profile := some 1 }
    bi := ⟨⟨false, false, false, false, false⟩, true, true, none, false⟩
    ioc := { idle.ioc with
      speed := 300, bucket := pulses, view := .end1, levels := ⟨false, true, true, false, true, true, true, true, true⟩ }
    cl := { idle.cl with
      address := 3
      image := some { typical with panA := ⟨true, some .dc, 136, 90, 30⟩, panB := ⟨true, some .ac, 150, 70, 30⟩ } } }

theorem witness_GraceTimerFollowsTheConflict : (tightening 334).HeldLaw ∧ (tightening 334).ConflictLaw := by
  refine ⟨held_of_released rfl, fun p => ⟨fun h => ?_, ?_⟩⟩
  · cases p <;> cases h
  · rintro ⟨im, h, c⟩
    cases h
    cases p <;> exact absurd c (by decide +kernel)

/-- Section 4.10: at 301 km/h profile 3 comes into force and the grace timer of 3B starts; at 300 km/h, 220 m from 7B,
neither. -/
theorem test_speed_tightens_the_profile :
    let t := after .bucketClose (tightening 335)
    let u := after .bucketClose (tightening 334)
    t.ioc.speed = 301 ∧ t.au.profile = some 3 ∧ t.au.graceB = Timer.started ∧ t.au.graceA = none ∧
    u.ioc.speed = 300 ∧ u.au.profile = some 1 ∧ u.au.graceB = none := by decide +kernel

theorem witness_OpenClaimBelongsToAStandingWant : granted.HeldLaw ∧ granted.ClaimLaw := by
  refine ⟨held_of_released rfl, ⟨rfl, by decide, ?_, fun _ h => nomatch h⟩⟩
  intro b h
  cases h
  exact ⟨_, rfl⟩

/-- The amount of a standing HEAT want is the typical rating of 30. -/
theorem witness_HeatWantHasItsRating : (clearing .heat).HeldLaw ∧ (clearing .heat).ClaimLaw := by
  refine ⟨held_of_released rfl, ⟨rfl, by decide, ?_, ?_⟩⟩ <;> intro b h <;> cases h
  · rfl
  · exact ⟨typical, rfl, rfl⟩

theorem witness_ProfileAndAlertsAreFormedAfresh : collecting.HeldLaw ∧ collecting.AdmissionLaw ∧ collecting.AlertLaw := by
  refine ⟨held_of_released rfl, ⟨?_, ?_, ?_⟩, ⟨by decide +kernel, by decide +kernel⟩⟩
  · intro im h
    cases h
    decide +kernel
  · intro im h
    cases h
    decide +kernel
  · intro im h e
    exact absurd rfl e

/-- R72 to R74 by the table of the typical image: 250 km/h is profile 1 for AC, 2 for DC and none for ANY; 350 is 3 for all. -/
theorem test_typical_profiles :
    profileLookup typical 250 .ac = some 1 ∧ profileLookup typical 250 .dc = some 2 ∧
    profileLookup typical 250 .any = none ∧ profileLookup typical 200 .any = some 0 ∧
    profileLookup typical 350 .any = some 3 ∧
    ({ idle with pv := { idle.pv with force := { DemandInForce.absent with expected := some (.sys .ac15) } } } : State).profileGroup = .ac := by
  decide

/-- R183, R184 at the typical levels and threshold 2: kinds 4 and 5 share level 1 and the lower number is the top alert; kind 7
(level 2) lights the lamp, kind 8 (level 3) does not. -/
theorem test_top_alert_and_lamp :
    ((topAlert (some typical) 0x0130#16).map fun a => (a.1.number, a.2)) = some (4, 1) ∧
    ((topAlert (some { typical with enables := 0xFFEF#16 }) 0x0130#16).map fun a => (a.1.number, a.2)) = some (5, 1) ∧
    ((topAlert (some typical) 0x0180#16).map fun a => (a.1.number, a.2)) = some (7, 2) ∧
    lampOf (some typical) (topAlert (some typical) 0x0180#16) = true ∧
    lampOf (some typical) (topAlert (some typical) 0x0100#16) = false ∧ topAlert (some typical) 0 = none := by decide +kernel

/-- ARMED with leg 1 running to its last pulses; B is the next collecting pantograph. -/
def armed (n : Nat) : State :=
  { collecting with
    cc := { CC.reset with
      phase := .armed, current := some ⟨4, 700, 200, .ac25, true⟩, nextPan := some .b, leg2 := 2400, leg3 := 1000
      countdown := .running .one n } }

theorem witness_OdometerPulseAdvancesTheTrain :
    (armed 2).released = true ∧ true ≠ (armed 2).odoInverted ∧ false = (armed 2).odoInverted ∧
    (armed 2).ioc.lastOdo = none ∧ (armed 2).cl.image = some typical ∧ (armed 2).cc.phase = .armed ∧
    (armed 2).cc.nextPan = some .b ∧ (armed 2).Sound .b ∧ (armed 2).cc.countdown = .running .one 2 ∧
    (armed 2).ioc.remainder + 1 < typical.ppm ∧
    typical.ppm ≤ ({ (armed 2).ioc with remainder := 3 } : IOC).remainder + 1 ∧
    (armed 1).Sound .b ∧ (armed 1).cc.countdown = .running .one 1 ∧ (armed 1).bi.closed = true ∧
    (∀ leg n, (leg = .two ∨ leg = .three) → (n = 1 ∨ n = 2) →
      let s : State := { armed 2 with cc := { (armed 2).cc with phase := .coasting, countdown := .running leg n } }
      s.cc.phase = .coasting ∧ s.cc.nextPan = some .b ∧ s.Sound .b ∧ leg ≠ .one) := by
  refine ⟨rfl, by decide, by decide, rfl, rfl, rfl, rfl, ?_, rfl, by decide, by decide, ?_, rfl, rfl, ?_⟩
  · unfold State.Sound; decide
  · unfold State.Sound; decide
  · rintro leg n (rfl | rfl) (rfl | rfl) <;> exact ⟨rfl, rfl, by unfold State.Sound; decide, by decide⟩

/-- The end of leg 1 with B DOWN, and A UP as the next collecting one; the set-up of a section that B fits, that none fits, and
that the collecting A fits; a demand in each phase with a new, the current and the pending section. -/
theorem witness_Leg1EndOpensTheBreaker :
    ((armed 1).released = true ∧ (armed 1).cl.image = some typical ∧ (armed 1).cc.phase = .armed ∧
      (armed 1).cc.countdown = .running .one 1 ∧ (armed 1).cc.nextPan = some .b ∧ (armed 1).Sound .b ∧
      (armed 1).Sound .a ∧ (armed 1).bi.closed = true ∧ idle.bi.closed = false ∧ idle.pv.learning = false ∧
      timed.pv.learningT.isSome = true ∧ ({ idle.pv with learning := true } : PV).learning = true ∧
      (armed 2).cc.countdown = .running .one 2) ∧
    (collecting.chooseNext typical .ac25 = some .b ∧ collecting.chooseNext typical .unknown = none ∧
      collecting.chooseNext typical .dc3 = some .a ∧ collecting.pcA.raisedCollecting = true ∧
      idle.pcA.raisedCollecting = false ∧ idle.pcB.raisedCollecting = false) ∧
    ((armed 1).cc.currentId = some 4 ∧ (armed 1).cc.pendingId = none ∧ (armed 1).cc.pendingId ≠ some 5 ∧
      ({ (armed 1).cc with phase := .aborted } : CC).phase = .aborted ∧
      ({ CC.reset with pendingSec := some ⟨⟨5, 100, 50, .dc3⟩, 0⟩ } : CC).pendingId = some 5 ∧ idle.cc.phase = .normal) := by
  unfold State.Sound
  decide

/-- R102: a record that is taken before the end of leg 1 starts leg 1 again, and the end that follows it does nothing; taken
alone, the end opens. -/
theorem test_record_before_the_end_of_leg_1 :
    let s := (armed 1).setUp typical ⟨5, 700, 200, .ac25, true⟩
    let t := after .leg1End s
    t.cc.phase = .armed ∧ t.cc.countdown = s.cc.countdown ∧ t.cc.currentId = some 5 ∧
    (after .leg1End (armed 1)).cc.phase = .opening := by decide +kernel

/-- R123 (log 40): id 0 with a RESTORE in ABORTED discards the failed section and takes the pending one up. -/
theorem test_id_0_with_restore_in_aborted :
    let s : State := { armed 1 with
      cc := { (armed 1).cc with phase := .aborted, countdown := .stopped, pendingSec := some ⟨⟨5, 700, 200, .ac25⟩, 0⟩ } }
    let t := s.ccDemand typical { DemandInForce.absent with presence := .governing } true
    t.cc.phase = .armed ∧ t.cc.currentId = some 5 ∧ t.cc.pendingSec = none := by decide +kernel

/-- R82, R117: in REQUALIFY under a demand in force of NONE a standing DEMAND want becomes no CHANGEOVER want and makes no
claim; under a governing demand UP it does both. -/
theorem test_changeover_want_needs_a_governing_demand :
    let s (pv : PV) : State := { idle with
      pv := pv
      au := { idle.au with raise := some ⟨.a, .demand⟩, claim := .waiting, retestT := some 1000 }
      cc := { CC.reset with
        phase := .requalify, countdown := .ended, nextPan := some .a, current := some ⟨4, 0, 200, .dc3, true⟩ } }
    (after .reTestTimerExpiry (s idle.pv)).au.raise = some ⟨.a, .demand⟩ ∧
    (after .reTestTimerExpiry (s idle.pv)).au.claim = .waiting ∧
    (after .reTestTimerExpiry (s governed)).au.raise = some ⟨.a, .changeover⟩ ∧
    (after .reTestTimerExpiry (s governed)).au.claim = .sent := by decide +kernel

theorem witness_Leg2EndForcesTheDrop :
    let stowing (closed : Bool) (next : LineClass) (phase : Phase) (leg3 : Int) : State := { opening with
      bi := { opening.bi with closed := closed }
      cc := { opening.cc with phase := phase, leg3 := leg3, current := some ⟨4, 0, 200, next, true⟩ } }
    (opening.released = true ∧ opening.cl.image = some typical ∧ opening.cc.countdown = .running .two 1 ∧
      opening.cc.phase = .opening ∧ opening.bi.closed = true ∧ opening.pcA.risingOrUp = true ∧
      opening.cc.nextPan = some .b ∧ opening.Sound .b) ∧
    ((stowing false .ac25 .stowing 0).cc.countdown = .running .two 1 ∧
      (stowing false .ac25 .stowing 0).lateStowing .a = true) ∧
    ((stowing false .dc3 .opening 0).lateStowing .a = false ∧ (stowing false .dc3 .opening 0).lateStowing .b = false ∧
      (stowing false .dc3 .opening 0).bi.closed = false ∧ (stowing true .dc3 .stowing 0).lateStowing .a = false ∧
      (stowing true .dc3 .stowing 0).lateStowing .b = false) ∧
    ((stowing false .dc3 .coasting 0).cc.phase = .coasting ∧ (stowing false .dc3 .coasting 0).cc.leg3 ≤ 0 ∧
      0 < (stowing false .dc3 .coasting 1).cc.leg3) ∧
    (∀ phase, phase = .opening ∨ phase = .stowing ∨ phase = .coasting →
      let s : State := { collecting with
        bi := { opening.bi with closed := false }
        cc := { opening.cc with phase := phase, leg3 := 1, current := some ⟨4, 0, 200, .dc3, true⟩ } }
      s.SensorsCalm ∧ s.NoNewCause typical ∧ s.icu.scrape = none ∧ (∀ p, s.lateStowing p = false) ∧
        s.pcA.risingOrUp = true ∧ s.pcA.disc = true) := by
  unfold State.Sound
  refine ⟨by decide +kernel, by decide +kernel, by decide +kernel, by decide +kernel, ?_⟩
  rintro phase (rfl | rfl | rfl) <;>
    exact ⟨calm_of _ (by decide) (by decide), quiet_of _ _ (by decide) (by decide) (by decide) (by decide) (by decide), rfl,
      by intro p; cases p <;> decide, rfl, rfl⟩

/-- COASTING at the last pulse of leg 3, and REQUALIFY with its timer running. -/
def coasting : State :=
  { idle with
    cc := { CC.reset with
      phase := .coasting, current := some ⟨4, 0, 200, .ac25, true⟩, nextPan := some .b, countdown := .running .three 1 }
    bi := { idle.bi with hold := ⟨false, false, true, false, false⟩ } }

theorem witness_RequalifyBeginsAndTimesOut :
    (coasting.released = true ∧ coasting.cl.image = some typical ∧ coasting.cc.phase = .coasting ∧
      coasting.cc.countdown = .running .three 1 ∧ coasting.cc.nextPan = some .b ∧ coasting.Sound .b ∧
      coasting.pcB.upCollecting = false ∧ coasting.pcB.state ≠ .rising) ∧
    (let s : State := { coasting with
        pcB := upPc true
        ioc := { idle.ioc with levels := { idle.ioc.levels with upB := true, downB := false } } }
     s.Sound .b ∧ s.pcB.upCollecting = true ∧ s.pcB.lowering = none ∧ s.icu.scrape = none ∧ s.NoNewCause typical) ∧
    (({ coasting.cc with phase := .requalify, rqTimer := some 5999 } : CC).rqTimer.isSome = true ∧
      coasting.acts .b = true) := by
  refine ⟨by unfold State.Sound; decide, ⟨by unfold State.Sound; decide, by decide, by decide, by decide, ?_⟩, by decide⟩
  exact quiet_of _ _ (by decide) (by decide) (by decide) (by decide) (by decide)

/-- An AC25 window at its last sample: 50 Hz by 24 crossings over 2208 samples, and two live results before it. -/
def acWindow : LQ :=
  { LQ.reset with
    index := 2303, s2 := 40002048000, crossings := 24, first := some 10, last := some 2218, cand := some .ac25, candCount := 2 }

/-- A DC3 window at its last sample, by section 1.9's sums. -/
def dcWindow : LQ := { LQ.reset with index := 2303, s1 := 1152000, s2 := 576921600, cand := some .dc3, candCount := 2 }

/-- REQUALIFY for AC25 with B UP and COLLECTING, its timer running and two results counted. -/
def requalifying (q : LQ) : State :=
  { idle with
    pcB := upPc true
    lq := q
    bi := { idle.bi with hold := ⟨false, false, true, false, false⟩ }
    cc := { CC.reset with
      phase := .requalify, current := some ⟨4, 0, 200, .ac25, true⟩, nextPan := some .b, countdown := .ended,
      rqTimer := some 5999, rqCount := 2 }
    ioc := { idle.ioc with levels := { idle.ioc.levels with upB := true, downB := false } } }

/-- CLOSING for AC25 under an EMERGENCY latch. -/
def closingWait (q : LQ) : State :=
  { requalifying q with
    bi := { idle.bi with hold := ⟨false, false, false, true, false⟩ }
    ds := { DS.reset with latch := { DropSet.empty with emergency := true } }
    cc := { (requalifying q).cc with phase := .closing, rqTimer := none } }

theorem witness_WindowEndsJudgeTheLine :
    (∀ s, (s = requalifying acWindow ∨ s = requalifying dcWindow ∨ s = requalifying (windowAt 2303).lq ∨
        s = closingWait (windowAt 2303).lq) →
      s.released = true ∧ s.cl.image = some typical ∧ s.lq.index = 2303 ∧ s.cc.nextPan = some .b ∧
      s.cc.current = some ⟨4, 0, 200, .ac25, true⟩ ∧ s.acts .b = true ∧ s.pcB.state = .up ∧ s.pcB.disc = true ∧
      s.bi.closed = false ∧ s.SensorsCalm ∧ s.NoNewCause typical ∧ s.icu.scrape = none) ∧
    (let next (q : LQ) := (q.take typical.h 0 true).close typical.kq
     (next acWindow).result.cls = .ac25 ∧ typical.kq ≤ (next acWindow).candCount ∧ (next dcWindow).result.cls = .dc3 ∧
      typical.kq ≤ (next dcWindow).candCount ∧ (next (windowAt 2303).lq).result.cls = .dead ∧
      (next (windowAt 2303).lq).q ≠ .ac25 ∧ typical.kq ≤ min 255 ((requalifying acWindow).cc.rqCount + 1)) ∧
    ((requalifying acWindow).cc.rqTimer.isSome = true ∧ (requalifying acWindow).cc.rqCount ≤ 255 ∧
      (requalifying acWindow).cc.pendingSec = none ∧ (requalifying acWindow).OneCollecting ∧
      (requalifying acWindow).ImageLaw ∧ ∃ set, (typical.pan .b).set = some set ∧ set.contains .ac25 = true) ∧
    (let s : State := { requalifying acWindow with
       bi := { idle.bi with hold := ⟨false, false, true, true, false⟩ }, ds := (closingWait acWindow).ds }
     s.ds.latch.emergency = true ∧ s.bi.hold.ds = true) ∧
    ((closingWait acWindow).cc.phase = .closing ∧ (closingWait acWindow).cc.rqTimer = none) := by
  refine ⟨?_, by decide +kernel, ⟨rfl, by decide, rfl, by unfold State.OneCollecting; decide, ?_, .ac, rfl, rfl⟩, ⟨rfl, rfl⟩,
    rfl, rfl⟩
  · rintro s (rfl | rfl | rfl | rfl) <;>
      exact ⟨rfl, rfl, rfl, rfl, rfl, rfl, rfl, rfl, rfl, calm_of _ (by decide) (by decide),
        quiet_of _ _ (by decide) (by decide) (by decide) (by decide) (by decide), rfl⟩
  · intro im h
    cases h
    decide +kernel

/-- R118 to R121 by hand: the next system for the third time gives NORMAL and the permit; another live class ABORTED; a DEAD
window nothing; and in CLOSING a Q that is not the next system falls back. -/
theorem test_requalification :
    (let t := after (.sampleEvent 0 true) (requalifying acWindow)
     t.lq.q = .ac25 ∧ t.cc.phase = .normal ∧ t.bi.permit = true ∧ t.bi.hold = ⟨false, false, false, false, false⟩) ∧
    (let t := after (.sampleEvent 0 true) (requalifying dcWindow)
     t.cc.phase = .aborted ∧ t.al.requested .changeoverFail = true ∧ t.pcB.lowering = some .softRamp) ∧
    (let t := after (.sampleEvent 0 true) (requalifying (windowAt 2303).lq)
     t.cc.phase = .requalify ∧ t.cc.rqCount = 3) ∧
    (let t := after (.sampleEvent 0 true) (closingWait (windowAt 2303).lq)
     t.cc.phase = .requalify ∧ t.bi.hold.cc = true ∧ t.cc.rqTimer = Timer.started) := by decide +kernel

theorem witness_PhasesStandByTheirLaws : coasting.HeldLaw ∧ coasting.PhaseLaw := by
  refine ⟨held_of_released rfl, ?_⟩
  constructor
  case executing => exact fun _ _ => ⟨rfl, .b, rfl, by decide⟩
  case coasting => exact fun _ => ⟨.three, 1, by decide, rfl⟩
  case asked => exact fun _ => ⟨rfl, rfl⟩
  case start => exact fun h => nomatch h
  case rest => exact fun h => absurd h (by decide)
  case ended => exact fun h => absurd h (by decide)
  all_goals exact fun h => nomatch h

theorem witness_ArcEdgeIsRecorded :
    (collecting.released = true ∧ collecting.cl.image = some typical ∧ true ≠ collecting.arcInverted .a ∧
      false = collecting.arcInverted .a ∧ collecting.ioc.lastArc .a = none ∧ collecting.pcA.upCollecting = true ∧
      collecting.pcB.upCollecting = false ∧ (after (.arcEdge .a true 5) collecting).lq = collecting.lq ∧
      (after (.arcEdge .b true 5) collecting).lq = collecting.lq) ∧
    (windowAt 2303).lq.index = 2303 ∧
    (∃ p, (idle.pc p).upCollecting ≠ (collecting.pc p).upCollecting ∧ (idle.pc p).upCollecting = false ∧
      (collecting.pc p).upCollecting = true ∧ (collecting.pc p.other).upCollecting = false) ∧
    (idle.iceOff typical = true ∧ (clearing .heat).iceOff typical = false ∧ (clearing .heat).iceHold = false ∧
      (clearing .heat).icu.state = .clearing ∧
      ({ clearing .heat with bi := { collecting.bi with closed := false } } : State).iceHold = true ∧
      (let s (n sum : Nat) : State := { clearing .heat with
          icu := { (clearing .heat).icu with mode := .auto, clearStreak := n, arcSum := sum } }
       (s 16 6).iceOff typical = false ∧ (s 16 6).iceHold = false ∧ typical.tIce ≤ (s 16 6).icu.arcSum ∧
        (s 16 5).icu.arcSum < typical.tIce ∧ ¬(16 ≤ (s 15 5).icu.clearStreak))) := by
  exact ⟨by decide +kernel, by decide, ⟨.a, by decide⟩, by decide⟩

theorem witness_ScrapePassEndsInTheCooldown :
    (scraping.released = true ∧ scraping.cl.image = some typical ∧ scraping.icu.scrape = some .b ∧
      scraping.icu.scrapeCount = some 1 ∧ scraping.acts .b = true ∧ scraping.pcB.risingOrUp = true ∧
      scraping.pcB.lowering = none ∧ scraping.pcB.disc = false ∧ scraping.downSensor .b = false) ∧
    (idle.released = true ∧ idle.icu.scrape = none ∧ idle.icu.scrapeCount = none ∧ idle.icu.cooldown = none) ∧
    (true ≠ scraping.odoInverted ∧ scraping.ioc.lastOdo = none ∧ true ≠ idle.odoInverted ∧ idle.ioc.lastOdo = none ∧
      ({ scraping.icu with scrapeCount := some 2 } : ICU).scrapeCount = some 2) := by decide

/-- Section 6.9 by hand: the pulse that ends a pass loads the whole cooldown of 5000 m x 4 pulses and does not count in it. -/
theorem test_last_scrape_pulse_keeps_the_cooldown :
    (after (.odometerPulse true 100) scraping).icu.cooldown = some 20000 ∧
    (after (.odometerPulse true 200) { idle with icu := { ICU.reset with cooldown := some 20000 } }).icu.cooldown =
      some 19999 := by decide +kernel

theorem witness_HeaterDrawAndIceStateStandByTheirLaws :
    collecting.OneCollecting ∧ collecting.ImageLaw ∧ collecting.HeaterLaw ∧ collecting.IceLaw := by
  refine ⟨by unfold State.OneCollecting; decide, ?_, ⟨rfl, fun _ => ⟨rfl, rfl, rfl⟩⟩,
    ⟨?_, ?_, ?_, ?_, rfl, ?_, fun _ => rfl, by decide⟩⟩
  · intro im h
    cases h
    decide +kernel
  · intro im _
    exact ⟨fun _ => rfl, fun _ => rfl⟩
  · intro im _ h
    exact absurd (show collecting.iceOff im = true from rfl) (by simp [h])
  · intro im _ h
    exact nomatch h
  · intro im _ h
    exact nomatch h
  · intro im h
    cases h
    decide

theorem witness_RestoreTimerClearsTheMaskableLatches :
    let s : State := { idle with ds := { DS.reset with latch := { DropSet.empty with lineLost := true }, restoreT := some 9 } }
    let u : State := { s with pcB := { PC.reset true with state := .lowering, disc := true } }
    s.released = true ∧ s.cl.image = some typical ∧ s.ds.restoreT.isSome = true ∧ s.pcA.risingOrUp = false ∧
    s.pcB.risingOrUp = false ∧ s.NoNewCause typical ∧ u.pcB.risingOrUp = false ∧ u.NoNewCause typical := by
  refine ⟨rfl, rfl, rfl, rfl, rfl, ?_, rfl, ?_⟩ <;>
    exact quiet_of _ _ (by decide) (by decide) (by decide) (by decide) (by decide)

theorem witness_DropCausesFollowTheirSources :
    collecting.HeldLaw ∧ collecting.TableLaw ∧ collecting.DemandLaw ∧ collecting.CauseLaw := by
  refine ⟨held_of_released rfl, ⟨by decide, by decide, by decide⟩, rfl, by decide, rfl, rfl, ?_, by decide, ?_, by decide⟩
  · intro im h
    cases h
    refine ⟨(fun c => nomatch c), ?_⟩
    rintro ⟨-, p, up, -, -, out⟩
    cases p
    · exact nomatch out .dc rfl
    · exact nomatch up
  · intro im h
    cases h
    refine ⟨(fun c => nomatch c), ?_⟩
    rintro ⟨-, -, n⟩
    exact absurd n (by decide)

/-- The restore timer of a LINE_LOST latch with an inactive cause runs, and without a latch none does. -/
theorem witness_RestoreTimerRunsWhileItIsDue :
    collecting.RestoreLaw ∧
    ({ idle with ds := { DS.reset with latch := { DropSet.empty with lineLost := true }, restoreT := some 9 } } : State).RestoreLaw := by
  refine ⟨⟨(fun h => nomatch h), ?_⟩, fun _ => ⟨⟨typical, rfl, rfl⟩, ⟨.lineLost, rfl, rfl⟩, ?_⟩, fun _ => rfl⟩
  · rintro ⟨-, ⟨k, -, h⟩, -⟩
    cases k <;> cases h
  · intro k _ _
    cases k <;> rfl

/-- R151, R152, R158, R160 by hand: A (DC) reaches UP on a Q of AC25; and the 50th DEAD window ends under a collecting A. With
the mask ON the condition is latched, the breaker held open and A lowered; with it OFF neither, and WRONG_SYSTEM is
requested all the same. -/
theorem test_wrong_system_and_line_lost :
    let off (s : State) : State := { s with cl := { s.cl with image := some { typical with masks := ⟨false, false, false, false⟩ } } }
    let wrong : State := { rising 0 with lq := { (rising 0).lq with q := .ac25 } }
    let dead : State := { windowAt 2303 with lq := { (windowAt 2303).lq with deadCount := 49 } }
    (let t := after (.levelAccepted .upA true) wrong
     t.ds.cause.wrongSystem = true ∧ t.ds.latch.wrongSystem = true ∧ t.al.requested .wrongSystem = true ∧
      t.bi.hold.ds = true ∧ t.pcA.lowering = some .softRamp) ∧
    (let t := after (.levelAccepted .upA true) (off wrong)
     t.ds.cause.wrongSystem = true ∧ t.ds.latch = .empty ∧ t.al.requested .wrongSystem = true ∧ t.bi.hold.ds = false ∧
      t.pcA.lowering = none) ∧
    (let t := after (.sampleEvent 0 true) dead
     t.ds.latch = { DropSet.empty with lineLost := true } ∧ t.bi.hold.ds = true ∧ t.pcA.lowering = some .softWait) ∧
    (after (.sampleEvent 0 true) (off dead)).ds.latch = .empty := by decide +kernel

/-- A CLAIM of class 0 waits at address 5, alone and behind a WITHDRAW. -/
theorem witness_AttemptStartsAfterItsDelay :
    let s : State := { idle with lau := { LAU.reset with clSlot := some ⟨⟨1, .raise, .a, 296, 0, 30⟩, 0, none⟩ } }
    (s.released = true ∧ s.lau.onLine = none ∧ s.lau.wdSlot = none ∧ (∃ c, s.lau.chosen = some c ∧ c.fails = 0 ∧ c.cls = 0) ∧
      s.cl.address.toNat = 5 ∧ 20 < 16 + (8 * 0 + 5) ∧ 16 + (8 * 0 + 5) ≤ 21) ∧
    idle.lau.chosen = none ∧
    ({ s.lau with wdSlot := some ⟨7, 0, none⟩ } : LAU).chosen = some ⟨.withdraw 7, 0, none, 0⟩ := by
  exact ⟨⟨rfl, rfl, rfl, ⟨_, rfl, rfl, rfl⟩, by decide, by decide, by decide⟩, rfl, rfl⟩

theorem witness_AttemptsEndOrFail :
    let s (f : Frame) : State := { idle with
      lau := { LAU.reset with onLine := some ⟨f, 6, 0⟩, wdSlot := some ⟨1, 0, none⟩ }
      au := { idle.au with claim := .sent, serial := 1 } }
    let c : ClaimFrame := ⟨1, .raise, .a, 296, 0, 30⟩
    (∀ f, (s f).released = true ∧ (s f).lau.onLine = some ⟨f, 6, 0⟩) ∧ 6 + 1 < 8 ∧ 8 ≤ 7 + 1 ∧
    (s (.claim c)).au.claim = .sent ∧ (s (.claim c)).au.serial = c.serial ∧ (s (.claim c)).lau.clSlot = none ∧
    (s (.withdraw 2)).lau.rcSlot = none ∧ (s (.withdraw 2)).lau.stSlot = none ∧
    (∃ w, (s (.claim c)).lau.wdSlot = some w ∧ w.frame = c.serial) := by
  exact ⟨fun _ => ⟨rfl, rfl⟩, by decide, by decide, rfl, rfl, rfl, rfl, rfl, ⟨_, rfl, rfl⟩⟩

theorem witness_LinePeriodsEnd :
    timed.released = true ∧ timed.lau.statusT.isSome = true ∧ timed.lau.gapT.isSome = true ∧ timed.lau.stSlot = none ∧
    ({ timed.lau with gapT := none } : LAU).gapT = none ∧ ({ timed.lau with statusPending := true } : LAU).statusPending = true ∧
    timed.cl.image = some typical ∧ reading.cl.image = none := by
  decide

/-- R197 by hand: a pulse and the timer's expiry that wait together leave the flag clear when the pulse is first. -/
theorem test_pulse_before_the_stationary_expiry :
    let s : State := { idle with ioc := { idle.ioc with stationaryT := some 2000 } }
    (after .stationaryTimerExpiry (after (.odometerPulse true 7) s)).ioc.stationary = false ∧
    (after .stationaryTimerExpiry s).ioc.stationary = true ∧
    (after (.odometerPulse true 7) (after .stationaryTimerExpiry s)).ioc.stationary = false := by decide +kernel

theorem witness_OdometryPeriodsAndTemperature :
    idle.released = true ∧ ({ idle.ioc with stationaryT := some 2000 } : IOC).stationaryT = some 2000 ∧
    timed.ioc.stationaryT = some 1999 ∧
    (-100 ≤ (160 : Int) ∧ (160 : Int) ≤ 160) ∧ ¬(-100 ≤ (161 : Int) ∧ (161 : Int) ≤ 160) ∧ idle.ioc.tempInvalid = false := by
  decide

/-- R167 by hand: the first bits of the preamble, the start mark after it and the end mark of a frame; a WITHDRAW of seven
bytes takes 12 + 56 bit times. -/
theorem test_line_signal :
    let w := [3, 3, 7, 1, 9] ++ crcBytes [3, 3, 7, 1, 9]
    (lineSignal w).length = 2 * 68 ∧ (lineSignal w).take 4 = [false, true, true, false] ∧
    ((lineSignal w).drop 16).take 4 = [true, true, false, false] ∧
    ((lineSignal w).drop 20).take 16 =
      [true, false, true, false, true, false, true, false, true, false, true, false, false, true, false, true] ∧
    (lineSignal w).drop 132 = [false, false, false, false] ∧
    receiveSignal (lineSignal w) = some (.withdrawReceived fromPeer 9) := by decide +kernel

/-- R174: a frame is formed from its start mark, with a short preamble, a spoiled one and none; without a start mark nothing is
received. -/
theorem test_frame_from_its_start_mark :
    let whole := lineSignal (frameBytes 3 fromPeer [9])
    (∀ n, n = 0 ∨ n = 4 ∨ n = 16 → receiveSignal (whole.drop n) = some (.withdrawReceived fromPeer 9)) ∧
    receiveSignal (true :: true :: whole.drop 2) = some (.withdrawReceived fromPeer 9) ∧
    receiveSignal (whole.take 16) = none := by
  refine ⟨?_, by decide +kernel, by decide +kernel⟩
  rintro n (rfl | rfl | rfl) <;> decide +kernel

/-- R139: a soft lowering that begins leaves no heat target, and the want stays while its claim is open; R93, R140: the grant is
then refused, the want stays in the list and the retry hold starts. -/
theorem test_heat_want_stands_through_a_refusal :
    let s : State := { clearing .heat with au := { (clearing .heat).au with graceA := some 300 } }
    let t := after (.graceTimerExpiry .a) s
    let u := after .holdOffExpiry t
    (t.pcA.lowering = some .softWait ∧ t.heatTarget typical = none ∧ t.au.heat = some ⟨.a, 30⟩ ∧ t.au.claim = .holding) ∧
    u.icu.heaterA = false ∧ u.au.heat = some ⟨.a, 30⟩ ∧ u.au.claim = .waiting ∧ u.au.retryT = .started := by
  decide +kernel

/-- R135, R138: a clear streak of 16 with the arc sum at T_ice leaves CLEARING and enters it again: heaters off, the pass ended,
and a STATUS marked as pending. -/
theorem test_clearing_is_entered_again :
    let s : State := { clearing .heat with
      icu := { (clearing .heat).icu with mode := .auto, clearStreak := 16, arcSum := 6, heaterA := true, draw := 30 } }
    let t := s.formIce typical
    t.icu.state = .clearing ∧ t.icu.clearStreak = 0 ∧ t.icu.heaterA = false ∧ t.icu.draw = 0 ∧ t.au.heat = none ∧
      t.au.claimOpen = false ∧ t.lau.statusPending = true := by
  decide +kernel

theorem witness_LineFramesAreReadBack :
    (Instr.withdrawReceived fromPeer 9).wellFormed = true ∧
    (encodeLineFrame (.withdrawReceived fromPeer 9)).isSome = true ∧
    [0, 0] ≠ crcBytes [3, 3, 7, 1, 9] ∧
    ¬[(true, true), (false, false)] <:+: [(false, true), (true, true), (true, false)] ∧
    (let c : ClaimFrame := ⟨255, .heat, .b, 400, 65535, 255⟩
     c.payload.length = 8 ∧ c.serial ≤ 255 ∧ c.p ≤ 400 ∧ 400 ≤ 65535 ∧ c.amount ≤ 65535 ∧ c.holdOff ≤ 255) := by
  decide +kernel

end Sys2Proof.Tests
end

section
/-! PROOFS. The window-end arithmetic of the Line Qualifier (R8, R10), its class table (R13) and its qualification (R20 to
R23). -/

namespace Sys2Proof.Machine

/-! ### The mean (R8) -/

theorem meanOf_of_nonneg {s1 : Int} (h : 0 ≤ s1) : meanOf s1 = (2 * s1 + 2304) / 4608 := by
  simp only [meanOf, if_neg (Int.not_lt.mpr h)]
  omega

theorem meanOf_neg (s1 : Int) : meanOf (-s1) = -meanOf s1 := by
  obtain h | rfl | h := lt_trichotomy s1 0
  · simp [meanOf, h, h.le]
  · rfl
  · simp [meanOf, h, h.le]

/-- What R8 says of a mean `m` of a sum that a window can hold. -/
structure RoundsHalfAway (s1 m : Int) : Prop where
  nearest : 2 * (s1 - 2304 * m).natAbs ≤ 2304
  tie : 2 * (s1 - 2304 * m).natAbs = 2304 → s1.natAbs < (2304 * m).natAbs
  sign : 0 ≤ m * s1

theorem RoundsHalfAway.neg {s1 m : Int} (h : RoundsHalfAway s1 m) : RoundsHalfAway (-s1) (-m) where
  nearest := by have := h.nearest; omega
  tie := by have := h.tie; omega
  sign := by simpa using h.sign

theorem meanOf_roundsHalfAway_of_nonneg {s1 : Int} (h : 0 ≤ s1) : RoundsHalfAway s1 (meanOf s1) := by
  rw [meanOf_of_nonneg h]
  exact ⟨by omega, by omega, Int.mul_nonneg (by omega) h⟩

/-- The mean is odd in S1, so that rounding away from zero on one side gives it on the other. -/
theorem meanOf_roundsHalfAway (s1 : Int) : RoundsHalfAway s1 (meanOf s1) := by
  obtain h | h := Int.le_total 0 s1
  · exact meanOf_roundsHalfAway_of_nonneg h
  · simpa [meanOf_neg] using (meanOf_roundsHalfAway_of_nonneg (Int.neg_nonneg_of_nonpos h)).neg

/-- Settles O9: the mean is the nearest integer by `meanOf_roundsHalfAway`, and its range follows from that of S1. -/
theorem meanRoundsHalfAwayFromZero : Obligations.MeanRoundsHalfAwayFromZero := by
  intro s1 hlow hhigh
  obtain ⟨nearest, tie, sign⟩ := meanOf_roundsHalfAway s1
  exact ⟨nearest, tie, sign, by omega, by omega⟩

/-! ### The integer square root (R10) -/

/-- The invariant of the search: a root between `r` and `r + 2 ^ k` is found by the bits below `k`. -/
theorem rootBits_spec {v : Nat} (k : Nat) : ∀ r : Nat, r * r ≤ v → v < (r + 2 ^ k) * (r + 2 ^ k) →
    rootBits v k r * rootBits v k r ≤ v ∧ v < (rootBits v k r + 1) * (rootBits v k r + 1) := by
  induction k with
  | zero => exact fun r low high => ⟨low, high⟩
  | succ k ih =>
    intro r low high
    simp only [rootBits]
    split
    case isTrue fits =>
      refine ih _ fits ?_
      rwa [Nat.add_assoc, ← Nat.two_mul, ← Nat.pow_succ']
    case isFalse exceeds => exact ih r low (Nat.lt_of_not_le exceeds)

/-- The bits that the search starts from are enough for every root. -/
theorem lt_root_bound (v : Nat) : v < 2 ^ (v.log2 / 2 + 1) * 2 ^ (v.log2 / 2 + 1) := by
  rw [← Nat.pow_add]
  calc v < 2 ^ (v.log2 + 1) := Nat.lt_log2_self
    _ ≤ 2 ^ (v.log2 / 2 + 1 + (v.log2 / 2 + 1)) := Nat.pow_le_pow_right (by decide) (by omega)

theorem isqrt_spec (v : Nat) : isqrt v * isqrt v ≤ v ∧ v < (isqrt v + 1) * (isqrt v + 1) :=
  rootBits_spec _ 0 (Nat.zero_le _) (by simpa using lt_root_bound v)

theorem isqrt_eq_sqrt (v : Nat) : isqrt v = v.sqrt :=
  Nat.eq_sqrt.mpr (isqrt_spec v)

/-- Settles O10: Rac is the library's square root of VAR, of which the four clauses are known. -/
theorem acMagnitudeIsTheExactRoot : Obligations.AcMagnitudeIsTheExactRoot := by
  intro s1 s2
  simp only [racOf, isqrt_eq_sqrt]
  refine ⟨Nat.sqrt_le _, Nat.lt_succ_sqrt _, fun r => Nat.le_sqrt.mpr, fun bound => ?_⟩
  calc (varianceOf s1 s2).sqrt ≤ (8192 * 8192).sqrt := Nat.sqrt_le_sqrt bound
    _ = 8192 := Nat.sqrt_eq 8192

/-! ### The class table (R13) -/

theorem any_between_iff (f : Option Nat) (low high : Nat) :
    f.any (fun f => low ≤ f ∧ f ≤ high) = true ↔ ∃ x, f = some x ∧ low ≤ x ∧ x ≤ high := by
  cases f <;> simp

/-- The row of a class in the table of R13; UNKNOWN has none. -/
def LineClass.Row (m : Int) (rac : Nat) (f : Option Nat) : LineClass → Prop
  | .unknown => False
  | .dead => rac < 100 ∧ m.natAbs < 100
  | .ac25 => (∃ x, f = some x ∧ 47000 ≤ x ∧ x ≤ 52000) ∧ 2917 ≤ rac ∧ rac ≤ 4833 ∧ m.natAbs ≤ 250
  | .ac15 => (∃ x, f = some x ∧ 15500 ≤ x ∧ x ≤ 17500) ∧ 1834 ≤ rac ∧ rac ≤ 3000 ∧ m.natAbs ≤ 250
  | .dc3 => 334 ≤ m ∧ m ≤ 650 ∧ rac ≤ 100
  | .dc15 => 167 ≤ m ∧ m ≤ 325 ∧ rac ≤ 100

open Classical in
theorem classOf_ok (m : Int) (rac : Nat) (f : Option Nat) :
    classOf .ok m rac f =
      if LineClass.dead.Row m rac f then .dead else if LineClass.ac25.Row m rac f then .ac25
      else if LineClass.ac15.Row m rac f then .ac15 else if LineClass.dc3.Row m rac f then .dc3
      else if LineClass.dc15.Row m rac f then .dc15 else .unknown := by
  simp only [classOf, any_between_iff, LineClass.Row, ne_eq, not_true_eq_false, if_false]
  congr

theorem classOf_of_not_ok {r : WindowReason} (h : r ≠ .ok) (m : Int) (rac : Nat) (f : Option Nat) :
    classOf r m rac f = .unknown := if_pos h

section

variable {m : Int} {rac : Nat} {f : Option Nat} {c : LineClass}

theorem row_of_classOf_eq (h : classOf .ok m rac f = c) (known : c ≠ .unknown) : c.Row m rac f := by
  subst h
  rw [classOf_ok] at known ⊢
  split_ifs at known ⊢
  case neg => exact known rfl
  all_goals assumption

theorem not_dead_row_of_rac (h : 100 ≤ rac) : ¬ LineClass.dead.Row m rac f := fun ⟨low, _⟩ => by omega

theorem not_dead_row_of_mean (h : 100 ≤ m) : ¬ LineClass.dead.Row m rac f := fun ⟨_, low⟩ => by omega

theorem not_ac25_row_of_rac (h : rac ≤ 100) : ¬ LineClass.ac25.Row m rac f := fun ⟨_, low, _⟩ => by omega

theorem not_ac15_row_of_rac (h : rac ≤ 100) : ¬ LineClass.ac15.Row m rac f := fun ⟨_, low, _⟩ => by omega

theorem not_dc3_row_of_mean (h : m < 334) : ¬ LineClass.dc3.Row m rac f := fun ⟨low, _⟩ => by omega

/-- The frequency bands of the two AC systems are apart, where their bands of Rac overlap. -/
theorem not_ac25_row_of_ac15 (h : LineClass.ac15.Row m rac f) : ¬ LineClass.ac25.Row m rac f := by
  obtain ⟨⟨x, rfl, -, high⟩, -⟩ := h
  rintro ⟨⟨y, same, low, -⟩, -⟩
  cases same
  omega

/-- A row that is met excludes each row before it, on Rac, on F or on M. -/
theorem classOf_eq_of_row (row : c.Row m rac f) : classOf .ok m rac f = c := by
  rw [classOf_ok]
  cases c with
  | unknown => exact row.elim
  | dead => exact if_pos row
  | ac25 =>
    have ⟨_, low, _⟩ := row
    rw [if_neg (not_dead_row_of_rac (by omega)), if_pos row]
  | ac15 =>
    have ⟨_, low, _⟩ := row
    rw [if_neg (not_dead_row_of_rac (by omega)), if_neg (not_ac25_row_of_ac15 row), if_pos row]
  | dc3 =>
    have ⟨low, _, quiet⟩ := row
    rw [if_neg (not_dead_row_of_mean (by omega)), if_neg (not_ac25_row_of_rac quiet),
      if_neg (not_ac15_row_of_rac quiet), if_pos row]
  | dc15 =>
    have ⟨low, high, quiet⟩ := row
    rw [if_neg (not_dead_row_of_mean (by omega)), if_neg (not_ac25_row_of_rac quiet),
      if_neg (not_ac15_row_of_rac quiet), if_neg (not_dc3_row_of_mean (by omega)), if_pos row]

theorem classOf_eq_iff_row (known : c ≠ .unknown) : classOf .ok m rac f = c ↔ c.Row m rac f :=
  ⟨fun h => row_of_classOf_eq h known, classOf_eq_of_row⟩

end

/-- Settles O11: every class but UNKNOWN stands exactly with its row, by `classOf_eq_iff_row`. -/
theorem classTableDecides : Obligations.ClassTableDecides := by
  intro r m rac f
  refine ⟨fun h => classOf_of_not_ok h m rac f, ?_⟩
  rintro rfl
  exact ⟨classOf_eq_iff_row nofun, classOf_eq_iff_row nofun, classOf_eq_iff_row nofun, classOf_eq_iff_row nofun,
    classOf_eq_iff_row nofun⟩

/-! ### Qualification (R20 to R23) -/

theorem satInc_eq_min {max n : Nat} (h : n ≤ max) : satInc max n = min max (n + 1) := by
  unfold satInc
  split <;> omega

@[simp] theorem LQ.close_cls (w : LQ) (kq : Nat) : (w.close kq).result.cls = w.resultOf.cls := rfl
@[simp] theorem LQ.close_cand (w : LQ) (kq : Nat) : (w.close kq).cand = some w.resultOf.cls := rfl
@[simp] theorem LQ.close_candCount (w : LQ) (kq : Nat) : (w.close kq).candCount = w.nextCount w.resultOf.cls := rfl
@[simp] theorem LQ.close_unknownStreak (w : LQ) (kq : Nat) :
    (w.close kq).unknownStreak = w.nextUnknown w.resultOf.cls := rfl
@[simp] theorem LQ.close_q (w : LQ) (kq : Nat) : (w.close kq).q = w.nextQ kq w.resultOf.cls := rfl
theorem LQ.close_deadCount_dead (w : LQ) (kq : Nat) (h : w.resultOf.cls = .dead) :
    (w.close kq).deadCount = satInc 255 w.deadCount := if_pos h
theorem LQ.close_deadCount_other (w : LQ) (kq : Nat) (h : w.resultOf.cls ≠ .dead) : (w.close kq).deadCount = 0 :=
  if_neg h

theorem LQ.nextCount_same {w : LQ} {c : LineClass} (h : w.cand = some c) :
    w.nextCount c = satInc 255 w.candCount := if_pos h
theorem LQ.nextCount_other {w : LQ} {c : LineClass} (h : w.cand ≠ some c) : w.nextCount c = 1 := if_neg h
theorem LQ.nextUnknown_unknown (w : LQ) {c : LineClass} (h : c = .unknown) :
    w.nextUnknown c = satInc 255 w.unknownStreak := if_pos h
theorem LQ.nextUnknown_known (w : LQ) {c : LineClass} (h : c ≠ .unknown) : w.nextUnknown c = 0 := if_neg h
theorem LQ.nextQ_dead (w : LQ) (kq : Nat) {c : LineClass} (h : c = .dead) : w.nextQ kq c = .dead := by
  subst h; rfl
theorem LQ.nextQ_unknown (w : LQ) (kq : Nat) {c : LineClass} (h : c = .unknown) :
    w.nextQ kq c = if 8 ≤ w.nextUnknown c then .unknown else w.q := by
  subst h; rfl
theorem LQ.nextQ_live (w : LQ) (kq : Nat) {c : LineClass} (h : c.live = true) :
    w.nextQ kq c = if kq ≤ w.nextCount c then c else w.q := by
  cases c
  case unknown | dead => cases h
  case ac25 | ac15 | dc3 | dc15 => rfl

/-- Settles O14: the fields of a closed window, each by the class of its result. -/
theorem qualificationFollowsTheResult : Obligations.QualificationFollowsTheResult := by
  intro w kq
  simp only [LQ.close_cls, LQ.close_cand, LQ.close_candCount, LQ.close_unknownStreak, LQ.close_q]
  refine ⟨trivial, ?sameCandidate, LQ.nextCount_other, ?unknownStreak, w.nextUnknown_known, w.nextQ_unknown kq,
    ?deadCount, w.close_deadCount_other kq, w.nextQ_dead kq, w.nextQ_live kq⟩
  case sameCandidate => exact fun same bound => (LQ.nextCount_same same).trans (satInc_eq_min bound)
  case unknownStreak => exact fun unknown bound => (w.nextUnknown_unknown unknown).trans (satInc_eq_min bound)
  case deadCount => exact fun dead bound => (w.close_deadCount_dead kq dead).trans (satInc_eq_min bound)

end Sys2Proof.Machine
end

section
/-! PROOFS. The tests of the Admission Unit: what the candidate view holds (R78), the admission test (R79) and the heat
budget test (R80). -/

namespace Sys2Proof.Machine

/-! ### The items of the candidate view (R78) -/

theorem PanState.raised_iff {st : PanState} : st.raised = true ↔ st = .rising ∨ st = .up ∨ st = .lowering := by
  cases st <;> decide

theorem PanRecord.raised_iff {c : PanRecord} :
    c.raised = true ↔ c.present = true ∧ (c.state = .rising ∨ c.state = .up ∨ c.state = .lowering) := by
  rw [PanRecord.raised, Bool.and_eq_true, PanState.raised_iff]

/-- The pantographs that one entry's records add to the view. -/
def State.entryPans (s : State) (im : Image) (n : Entry) : List Seen :=
  match n.body with
  | .roof r => s.peerPan im n.addr r .a ++ s.peerPan im n.addr r .b
  | .control _ => []

/-- The heard claim that one entry adds to the view. -/
def State.entryClaim (s : State) (im : Image) (own : Seen) (n : Entry) : List Seen :=
  match n.body with
  | .roof r =>
    match r.claim with
    | some c =>
      let seen : Seen := ⟨c.kind == .raise, c.p, leadDistance s.ioc.view im.trainLength c.p, n.addr, c.pan⟩
      if c.kind ≠ .heat && !(r.pan c.pan).any PanRecord.raised && panAhead seen own then [seen] else []
    | none => []
  | .control _ => []

theorem State.peerPans_eq_flatMap (s : State) (im : Image) : s.peerPans im = s.pv.table.flatMap (s.entryPans im) := rfl

theorem State.heardClaims_eq_flatMap (s : State) (im : Image) (own : Seen) :
    s.heardClaims im own = s.pv.table.flatMap (s.entryClaim im own) := rfl

section

variable {s : State} {im : Image} {own x : Seen} {n : Entry}

theorem State.mem_peerPan {addr : Addr} {r : RoofData} {p : Pan} :
    x ∈ s.peerPan im addr r p ↔ ∃ c, r.pan p = some c ∧ c.raised = true ∧
      x = ⟨c.coll, c.p, leadDistance s.ioc.view im.trainLength c.p, addr, p⟩ := by
  unfold State.peerPan
  cases r.pan p <;> simp

theorem State.mem_entryPans :
    x ∈ s.entryPans im n ↔ ∃ r c, n.body = .roof r ∧ r.pan x.pan = some c ∧ c.raised = true ∧
      x = ⟨c.coll, c.p, leadDistance s.ioc.view im.trainLength c.p, n.addr, x.pan⟩ := by
  unfold State.entryPans
  cases n.body with
  | control _ => simp
  | roof r =>
    simp only [List.mem_append, State.mem_peerPan, EntryBody.roof.injEq, exists_and_left, exists_eq_left']
    constructor
    · rintro (⟨c, shown, up, rfl⟩ | ⟨c, shown, up, rfl⟩) <;> exact ⟨c, shown, up, rfl⟩
    · obtain ⟨_, _, _, _, _ | _⟩ := x
      · exact .inl
      · exact .inr

theorem State.mem_entryClaim :
    x ∈ s.entryClaim im own n ↔ ∃ r c, n.body = .roof r ∧ r.claim = some c ∧ c.kind ≠ .heat ∧
      x = ⟨decide (c.kind = .raise), c.p, leadDistance s.ioc.view im.trainLength c.p, n.addr, c.pan⟩ ∧
      panAhead x own = true ∧ ¬∃ q, r.pan c.pan = some q ∧ q.raised = true := by
  unfold State.entryClaim
  cases n.body with
  | control _ => simp
  | roof r =>
    cases claim : r.claim with
    | none => simp [claim]
    | some c =>
      simp only [claim, List.mem_ite_nil_right, List.mem_singleton, Bool.and_eq_true, Bool.not_eq_true', decide_eq_true_eq,
        ← Bool.not_eq_true, Option.any_eq_true, EntryBody.roof.injEq, Option.some.injEq, exists_and_left, exists_eq_left']
      constructor
      · rintro ⟨⟨⟨kind, hidden⟩, ahead⟩, rfl⟩
        exact ⟨kind, rfl, ahead, hidden⟩
      · rintro ⟨kind, rfl, ahead, hidden⟩
        exact ⟨⟨⟨kind, hidden⟩, ahead⟩, rfl⟩

theorem State.mem_ownPan {p : Pan} :
    x ∈ s.ownPan im p ↔
      (im.pan p).present = true ∧ (s.pc p).state.raised = true ∧ x = s.ownSeen im p (s.pc p).disc := by
  rw [State.ownPan, List.mem_ite_nil_right, Bool.and_eq_true, List.mem_singleton, and_assoc]

theorem State.mem_candidateView :
    x ∈ s.candidateView im own ↔ (∃ n ∈ s.pv.table, x ∈ s.entryPans im n) ∨
      (∃ n ∈ s.pv.table, x ∈ s.entryClaim im own n) ∨ (∃ p, x ∈ s.ownPan im p) ∨ x = own := by
  have pans : (∃ p, x ∈ s.ownPan im p) ↔ x ∈ s.ownPan im .a ∨ x ∈ s.ownPan im .b :=
    ⟨fun ⟨p, h⟩ => by cases p <;> simp [h], fun h => h.elim (⟨_, ·⟩) (⟨_, ·⟩)⟩
  simp only [State.candidateView, State.peerPans_eq_flatMap, State.heardClaims_eq_flatMap, List.mem_append,
    List.mem_flatMap, List.mem_singleton, pans, or_assoc]

end

/-! ### Every pantograph once (R78) -/

/-- Two items that are not the same pantograph. -/
def Seen.Apart (x y : Seen) : Prop := (x.addr, x.pan) ≠ (y.addr, y.pan)

theorem Seen.Apart.of_addr {x y : Seen} (h : x.addr ≠ y.addr) : x.Apart y := fun same => h (congrArg Prod.fst same)

theorem Seen.Apart.of_pan {x y : Seen} (h : x.pan ≠ y.pan) : x.Apart y := fun same => h (congrArg Prod.snd same)

section

variable {s : State} {im : Image} {own x y : Seen} {m n : Entry}

theorem State.addr_of_mem_entryPans (h : x ∈ s.entryPans im n) : x.addr = n.addr := by
  obtain ⟨_, _, _, _, _, same⟩ := State.mem_entryPans.mp h
  rw [same]

theorem State.addr_of_mem_entryClaim (h : x ∈ s.entryClaim im own n) : x.addr = n.addr := by
  obtain ⟨_, _, _, _, _, same, _⟩ := State.mem_entryClaim.mp h
  rw [same]

theorem State.entryPans_pairwise_apart : (s.entryPans im n).Pairwise Seen.Apart := by
  have atMostOne (r : RoofData) (p : Pan) : (s.peerPan im n.addr r p).Pairwise Seen.Apart := by
    unfold State.peerPan
    split
    · split <;> simp
    · simp
  unfold State.entryPans
  split
  · refine List.pairwise_append.mpr ⟨atMostOne _ _, atMostOne _ _, fun x hx y hy => .of_pan ?_⟩
    obtain ⟨_, _, _, rfl⟩ := State.mem_peerPan.mp hx
    obtain ⟨_, _, _, rfl⟩ := State.mem_peerPan.mp hy
    exact nofun
  · exact .nil

theorem State.entryClaim_pairwise_apart : (s.entryClaim im own n).Pairwise Seen.Apart := by
  unfold State.entryClaim
  split
  · split
    · dsimp only
      split <;> simp
    · exact .nil
  · exact .nil

/-- A heard claim is left out when its own entry shows the claimed pantograph raised. -/
theorem State.entryPans_apart_entryClaim (hx : x ∈ s.entryPans im n) (hy : y ∈ s.entryClaim im own n) : x.Apart y := by
  obtain ⟨r, c, body, shown, up, -⟩ := State.mem_entryPans.mp hx
  obtain ⟨r', c', body', -, -, same, -, hidden⟩ := State.mem_entryClaim.mp hy
  obtain rfl : r = r' := EntryBody.roof.inj (body.symm.trans body')
  refine .of_pan fun pan => hidden ⟨c, ?_, up⟩
  rw [← shown, pan, same]

theorem State.ownPan_pairwise_apart {p : Pan} : (s.ownPan im p).Pairwise Seen.Apart := by
  unfold State.ownPan
  split <;> simp

theorem State.TableLaw.addr_pairwise (law : s.TableLaw) : s.pv.table.Pairwise fun m n => m.addr ≠ n.addr :=
  (List.pairwise_map.mp law.rising).imp fun less same => by simp [same] at less

theorem State.TableLaw.eq_of_addr_eq (law : s.TableLaw) (hm : m ∈ s.pv.table) (hn : n ∈ s.pv.table)
    (same : m.addr = n.addr) : m = n :=
  List.inj_on_of_nodup_map (List.pairwise_map.mpr law.addr_pairwise) hm hn same

/-- Lists that the entries give, each with its own entry's address, are apart where each is. -/
theorem State.TableLaw.flatMap_pairwise_apart (law : s.TableLaw) {f : Entry → List Seen}
    (address : ∀ n x, x ∈ f n → x.addr = n.addr) (each : ∀ n, (f n).Pairwise Seen.Apart) :
    (s.pv.table.flatMap f).Pairwise Seen.Apart :=
  List.pairwise_flatMap.mpr ⟨fun n _ => each n, law.addr_pairwise.imp fun {m n} differ x hx y hy =>
    .of_addr (by rwa [address m x hx, address n y hy])⟩

theorem State.TableLaw.peers_pairwise_apart (law : s.TableLaw) :
    (s.peerPans im ++ s.heardClaims im own).Pairwise Seen.Apart := by
  rw [State.peerPans_eq_flatMap, State.heardClaims_eq_flatMap, List.pairwise_append]
  refine ⟨law.flatMap_pairwise_apart (fun _ _ => State.addr_of_mem_entryPans) fun _ => State.entryPans_pairwise_apart,
    law.flatMap_pairwise_apart (fun _ _ => State.addr_of_mem_entryClaim) fun _ => State.entryClaim_pairwise_apart, ?_⟩
  intro x hx y hy
  obtain ⟨m, hm, hx⟩ := List.mem_flatMap.mp hx
  obtain ⟨n, hn, hy⟩ := List.mem_flatMap.mp hy
  by_cases same : m.addr = n.addr
  · obtain rfl := law.eq_of_addr_eq hm hn same
    exact State.entryPans_apart_entryClaim hx hy
  · exact .of_addr (by rwa [State.addr_of_mem_entryPans hx, State.addr_of_mem_entryClaim hy])

theorem State.TableLaw.addr_ne_of_mem_peers (law : s.TableLaw) (h : x ∈ s.peerPans im ++ s.heardClaims im own) :
    x.addr ≠ s.cl.address := by
  rw [State.peerPans_eq_flatMap, State.heardClaims_eq_flatMap, List.mem_append, List.mem_flatMap, List.mem_flatMap] at h
  obtain ⟨n, hn, hx⟩ | ⟨n, hn, hx⟩ := h
  · exact State.addr_of_mem_entryPans hx ▸ law.notOwn n hn
  · exact State.addr_of_mem_entryClaim hx ▸ law.notOwn n hn

/-- The claimed pantograph is DOWN, so that it is not among the own raised ones. -/
theorem State.owns_pairwise_apart {p : Pan} {coll : Bool} (down : (s.pc p).state = .down) :
    (s.ownPan im .a ++ s.ownPan im .b ++ [s.ownSeen im p coll]).Pairwise Seen.Apart := by
  have pan_of_mem {q : Pan} {x : Seen} (h : x ∈ s.ownPan im q) : x.pan = q ∧ q ≠ p := by
    obtain ⟨-, raised, rfl⟩ := State.mem_ownPan.mp h
    refine ⟨rfl, ?_⟩
    rintro rfl
    simp [down, PanState.raised] at raised
  simp only [List.pairwise_append, List.mem_append, List.mem_singleton]
  refine ⟨⟨State.ownPan_pairwise_apart, State.ownPan_pairwise_apart, fun x hx y hy => .of_pan ?_⟩,
    List.pairwise_singleton _ _, ?_⟩
  · rw [(pan_of_mem hx).1, (pan_of_mem hy).1]
    exact nofun
  · rintro x hx _ rfl
    obtain ⟨pan, other⟩ | ⟨pan, other⟩ := hx.imp pan_of_mem pan_of_mem <;> exact .of_pan (pan ▸ other)

theorem State.addr_of_mem_owns {p : Pan} {coll : Bool}
    (h : x ∈ s.ownPan im .a ++ s.ownPan im .b ++ [s.ownSeen im p coll]) : x.addr = s.cl.address := by
  simp only [List.mem_append, State.mem_ownPan, List.mem_singleton] at h
  obtain (⟨-, -, rfl⟩ | ⟨-, -, rfl⟩) | rfl := h <;> rfl

/-- Peers are told apart from the own pantographs by the address. -/
theorem State.TableLaw.candidateView_pairwise_apart (law : s.TableLaw) {p : Pan} {coll : Bool}
    (down : (s.pc p).state = .down) : (s.candidateView im (s.ownSeen im p coll)).Pairwise Seen.Apart := by
  rw [State.candidateView, List.append_assoc, List.append_assoc, ← List.append_assoc (s.ownPan im .a)]
  refine List.pairwise_append.mpr ⟨law.peers_pairwise_apart, State.owns_pairwise_apart down, fun x hx y hy => .of_addr ?_⟩
  rw [State.addr_of_mem_owns hy]
  exact law.addr_ne_of_mem_peers hx

end

/-! ### The admission test (R79) -/

theorem distance_eq_natAbs (p q : Nat) : distance p q = ((p : Int) - q).natAbs := by
  unfold distance
  split <;> omega

theorem spread_eq_true_iff (least : Nat) (l : List Nat) :
    spread least l = true ↔ l.Pairwise fun p q : Nat => least ≤ ((p : Int) - q).natAbs := by
  induction l with
  | nil => simp [spread]
  | cons p ps ih => simp [spread, ih, distance_eq_natAbs]

theorem admits_iff (f : Profile) (view : List Seen) :
    admits f view = true ↔
      view.countP (fun x => x.coll) ≤ f.maxCollecting ∧
      view.Pairwise (fun x y => x.coll = true → y.coll = true → f.minSpacing ≤ ((x.p : Int) - y.p).natAbs) ∧
      view.countP (fun x => !x.coll) ≤ f.maxScraping ∧
      ∀ x ∈ view, f.leadExclusion ≤ x.e := by
  simp only [admits, Bool.and_eq_true, decide_eq_true_eq, spread_eq_true_iff, List.pairwise_map, List.pairwise_filter,
    List.countP_eq_length_filter, List.all_eq_true, and_assoc]

/-! ### The heat budget test (R80) -/

theorem total_eq_sum (l : List Nat) : total l = l.sum := List.sum_eq_foldl.symm

/-- The amount of the heard HEAT claim of one entry, when it outranks the own claim and its heater is not yet shown. -/
def State.amountAhead (s : State) (im : Image) (own : Seen) (n : Entry) : Nat :=
  match n.body with
  | .roof r =>
    match r.claim with
    | some c =>
      let seen : Seen := ⟨((r.pan c.pan).map PanRecord.coll).getD true, c.p,
        leadDistance s.ioc.view im.trainLength c.p, n.addr, c.pan⟩
      if c.kind = .heat ∧ heatAhead seen own = true ∧ (r.pan c.pan).any PanRecord.heating = false then c.amount else 0
    | none => 0
  | .control _ => 0

theorem State.outrankingHeat_eq_sum (s : State) (im : Image) (own : Seen) :
    s.outrankingHeat im own = (s.pv.table.map (s.amountAhead im own)).sum := by
  rw [State.outrankingHeat, total_eq_sum]
  refine congrArg List.sum (List.map_congr_left fun n _ => ?_)
  unfold State.amountAhead
  cases n.body with
  | control _ => rfl
  | roof r =>
    cases claim : r.claim with
    | none => simp [claim]
    | some c => cases shown : r.pan c.pan <;> simp [claim, shown, and_assoc, and_comm]

theorem State.HeaterLaw.draw_eq {s : State} {im : Image} (law : s.HeaterLaw) (image : s.cl.image = some im) :
    s.icu.draw = drawOf im s.icu.heaterA s.icu.heaterB := by
  rw [State.HeaterLaw, image] at law
  exact law.1

section

variable {s : State} {im : Image} {h : Head}

theorem State.passes_iff_of_permitted (permitted : s.permitted h = true) :
    s.passes im h = true ↔ s.headTest im h = true := by
  rw [State.passes, permitted, Bool.true_and]

theorem State.headTest_of_raise (kind : h.kind = .raise) :
    s.headTest im h = admits (s.limits im) (s.candidateView im (s.ownSeen im h.pan true)) := by
  rw [State.headTest, kind]

theorem State.headTest_of_scrape (kind : h.kind = .scrape) :
    s.headTest im h = admits (s.limits im) (s.candidateView im (s.ownSeen im h.pan false)) := by
  rw [State.headTest, kind]

theorem State.headTest_iff_of_heat (kind : h.kind = .heat) (image : s.cl.image = some im) (law : s.HeaterLaw) :
    s.headTest im h = true ↔
      s.peerDraw + (s.pv.table.map (s.amountAhead im (s.ownSeen im h.pan (s.pc h.pan).disc))).sum +
        drawOf im s.icu.heaterA s.icu.heaterB + h.amount ≤ im.budget := by
  rw [State.headTest, kind, State.heatSum, State.outrankingHeat_eq_sum, law.draw_eq image, decide_eq_true_eq]

end

/-- Settles O39: the four conditions by `admits_iff`, the items of the view by `State.mem_candidateView`, each once by
`State.TableLaw.candidateView_pairwise_apart`, and the budget by `State.headTest_iff_of_heat`. -/
theorem admissionTestHasFourConditions : Obligations.AdmissionTestHasFourConditions := by
  refine ⟨admits_iff, fun s im own x => ?view, fun s im p coll law down => ?once, fun s im h permitted => ?tests⟩
  case view =>
    have items := State.mem_candidateView (s := s) (im := im) (own := own) (x := x)
    simp only [State.mem_entryPans, State.mem_entryClaim, State.mem_ownPan, PanRecord.raised_iff, PanState.raised_iff,
      and_assoc] at items
    exact items
  case once => exact List.pairwise_map.mpr (law.candidateView_pairwise_apart down)
  case tests =>
    rw [State.passes_iff_of_permitted permitted]
    refine ⟨fun kind => ?raise, fun kind => ?scrape, fun kind image law rated => ?heat⟩
    case raise =>
      rw [State.headTest_of_raise kind]
      exact Iff.rfl
    case scrape =>
      rw [State.headTest_of_scrape kind]
      exact Iff.rfl
    case heat =>
      rw [State.headTest_iff_of_heat kind image law, rated, State.peerDraw, total_eq_sum]
      exact Iff.rfl

end Sys2Proof.Machine
end

section
/-! PROOFS of the family "other". One proof at a time keeps the memory of the compile within the limits of the check. -/

set_option Elab.async false

section
/-! PROOFS. What each operation of the reactions and of the end of an event leaves unchanged, block by block, so that a proof
about one block sees past the operations that do not reach it. -/

namespace Sys2Proof.Machine

/-- The operation reaches no more than the phase, its hold-open entry and the alerts. -/
abbrev State.OnlyChangeover (s t : State) : Prop :=
  t.lq = s.lq ∧ t.pcA = s.pcA ∧ t.pcB = s.pcB ∧ t.bi.hold.pcA = s.bi.hold.pcA ∧ t.bi.hold.pcB = s.bi.hold.pcB ∧
  t.bi.hold.ds = s.bi.hold.ds ∧ t.bi.hold.cl = s.bi.hold.cl ∧ t.bi.permit = s.bi.permit ∧ t.bi.closed = s.bi.closed ∧
  t.bi.openConfirm = s.bi.openConfirm ∧ t.bi.stuck = s.bi.stuck ∧ t.pv = s.pv ∧ t.au = s.au ∧ t.icu = s.icu ∧
  t.ds = s.ds ∧ t.lau = s.lau ∧ t.al.top = s.al.top ∧ t.al.flt = s.al.flt ∧ t.ioc = s.ioc ∧ t.cl = s.cl ∧
  t.released = s.released

/-- The operation reaches no more than the claims and the line access. -/
abbrev State.OnlyClaims (s t : State) : Prop :=
  t.lq = s.lq ∧ t.pcA = s.pcA ∧ t.pcB = s.pcB ∧ t.bi = s.bi ∧ t.pv = s.pv ∧ t.cc = s.cc ∧ t.icu = s.icu ∧
  t.ds = s.ds ∧ t.al = s.al ∧ t.ioc = s.ioc ∧ t.cl = s.cl ∧ t.released = s.released

/-- The operation reaches no more than the peer view and what the demand in force reaches. -/
abbrev State.OnlyTable (s t : State) : Prop :=
  t.lq = s.lq ∧ t.bi.hold.cl = s.bi.hold.cl ∧ t.bi.permit = s.bi.permit ∧ t.bi.closed = s.bi.closed ∧
  t.bi.openConfirm = s.bi.openConfirm ∧ t.bi.stuck = s.bi.stuck ∧ t.au = s.au ∧ t.lau = s.lau ∧ t.al.top = s.al.top ∧
  t.al.flt = s.al.flt ∧ t.ioc = s.ioc ∧ t.cl = s.cl ∧ t.released = s.released

/-- The operation reaches no more than the two controllers. -/
abbrev State.OnlyPans (s t : State) : Prop :=
  t.lq = s.lq ∧ t.bi = s.bi ∧ t.pv = s.pv ∧ t.au = s.au ∧ t.cc = s.cc ∧ t.icu = s.icu ∧ t.ds = s.ds ∧ t.lau = s.lau ∧
  t.al = s.al ∧ t.ioc = s.ioc ∧ t.cl = s.cl ∧ t.released = s.released

/-- The operation reaches no more than the controllers, the drop latches, their hold-open entries and the alerts. -/
abbrev State.OnlyDrops (s t : State) : Prop :=
  t.lq = s.lq ∧ t.bi.hold.cc = s.bi.hold.cc ∧ t.bi.hold.cl = s.bi.hold.cl ∧ t.bi.permit = s.bi.permit ∧
  t.bi.closed = s.bi.closed ∧ t.bi.openConfirm = s.bi.openConfirm ∧ t.bi.stuck = s.bi.stuck ∧ t.pv = s.pv ∧
  t.au = s.au ∧ t.cc = s.cc ∧ t.icu = s.icu ∧ t.lau = s.lau ∧ t.al.top = s.al.top ∧ t.al.flt = s.al.flt ∧
  t.ioc = s.ioc ∧ t.cl = s.cl ∧ t.released = s.released

/-- The operation reaches no more than the Admission Unit. -/
abbrev State.OnlyWants (s t : State) : Prop :=
  t.lq = s.lq ∧ t.pcA = s.pcA ∧ t.pcB = s.pcB ∧ t.bi = s.bi ∧ t.pv = s.pv ∧ t.cc = s.cc ∧ t.icu = s.icu ∧
  t.ds = s.ds ∧ t.lau = s.lau ∧ t.al = s.al ∧ t.ioc = s.ioc ∧ t.cl = s.cl ∧ t.released = s.released

/-- The operation reaches no more than the ICU. -/
abbrev State.OnlyIce (s t : State) : Prop :=
  t.lq = s.lq ∧ t.pcA = s.pcA ∧ t.pcB = s.pcB ∧ t.bi = s.bi ∧ t.pv = s.pv ∧ t.au = s.au ∧ t.cc = s.cc ∧ t.ds = s.ds ∧
  t.lau = s.lau ∧ t.al = s.al ∧ t.ioc = s.ioc ∧ t.cl = s.cl ∧ t.released = s.released

/-- The operation reaches no more than the Changeover Controller. -/
abbrev State.OnlyLegs (s t : State) : Prop :=
  t.lq = s.lq ∧ t.pcA = s.pcA ∧ t.pcB = s.pcB ∧ t.bi = s.bi ∧ t.pv = s.pv ∧ t.au = s.au ∧ t.icu = s.icu ∧
  t.ds = s.ds ∧ t.lau = s.lau ∧ t.al = s.al ∧ t.ioc = s.ioc ∧ t.cl = s.cl ∧ t.released = s.released

/-- The operation reaches no more than what an accepted level reaches. -/
abbrev State.OnlyInputs (s t : State) : Prop :=
  t.lq = s.lq ∧ t.bi.hold.cl = s.bi.hold.cl ∧ t.bi.permit = s.bi.permit ∧ t.bi.openConfirm = s.bi.openConfirm ∧
  t.pv = s.pv ∧ t.au = s.au ∧ t.icu = s.icu ∧ t.lau = s.lau ∧ t.al.top = s.al.top ∧ t.al.flt = s.al.flt ∧
  t.cl = s.cl ∧ t.released = s.released

/-- The operation reaches no more than the controllers and their hold-open entries. -/
abbrev State.OnlyLowering (s t : State) : Prop :=
  t.lq = s.lq ∧ t.bi.hold.cc = s.bi.hold.cc ∧ t.bi.hold.ds = s.bi.hold.ds ∧ t.bi.hold.cl = s.bi.hold.cl ∧
  t.bi.permit = s.bi.permit ∧ t.bi.closed = s.bi.closed ∧ t.bi.openConfirm = s.bi.openConfirm ∧
  t.bi.stuck = s.bi.stuck ∧ t.pv = s.pv ∧ t.au = s.au ∧ t.cc = s.cc ∧ t.icu = s.icu ∧ t.ds = s.ds ∧ t.lau = s.lau ∧
  t.al = s.al ∧ t.ioc = s.ioc ∧ t.cl = s.cl ∧ t.released = s.released

/-- The operation reaches no more than the controllers, their hold-open entries and the ICU. -/
abbrev State.OnlyPass (s t : State) : Prop :=
  t.lq = s.lq ∧ t.bi.hold.cc = s.bi.hold.cc ∧ t.bi.hold.ds = s.bi.hold.ds ∧ t.bi.hold.cl = s.bi.hold.cl ∧
  t.bi.permit = s.bi.permit ∧ t.bi.closed = s.bi.closed ∧ t.bi.openConfirm = s.bi.openConfirm ∧
  t.bi.stuck = s.bi.stuck ∧ t.pv = s.pv ∧ t.au = s.au ∧ t.cc = s.cc ∧ t.ds = s.ds ∧ t.lau = s.lau ∧ t.al = s.al ∧
  t.ioc = s.ioc ∧ t.cl = s.cl ∧ t.released = s.released

/-- The operation reaches no more than the controllers, their hold-open entries and the alerts. -/
abbrev State.OnlyFault (s t : State) : Prop :=
  t.lq = s.lq ∧ t.bi.hold.cc = s.bi.hold.cc ∧ t.bi.hold.ds = s.bi.hold.ds ∧ t.bi.hold.cl = s.bi.hold.cl ∧
  t.bi.permit = s.bi.permit ∧ t.bi.closed = s.bi.closed ∧ t.bi.openConfirm = s.bi.openConfirm ∧
  t.bi.stuck = s.bi.stuck ∧ t.pv = s.pv ∧ t.au = s.au ∧ t.cc = s.cc ∧ t.icu = s.icu ∧ t.ds = s.ds ∧ t.lau = s.lau ∧
  t.al.top = s.al.top ∧ t.al.flt = s.al.flt ∧ t.ioc = s.ioc ∧ t.cl = s.cl ∧ t.released = s.released

/-- The operation reaches no more than the phase and its hold-open entry. -/
abbrev State.OnlyPhase (s t : State) : Prop :=
  t.lq = s.lq ∧ t.pcA = s.pcA ∧ t.pcB = s.pcB ∧ t.bi.hold.pcA = s.bi.hold.pcA ∧ t.bi.hold.pcB = s.bi.hold.pcB ∧
  t.bi.hold.ds = s.bi.hold.ds ∧ t.bi.hold.cl = s.bi.hold.cl ∧ t.bi.permit = s.bi.permit ∧ t.bi.closed = s.bi.closed ∧
  t.bi.openConfirm = s.bi.openConfirm ∧ t.bi.stuck = s.bi.stuck ∧ t.pv = s.pv ∧ t.au = s.au ∧ t.icu = s.icu ∧
  t.ds = s.ds ∧ t.lau = s.lau ∧ t.al = s.al ∧ t.ioc = s.ioc ∧ t.cl = s.cl ∧ t.released = s.released

/-- The operation reaches no more than the controllers, their hold-open entries, the section and the alerts. -/
abbrev State.OnlyForcedDrop (s t : State) : Prop :=
  t.lq = s.lq ∧ t.bi.hold.cc = s.bi.hold.cc ∧ t.bi.hold.ds = s.bi.hold.ds ∧ t.bi.hold.cl = s.bi.hold.cl ∧
  t.bi.permit = s.bi.permit ∧ t.bi.closed = s.bi.closed ∧ t.bi.openConfirm = s.bi.openConfirm ∧
  t.bi.stuck = s.bi.stuck ∧ t.pv = s.pv ∧ t.au = s.au ∧ t.icu = s.icu ∧ t.ds = s.ds ∧ t.lau = s.lau ∧
  t.al.top = s.al.top ∧ t.al.flt = s.al.flt ∧ t.ioc = s.ioc ∧ t.cl = s.cl ∧ t.released = s.released

/-- The operation reaches no more than the controllers, the section, the hold-open entries of both and the alerts. -/
abbrev State.OnlySection (s t : State) : Prop :=
  t.lq = s.lq ∧ t.bi.hold.ds = s.bi.hold.ds ∧ t.bi.hold.cl = s.bi.hold.cl ∧ t.bi.permit = s.bi.permit ∧
  t.bi.closed = s.bi.closed ∧ t.bi.openConfirm = s.bi.openConfirm ∧ t.bi.stuck = s.bi.stuck ∧ t.pv = s.pv ∧
  t.au = s.au ∧ t.icu = s.icu ∧ t.ds = s.ds ∧ t.lau = s.lau ∧ t.al.top = s.al.top ∧ t.al.flt = s.al.flt ∧
  t.ioc = s.ioc ∧ t.cl = s.cl ∧ t.released = s.released

/-- The operation reaches no more than the line access. -/
abbrev State.OnlyLine (s t : State) : Prop :=
  t.lq = s.lq ∧ t.pcA = s.pcA ∧ t.pcB = s.pcB ∧ t.bi = s.bi ∧ t.pv = s.pv ∧ t.au = s.au ∧ t.cc = s.cc ∧
  t.icu = s.icu ∧ t.ds = s.ds ∧ t.al = s.al ∧ t.ioc = s.ioc ∧ t.cl = s.cl ∧ t.released = s.released

/-- The operation reaches no more than the controllers, the drop latches and their hold-open entries. -/
abbrev State.OnlyLatch (s t : State) : Prop :=
  t.lq = s.lq ∧ t.bi.hold.cc = s.bi.hold.cc ∧ t.bi.hold.cl = s.bi.hold.cl ∧ t.bi.permit = s.bi.permit ∧
  t.bi.closed = s.bi.closed ∧ t.bi.openConfirm = s.bi.openConfirm ∧ t.bi.stuck = s.bi.stuck ∧ t.pv = s.pv ∧
  t.au = s.au ∧ t.cc = s.cc ∧ t.icu = s.icu ∧ t.lau = s.lau ∧ t.al = s.al ∧ t.ioc = s.ioc ∧ t.cl = s.cl ∧
  t.released = s.released

/-- The operation reaches no more than the drop latches and their hold-open entry. -/
abbrev State.OnlyRestore (s t : State) : Prop :=
  t.lq = s.lq ∧ t.pcA = s.pcA ∧ t.pcB = s.pcB ∧ t.bi.hold.pcA = s.bi.hold.pcA ∧ t.bi.hold.pcB = s.bi.hold.pcB ∧
  t.bi.hold.cc = s.bi.hold.cc ∧ t.bi.hold.cl = s.bi.hold.cl ∧ t.bi.permit = s.bi.permit ∧ t.bi.closed = s.bi.closed ∧
  t.bi.openConfirm = s.bi.openConfirm ∧ t.bi.stuck = s.bi.stuck ∧ t.pv = s.pv ∧ t.au = s.au ∧ t.cc = s.cc ∧
  t.icu = s.icu ∧ t.lau = s.lau ∧ t.al = s.al ∧ t.ioc = s.ioc ∧ t.cl = s.cl ∧ t.released = s.released

/-- The operation reaches no more than the direction, the phase, its hold-open entry and the alerts. -/
abbrev State.OnlyView (s t : State) : Prop :=
  t.lq = s.lq ∧ t.pcA = s.pcA ∧ t.pcB = s.pcB ∧ t.bi.hold.pcA = s.bi.hold.pcA ∧ t.bi.hold.pcB = s.bi.hold.pcB ∧
  t.bi.hold.ds = s.bi.hold.ds ∧ t.bi.hold.cl = s.bi.hold.cl ∧ t.bi.permit = s.bi.permit ∧ t.bi.closed = s.bi.closed ∧
  t.bi.openConfirm = s.bi.openConfirm ∧ t.bi.stuck = s.bi.stuck ∧ t.pv = s.pv ∧ t.au = s.au ∧ t.icu = s.icu ∧
  t.ds = s.ds ∧ t.lau = s.lau ∧ t.al.top = s.al.top ∧ t.al.flt = s.al.flt ∧ t.cl = s.cl ∧ t.released = s.released

/-- The operation reaches no more than the window and the ICU. -/
abbrev State.OnlyWindow (s t : State) : Prop :=
  t.pcA = s.pcA ∧ t.pcB = s.pcB ∧ t.bi = s.bi ∧ t.pv = s.pv ∧ t.au = s.au ∧ t.cc = s.cc ∧ t.ds = s.ds ∧
  t.lau = s.lau ∧ t.al = s.al ∧ t.ioc = s.ioc ∧ t.cl = s.cl ∧ t.released = s.released

/-- The operation reaches no more than the controllers, their hold-open entries and the phase. -/
abbrev State.OnlyStowing (s t : State) : Prop :=
  t.lq = s.lq ∧ t.bi.hold.cc = s.bi.hold.cc ∧ t.bi.hold.ds = s.bi.hold.ds ∧ t.bi.hold.cl = s.bi.hold.cl ∧
  t.bi.permit = s.bi.permit ∧ t.bi.closed = s.bi.closed ∧ t.bi.openConfirm = s.bi.openConfirm ∧
  t.bi.stuck = s.bi.stuck ∧ t.pv = s.pv ∧ t.au = s.au ∧ t.icu = s.icu ∧ t.ds = s.ds ∧ t.lau = s.lau ∧ t.al = s.al ∧
  t.ioc = s.ioc ∧ t.cl = s.cl ∧ t.released = s.released

/-- The operation reaches no more than what the exit from CLEARING reaches. -/
abbrev State.OnlyClearing (s t : State) : Prop :=
  t.lq = s.lq ∧ t.bi.hold.cc = s.bi.hold.cc ∧ t.bi.hold.ds = s.bi.hold.ds ∧ t.bi.hold.cl = s.bi.hold.cl ∧
  t.bi.permit = s.bi.permit ∧ t.bi.closed = s.bi.closed ∧ t.bi.openConfirm = s.bi.openConfirm ∧
  t.bi.stuck = s.bi.stuck ∧ t.pv = s.pv ∧ t.cc = s.cc ∧ t.ds = s.ds ∧ t.al = s.al ∧ t.ioc = s.ioc ∧ t.cl = s.cl ∧
  t.released = s.released

/-- The operation reaches no more than what the reactions reach. -/
abbrev State.OnlyReactions (s t : State) : Prop :=
  t.bi.hold.cl = s.bi.hold.cl ∧ t.bi.permit = s.bi.permit ∧ t.bi.closed = s.bi.closed ∧
  t.bi.openConfirm = s.bi.openConfirm ∧ t.bi.stuck = s.bi.stuck ∧ t.pv = s.pv ∧ t.al.top = s.al.top ∧
  t.al.flt = s.al.flt ∧ t.ioc = s.ioc ∧ t.cl = s.cl ∧ t.released = s.released

/-- The operation reaches no more than what a pulse reaches. -/
abbrev State.OnlyPulse (s t : State) : Prop :=
  t.lq = s.lq ∧ t.bi.hold.ds = s.bi.hold.ds ∧ t.bi.hold.cl = s.bi.hold.cl ∧ t.bi.permit = s.bi.permit ∧
  t.bi.closed = s.bi.closed ∧ t.bi.openConfirm = s.bi.openConfirm ∧ t.bi.stuck = s.bi.stuck ∧ t.pv = s.pv ∧
  t.au = s.au ∧ t.ds = s.ds ∧ t.lau = s.lau ∧ t.al.top = s.al.top ∧ t.al.flt = s.al.flt ∧ t.cl = s.cl ∧
  t.released = s.released

/-- The operation reaches no more than the peer view and the alerts. -/
abbrev State.OnlyDemand (s t : State) : Prop :=
  t.lq = s.lq ∧ t.pcA = s.pcA ∧ t.pcB = s.pcB ∧ t.bi = s.bi ∧ t.au = s.au ∧ t.cc = s.cc ∧ t.icu = s.icu ∧
  t.ds = s.ds ∧ t.lau = s.lau ∧ t.al.top = s.al.top ∧ t.al.flt = s.al.flt ∧ t.ioc = s.ioc ∧ t.cl = s.cl ∧
  t.released = s.released

/-- The operation reaches no more than the line access and the alerts. -/
abbrev State.OnlyErrors (s t : State) : Prop :=
  t.lq = s.lq ∧ t.pcA = s.pcA ∧ t.pcB = s.pcB ∧ t.bi = s.bi ∧ t.pv = s.pv ∧ t.au = s.au ∧ t.cc = s.cc ∧
  t.icu = s.icu ∧ t.ds = s.ds ∧ t.al.top = s.al.top ∧ t.al.flt = s.al.flt ∧ t.ioc = s.ioc ∧ t.cl = s.cl ∧
  t.released = s.released

/-- The operation reaches no more than the line access, the claim and the alerts. -/
abbrev State.OnlyAttempt (s t : State) : Prop :=
  t.lq = s.lq ∧ t.pcA = s.pcA ∧ t.pcB = s.pcB ∧ t.bi = s.bi ∧ t.pv = s.pv ∧ t.cc = s.cc ∧ t.icu = s.icu ∧
  t.ds = s.ds ∧ t.al.top = s.al.top ∧ t.al.flt = s.al.flt ∧ t.ioc = s.ioc ∧ t.cl = s.cl ∧ t.released = s.released

/-- The operation reaches no more than the controllers, the claim and the ICU. -/
abbrev State.OnlyGrant (s t : State) : Prop :=
  t.lq = s.lq ∧ t.bi = s.bi ∧ t.pv = s.pv ∧ t.cc = s.cc ∧ t.ds = s.ds ∧ t.lau = s.lau ∧ t.al = s.al ∧ t.ioc = s.ioc ∧
  t.cl = s.cl ∧ t.released = s.released

/-- The operation reaches no more than what a sample reaches. -/
abbrev State.OnlySample (s t : State) : Prop :=
  t.bi.hold.ds = s.bi.hold.ds ∧ t.bi.hold.cl = s.bi.hold.cl ∧ t.bi.permit = s.bi.permit ∧ t.bi.closed = s.bi.closed ∧
  t.bi.openConfirm = s.bi.openConfirm ∧ t.bi.stuck = s.bi.stuck ∧ t.pv = s.pv ∧ t.au = s.au ∧ t.ds = s.ds ∧
  t.lau = s.lau ∧ t.al.top = s.al.top ∧ t.al.flt = s.al.flt ∧ t.ioc = s.ioc ∧ t.cl = s.cl ∧ t.released = s.released

/-- The operation reaches no more than what the end of a read reaches. -/
abbrev State.OnlyRead (s t : State) : Prop :=
  t.lq = s.lq ∧ t.bi.permit = s.bi.permit ∧ t.bi.openConfirm = s.bi.openConfirm ∧ t.au = s.au ∧ t.icu = s.icu ∧
  t.al.top = s.al.top ∧ t.al.flt = s.al.flt ∧ t.released = s.released

/-- The operation reaches no more than what the report and the clear toggle reach. -/
abbrev State.OnlyToggles (s t : State) : Prop :=
  t.lq = s.lq ∧ t.pcA = s.pcA ∧ t.pcB = s.pcB ∧ t.bi = s.bi ∧ t.au = s.au ∧ t.cc = s.cc ∧ t.ds = s.ds ∧
  t.al.top = s.al.top ∧ t.al.flt = s.al.flt ∧ t.ioc = s.ioc ∧ t.cl = s.cl ∧ t.released = s.released

/-! ### How frames compose -/

theorem and_eq_trans {α : Type} {a b c : α} {p q r : Prop} (h : p → q → r) : b = a ∧ p → c = b ∧ q → c = a ∧ r :=
  fun x y => ⟨y.1.trans x.1, h x.2 y.2⟩

theorem prop_ite {α : Type} {P : α → Prop} {c : Prop} [Decidable c] {a b : α} (ha : P a) (hb : P b) :
    P (if c then a else b) := by
  split <;> assumption

theorem and_drop {p q r : Prop} (h : q → r) : p ∧ q → r := fun x => h x.2

section
variable {s t u : State}

theorem State.OnlyChangeover.trans : s.OnlyChangeover t → t.OnlyChangeover u → s.OnlyChangeover u := by
  repeat refine and_eq_trans ?_
  exact fun h k => k.trans h

theorem State.OnlyClaims.trans : s.OnlyClaims t → t.OnlyClaims u → s.OnlyClaims u := by
  repeat refine and_eq_trans ?_
  exact fun h k => k.trans h

theorem State.OnlyPans.trans : s.OnlyPans t → t.OnlyPans u → s.OnlyPans u := by
  repeat refine and_eq_trans ?_
  exact fun h k => k.trans h

theorem State.OnlyDrops.trans : s.OnlyDrops t → t.OnlyDrops u → s.OnlyDrops u := by
  repeat refine and_eq_trans ?_
  exact fun h k => k.trans h

theorem State.OnlyLowering.trans : s.OnlyLowering t → t.OnlyLowering u → s.OnlyLowering u := by
  repeat refine and_eq_trans ?_
  exact fun h k => k.trans h

theorem State.OnlyFault.trans : s.OnlyFault t → t.OnlyFault u → s.OnlyFault u := by
  repeat refine and_eq_trans ?_
  exact fun h k => k.trans h

theorem State.OnlyStowing.trans : s.OnlyStowing t → t.OnlyStowing u → s.OnlyStowing u := by
  repeat refine and_eq_trans ?_
  exact fun h k => k.trans h

theorem State.OnlyForcedDrop.trans : s.OnlyForcedDrop t → t.OnlyForcedDrop u → s.OnlyForcedDrop u := by
  repeat refine and_eq_trans ?_
  exact fun h k => k.trans h

theorem State.OnlySection.trans : s.OnlySection t → t.OnlySection u → s.OnlySection u := by
  repeat refine and_eq_trans ?_
  exact fun h k => k.trans h

theorem State.OnlyPass.trans : s.OnlyPass t → t.OnlyPass u → s.OnlyPass u := by
  repeat refine and_eq_trans ?_
  exact fun h k => k.trans h

theorem State.OnlyLatch.trans : s.OnlyLatch t → t.OnlyLatch u → s.OnlyLatch u := by
  repeat refine and_eq_trans ?_
  exact fun h k => k.trans h

theorem State.OnlyClearing.trans : s.OnlyClearing t → t.OnlyClearing u → s.OnlyClearing u := by
  repeat refine and_eq_trans ?_
  exact fun h k => k.trans h

theorem State.OnlyLegs.trans : s.OnlyLegs t → t.OnlyLegs u → s.OnlyLegs u := by
  repeat refine and_eq_trans ?_
  exact fun h k => k.trans h

theorem State.OnlyToggles.trans : s.OnlyToggles t → t.OnlyToggles u → s.OnlyToggles u := by
  repeat refine and_eq_trans ?_
  exact fun h k => k.trans h

theorem State.OnlyWindow.trans : s.OnlyWindow t → t.OnlyWindow u → s.OnlyWindow u := by
  repeat refine and_eq_trans ?_
  exact fun h k => k.trans h

theorem State.OnlyPans.toLowering : s.OnlyPans t → s.OnlyLowering t := by
  refine And.imp_right ?_
  exact fun ⟨bi, h⟩ => ⟨congrArg (·.hold.cc) bi, congrArg (·.hold.ds) bi, congrArg (·.hold.cl) bi,
    congrArg (·.permit) bi, congrArg (·.closed) bi, congrArg (·.openConfirm) bi, congrArg (·.stuck) bi, h⟩

theorem State.OnlyLowering.toFault : s.OnlyLowering t → s.OnlyFault t := by
  iterate 14 refine And.imp_right ?_
  exact fun ⟨al, h⟩ => ⟨congrArg (·.top) al, congrArg (·.flt) al, h⟩

theorem State.OnlyFault.toDrops : s.OnlyFault t → s.OnlyDrops t := by
  iterate 2 refine And.imp_right ?_
  refine and_drop ?_
  iterate 9 refine And.imp_right ?_
  refine and_drop ?_
  exact id

theorem State.OnlyLowering.toLatch : s.OnlyLowering t → s.OnlyLatch t := by
  iterate 2 refine And.imp_right ?_
  refine and_drop ?_
  iterate 9 refine And.imp_right ?_
  refine and_drop ?_
  exact id

theorem State.OnlyLatch.toDrops : s.OnlyLatch t → s.OnlyDrops t := by
  iterate 12 refine And.imp_right ?_
  exact fun ⟨al, h⟩ => ⟨congrArg (·.top) al, congrArg (·.flt) al, h⟩

theorem State.OnlyLowering.toStowing : s.OnlyLowering t → s.OnlyStowing t := by
  iterate 10 refine And.imp_right ?_
  refine and_drop ?_
  exact id

theorem State.OnlyStowing.toForcedDrop : s.OnlyStowing t → s.OnlyForcedDrop t := by
  iterate 13 refine And.imp_right ?_
  exact fun ⟨al, h⟩ => ⟨congrArg (·.top) al, congrArg (·.flt) al, h⟩

theorem State.OnlyLowering.toForcedDrop : s.OnlyLowering t → s.OnlyForcedDrop t := by
  iterate 10 refine And.imp_right ?_
  refine and_drop ?_
  iterate 3 refine And.imp_right ?_
  exact fun ⟨al, h⟩ => ⟨congrArg (·.top) al, congrArg (·.flt) al, h⟩

theorem State.OnlyForcedDrop.toSection : s.OnlyForcedDrop t → s.OnlySection t := by
  refine And.imp_right ?_
  refine and_drop ?_
  exact id

theorem State.OnlyPhase.toChangeover : s.OnlyPhase t → s.OnlyChangeover t := by
  iterate 16 refine And.imp_right ?_
  exact fun ⟨al, h⟩ => ⟨congrArg (·.top) al, congrArg (·.flt) al, h⟩

theorem State.OnlyChangeover.toSection : s.OnlyChangeover t → s.OnlySection t := by
  refine And.imp_right ?_
  refine and_drop ?_
  refine and_drop ?_
  refine and_drop ?_
  refine and_drop ?_
  exact id

theorem State.OnlyWants.toClaims : s.OnlyWants t → s.OnlyClaims t := by
  iterate 8 refine And.imp_right ?_
  refine and_drop ?_
  exact id

theorem State.OnlyLowering.toPass : s.OnlyLowering t → s.OnlyPass t := by
  iterate 11 refine And.imp_right ?_
  refine and_drop ?_
  exact id

theorem State.OnlyPass.toClearing : s.OnlyPass t → s.OnlyClearing t := by
  iterate 9 refine And.imp_right ?_
  refine and_drop ?_
  iterate 2 refine And.imp_right ?_
  refine and_drop ?_
  exact id

theorem State.OnlyClaims.toClearing : s.OnlyClaims t → s.OnlyClearing t := by
  refine And.imp_right ?_
  refine and_drop ?_
  refine and_drop ?_
  exact fun ⟨bi, pv, cc, _, h⟩ => ⟨congrArg (·.hold.cc) bi, congrArg (·.hold.ds) bi, congrArg (·.hold.cl) bi,
    congrArg (·.permit) bi, congrArg (·.closed) bi, congrArg (·.openConfirm) bi, congrArg (·.stuck) bi, pv, cc, h⟩

theorem State.OnlyLegs.toChangeover : s.OnlyLegs t → s.OnlyChangeover t := by
  iterate 3 refine And.imp_right ?_
  exact fun ⟨bi, pv, au, icu, ds, lau, al, h⟩ => ⟨congrArg (·.hold.pcA) bi, congrArg (·.hold.pcB) bi,
    congrArg (·.hold.ds) bi, congrArg (·.hold.cl) bi, congrArg (·.permit) bi, congrArg (·.closed) bi,
    congrArg (·.openConfirm) bi, congrArg (·.stuck) bi, pv, au, icu, ds, lau, congrArg (·.top) al,
    congrArg (·.flt) al, h⟩

theorem State.OnlyIce.toWindow : s.OnlyIce t → s.OnlyWindow t := by
  refine and_drop ?_
  exact id

end

theorem State.OnlyPans.refl (s : State) : s.OnlyPans s := by and_intros <;> rfl

theorem State.OnlyLowering.refl (s : State) : s.OnlyLowering s := by and_intros <;> rfl

theorem State.OnlyDrops.refl (s : State) : s.OnlyDrops s := by and_intros <;> rfl

theorem State.OnlyChangeover.refl (s : State) : s.OnlyChangeover s := by and_intros <;> rfl

theorem State.OnlyClaims.refl (s : State) : s.OnlyClaims s := by and_intros <;> rfl

theorem State.OnlyWants.refl (s : State) : s.OnlyWants s := by and_intros <;> rfl

theorem State.OnlySection.refl (s : State) : s.OnlySection s := by and_intros <;> rfl

theorem State.OnlyPass.refl (s : State) : s.OnlyPass s := by and_intros <;> rfl

theorem State.OnlyLatch.refl (s : State) : s.OnlyLatch s := by and_intros <;> rfl

theorem State.OnlyForcedDrop.refl (s : State) : s.OnlyForcedDrop s := by and_intros <;> rfl

theorem State.OnlyLegs.refl (s : State) : s.OnlyLegs s := by and_intros <;> rfl

theorem State.OnlyStowing.refl (s : State) : s.OnlyStowing s := by and_intros <;> rfl

theorem State.OnlyClearing.refl (s : State) : s.OnlyClearing s := by and_intros <;> rfl

theorem State.OnlyIce.refl (s : State) : s.OnlyIce s := by and_intros <;> rfl

theorem State.OnlyWindow.refl (s : State) : s.OnlyWindow s := by and_intros <;> rfl

theorem State.setPc_pans (s : State) (p : Pan) (c : PC) : s.OnlyPans (s.setPc p c) := by
  cases p <;> and_intros <;> rfl

theorem State.setPc_lowering (s : State) (p : Pan) (c : PC) : s.OnlyLowering (s.setPc p c) := (s.setPc_pans p c).toLowering

theorem State.holdPan_lowering (s : State) (p : Pan) (v : Bool) : s.OnlyLowering (s.holdPan p v) := by
  cases p <;> and_intros <;> rfl

theorem State.request_fault (s : State) (k : AlertKind) : s.OnlyFault (s.request k) := by and_intros <;> rfl

theorem State.setCC_legs (s : State) (c : CC) : s.OnlyLegs { s with cc := c } := by and_intros <;> rfl

theorem State.setCC_phase (s : State) (c : CC) : s.OnlyPhase { s with cc := c } := by and_intros <;> rfl

theorem State.setCC_changeover (s : State) (c : CC) : s.OnlyChangeover { s with cc := c } := (s.setCC_phase c).toChangeover

theorem State.setCC_section (s : State) (c : CC) : s.OnlySection { s with cc := c } := (s.setCC_changeover c).toSection

theorem State.setAU_wants (s : State) (a : AU) : s.OnlyWants { s with au := a } := by and_intros <;> rfl

theorem State.setAU_claims (s : State) (a : AU) : s.OnlyClaims { s with au := a } := (s.setAU_wants a).toClaims

theorem State.setICU_ice (s : State) (i : ICU) : s.OnlyIce { s with icu := i } := by and_intros <;> rfl

theorem State.setICU_pass (s : State) (i : ICU) : s.OnlyPass { s with icu := i } := by and_intros <;> rfl

theorem State.setLatch_only (s : State) (c : DropCondition) : s.OnlyLatch (s.setLatch c) := by and_intros <;> rfl

theorem State.setCause_only (s : State) (c : DropCondition) (v : Bool) : s.OnlyLatch (s.setCause c v) := by
  and_intros <;> rfl

/-! ### What each operation leaves unchanged -/

@[simp] theorem State.setLatch_hold (s : State) (c : DropCondition) :
    (s.setLatch c).bi.hold.pcA = s.bi.hold.pcA ∧ (s.setLatch c).bi.hold.pcB = s.bi.hold.pcB ∧
    (s.setLatch c).bi.hold.cc = s.bi.hold.cc ∧ (s.setLatch c).bi.permit = s.bi.permit ∧
    (s.setLatch c).bi.openConfirm = s.bi.openConfirm := by simp [State.setLatch]

@[simp] theorem State.keepLatches_hold (s : State) (d : DropSet) :
    (s.keepLatches d).bi.hold.pcA = s.bi.hold.pcA ∧ (s.keepLatches d).bi.hold.pcB = s.bi.hold.pcB ∧
    (s.keepLatches d).bi.hold.cc = s.bi.hold.cc ∧ (s.keepLatches d).bi.hold.cl = s.bi.hold.cl ∧
    (s.keepLatches d).bi.permit = s.bi.permit ∧ (s.keepLatches d).bi.closed = s.bi.closed ∧
    (s.keepLatches d).bi.openConfirm = s.bi.openConfirm ∧ (s.keepLatches d).bi.stuck = s.bi.stuck := by
  and_intros <;> rfl

@[simp] theorem State.advancePan_frame (s : State) (p : Pan) : s.OnlyPans (s.advancePan p) :=
  s.setPc_pans p _

@[simp] theorem State.softLower_frame (s : State) (p : Pan) : s.OnlyLowering (s.softLower p) :=
  prop_ite (P := s.OnlyLowering)
    (prop_ite ((s.setPc_lowering ..).trans (State.holdPan_lowering ..)) (s.setPc_lowering ..)) (.refl s)

@[simp] theorem State.fastDrop_frame (s : State) (p : Pan) : s.OnlyLowering (s.fastDrop p) :=
  prop_ite (P := s.OnlyLowering) (.refl s)
    (prop_ite (prop_ite ((s.setPc_lowering ..).trans (State.holdPan_lowering ..)) (s.setPc_lowering ..))
      (prop_ite (s.setPc_lowering ..) (.refl s)))

@[simp] theorem State.faultDrop_frame (s : State) (p : Pan) (k : FaultCause) : s.OnlyFault (s.faultDrop p k) :=
  ((s.fastDrop_frame p).toFault.trans (State.setPc_lowering ..).toFault).trans (State.request_fault ..)

@[simp] theorem State.downInFault_frame (s : State) (p : Pan) : s.OnlyLowering (s.downInFault p) :=
  (s.setPc_lowering ..).trans (State.holdPan_lowering ..)

@[simp] theorem State.enterFault_frame (s : State) (p : Pan) (k : FaultCause) : s.OnlyFault (s.enterFault p k) := by
  have held (c : PC) (b : Bool) : s.OnlyFault (let t := (s.setPc p c).request (panFaultKind p)
      if b then t.holdPan p true else t) :=
    have t := ((s.setPc_lowering p c).toFault).trans (State.request_fault _ _)
    prop_ite (t.trans (State.holdPan_lowering ..).toFault) t
  exact prop_ite (P := s.OnlyFault) ((held ..).trans (State.downInFault_frame ..).toFault) (held ..)

@[simp] theorem State.downInLowering_frame (s : State) (p : Pan) : s.OnlyFault (s.downInLowering p) := by
  unfold State.downInLowering
  cases (s.pc p).pendingFault
  · exact ((s.setPc_lowering ..).trans (State.holdPan_lowering ..)).toFault
  · exact s.enterFault_frame ..

@[simp] theorem State.lowerTimeout_frame (s : State) (p : Pan) : s.OnlyFault (s.lowerTimeout p) :=
  s.enterFault_frame ..

@[simp] theorem State.airLoss_frame (s : State) (p : Pan) : s.OnlyDrops (s.airLoss p) :=
  (s.faultDrop_frame ..).toDrops.trans (prop_ite (P := State.OnlyDrops _) (.refl _) (State.setLatch_only ..).toDrops)

@[simp] theorem State.sense_frame (s : State) (p : Pan) : s.OnlyDrops (s.sense p) := by
  refine prop_ite (P := s.OnlyDrops) (.refl s) ?_
  cases (s.pc p).state
  case down => exact .refl s
  case rising => exact prop_ite (s.airLoss_frame p) (prop_ite (s.setPc_lowering ..).toFault.toDrops (.refl s))
  case up => exact prop_ite (s.airLoss_frame p) (prop_ite (s.enterFault_frame ..).toDrops (.refl s))
  case lowering => exact prop_ite (s.downInLowering_frame p).toDrops (.refl s)
  case fault => exact prop_ite (s.downInFault_frame p).toFault.toDrops (.refl s)

@[simp] theorem State.watchIsolated_frame (s : State) (p : Pan) : s.OnlyPans (s.watchIsolated p) :=
  prop_ite (P := s.OnlyPans) (s.setPc_pans p _) (.refl s)

@[simp] theorem State.pantographs_frame (s : State) : s.OnlyDrops s.pantographs := by
  have sensed := (s.sense_frame .a).trans ((s.sense .a).sense_frame .b)
  have advanced := (((s.sense .a).sense .b).advancePan_frame .a).trans (State.advancePan_frame _ .b)
  have watched := (advanced.trans (State.watchIsolated_frame _ .a)).trans (State.watchIsolated_frame _ .b)
  exact sensed.trans watched.toLowering.toFault.toDrops

@[simp] theorem State.abandonWindow_frame (s : State) : s.OnlyWindow s.abandonWindow := by
  unfold State.abandonWindow; dsimp only; split <;> [split_ifs; skip] <;> and_intros <;> rfl

@[simp] theorem State.takeArcPan_frame (r s : State) : s.OnlyIce (r.takeArcPan s) := by
  unfold State.takeArcPan; split_ifs <;> and_intros <;> rfl

@[simp] theorem State.wiring_frame (r s : State) : s.OnlyWindow (r.wiring s) := by
  have abandoned := prop_ite (P := s.OnlyWindow) (c := wiringChanged r s) s.abandonWindow_frame (.refl s)
  exact abandoned.trans (State.takeArcPan_frame r _).toWindow

@[simp] theorem State.clearMarks_frame (s : State) : s.OnlyWants s.clearMarks := by
  and_intros <;> rfl

@[simp] theorem State.abort_frame (s : State) : s.OnlyChangeover s.abort := by
  and_intros <;> rfl

@[simp] theorem State.enterOpening_frame (s : State) : s.OnlyPhase s.enterOpening := by
  and_intros <;> rfl

@[simp] theorem State.enterStowing_frame (s : State) : s.OnlyStowing s.enterStowing := by
  have phase : s.OnlyStowing { s with cc := { s.cc with phase := .stowing } } := by and_intros <;> rfl
  have a (c : Bool) := prop_ite (P := s.OnlyStowing) (c := c) (phase.trans (State.softLower_frame _ .a).toStowing) phase
  exact prop_ite (P := s.OnlyStowing) ((a _).trans (State.softLower_frame ..).toStowing) (a _)

@[simp] theorem State.markForcedDrop_frame (s : State) :
    s.markForcedDrop.lq = s.lq ∧ s.markForcedDrop.pcA = s.pcA ∧ s.markForcedDrop.pcB = s.pcB ∧
    s.markForcedDrop.bi = s.bi ∧ s.markForcedDrop.pv = s.pv ∧ s.markForcedDrop.au = s.au ∧
    s.markForcedDrop.icu = s.icu ∧ s.markForcedDrop.ds = s.ds ∧ s.markForcedDrop.lau = s.lau ∧
    s.markForcedDrop.al.top = s.al.top ∧ s.markForcedDrop.al.flt = s.al.flt ∧ s.markForcedDrop.ioc = s.ioc ∧
    s.markForcedDrop.cl = s.cl ∧ s.markForcedDrop.released = s.released := by
  and_intros <;> rfl

@[simp] theorem State.forcedDropAll_frame (s : State) : s.OnlyForcedDrop s.forcedDropAll := by
  have dropped := ((s.fastDrop_frame .a).trans (State.fastDrop_frame _ .b)).toForcedDrop
  refine dropped.trans ?_
  and_intros <;> rfl

@[simp] theorem State.forcedDropStowing_frame (s : State) : s.OnlyForcedDrop s.forcedDropStowing := by
  have a := prop_ite (P := s.OnlyLowering) (c := s.lateStowing .a) (s.fastDrop_frame .a) (.refl s)
  have dropped := prop_ite (P := s.OnlyLowering) (c := s.lateStowing .b) (a.trans (State.fastDrop_frame _ .b)) a
  refine prop_ite (P := s.OnlyForcedDrop) (dropped.toForcedDrop.trans ?_) (.refl s)
  and_intros <;> rfl

@[simp] theorem State.loadLeg3_frame (s : State) : s.OnlyLegs s.loadLeg3 := by
  and_intros <;> rfl

@[simp] theorem State.leg2Effect_frame (s : State) : s.OnlyForcedDrop s.leg2Effect := by
  unfold State.leg2Effect
  cases s.cc.phase
  case opening =>
    exact prop_ite s.forcedDropAll_frame (s.enterStowing_frame.toForcedDrop.trans (State.forcedDropStowing_frame _))
  case stowing => exact s.forcedDropStowing_frame
  all_goals exact .refl s

@[simp] theorem State.endLeg2_frame (s : State) : s.OnlyForcedDrop s.endLeg2 := by
  refine s.leg2Effect_frame.trans ?_
  and_intros <;> rfl

@[simp] theorem State.loadLeg2_frame (s : State) : s.OnlyLegs s.loadLeg2 := by
  and_intros <;> rfl

@[simp] theorem State.endLeg1_frame (s : State) : s.OnlyPhase s.endLeg1 := by
  and_intros <;> rfl

@[simp] theorem State.loadLeg1_frame (s : State) (n : Int) : s.OnlyPhase (s.loadLeg1 n) :=
  prop_ite (P := s.OnlyPhase) s.endLeg1_frame (s.setCC_phase _)

@[simp] theorem State.endLeg3_frame (s : State) : s.OnlyLegs s.endLeg3 := by
  and_intros <;> rfl

@[simp] theorem State.setUp_frame (s : State) (im : Image) (sec : CurrentSection) :
    s.OnlyChangeover (s.setUp im sec) := by
  have fresh := s.setCC_changeover { s.cc with current := some sec, countdown := .stopped, nextPan := none }
  unfold State.setUp
  dsimp only
  cases State.chooseNext _ im sec.next
  · exact fresh.trans (State.abort_frame _)
  · exact (fresh.trans (State.setCC_changeover ..)).trans (State.loadLeg1_frame ..).toChangeover

@[simp] theorem State.takeUpPending_frame (s : State) (im : Image) : s.OnlyChangeover (s.takeUpPending im) := by
  unfold State.takeUpPending
  cases s.cc.pendingSec
  · exact .refl s
  · exact (s.setCC_changeover _).trans (State.setUp_frame ..)

@[simp] theorem State.returnToNormal_frame (s : State) (im : Image) : s.OnlyChangeover (s.returnToNormal im) := by
  refine .trans (t := State.holdCC { s with cc := _ } false) ?_ (State.takeUpPending_frame _ im)
  and_intros <;> rfl

@[simp] theorem State.keepPending_frame (s : State) (r : SectionRecord) : s.OnlyLegs (s.keepPending r) := by
  and_intros <;> rfl

@[simp] theorem State.takeRecord_frame (s : State) (im : Image) (r : SectionRecord) :
    s.OnlyChangeover (s.takeRecord im r) := by
  unfold State.takeRecord
  cases s.cc.phase
  case normal | armed => exact s.setUp_frame ..
  case aborted => exact (s.setCC_changeover _).trans (State.returnToNormal_frame ..)
  all_goals exact s.setCC_changeover _

@[simp] theorem State.takeIdZero_frame (s : State) (im : Image) : s.OnlyChangeover (s.takeIdZero im) := by
  unfold State.takeIdZero
  cases s.cc.phase
  case normal => exact s.setCC_changeover _
  case armed | aborted => exact (s.setCC_changeover _).trans (State.returnToNormal_frame ..)
  all_goals exact .refl s

@[simp] theorem State.restoreCC_frame (s : State) (im : Image) : s.OnlyChangeover (s.restoreCC im) :=
  prop_ite (P := s.OnlyChangeover) (s.returnToNormal_frame im) (.refl s)

@[simp] theorem State.sectionRecord_frame (s : State) (im : Image) (r : SectionRecord) (b : Bool) :
    s.OnlyChangeover (s.sectionRecord im r b) :=
  prop_ite (P := s.OnlyChangeover) (prop_ite (s.restoreCC_frame im) (.refl s))
    (prop_ite (s.restoreCC_frame im) (s.takeRecord_frame im r))

@[simp] theorem State.ccDemand_frame (s : State) (im : Image) (d : DemandInForce) (b : Bool) :
    s.OnlyChangeover (s.ccDemand im d b) := by
  have taken : s.OnlyChangeover
      (match d.sect with | some r => s.sectionRecord im r b | none => s.takeIdZero im) := by
    cases d.sect
    · exact s.takeIdZero_frame im
    · exact s.sectionRecord_frame ..
  unfold State.ccDemand
  cases d.presence
  · exact prop_ite (s.restoreCC_frame im) (.refl s)
  all_goals exact taken

@[simp] theorem State.ccHanded_frame (s : State) (im : Image) (d : DemandInForce) (b : Bool) :
    s.OnlyChangeover (s.ccHanded im d b) :=
  prop_ite (P := s.OnlyChangeover) (prop_ite (s.restoreCC_frame im) (.refl s)) (s.ccDemand_frame im d b)

@[simp] theorem State.ccDirection_frame (s : State) (im : Image) : s.OnlyChangeover (s.ccDirection im) := by
  have cleared := s.setCC_changeover { s.cc with pendingSec := none }
  unfold State.ccDirection
  dsimp only
  cases s.cc.phase
  case normal | aborted => exact cleared
  case armed => exact cleared.trans (State.returnToNormal_frame ..)
  all_goals exact cleared.trans (State.abort_frame _)

@[simp] theorem State.enterClosing_frame (s : State) : s.OnlyPhase s.enterClosing := by
  and_intros <;> rfl

@[simp] theorem State.failRequalify_frame (s : State) : s.OnlySection s.failRequalify := by
  unfold State.failRequalify
  cases s.cc.nextPan
  · exact s.abort_frame.toSection
  · exact (s.softLower_frame _).toForcedDrop.toSection.trans (State.abort_frame _).toSection

@[simp] theorem State.judgeWindow_frame (s : State) (im : Image) : s.OnlySection (s.judgeWindow im) := by
  have counted := s.setCC_section { s.cc with rqCount := satInc 255 s.cc.rqCount }
  refine prop_ite (P := s.OnlySection) ?_ (.refl s)
  dsimp only
  cases State.qualifying _ im
  · exact counted
  · exact prop_ite (counted.trans (State.enterClosing_frame _).toChangeover.toSection)
      (counted.trans (State.failRequalify_frame _))

@[simp] theorem State.reactFault_frame (s : State) (im : Image) : s.OnlyChangeover (s.reactFault im) := by
  have chosen (p : Pan) : s.OnlyChangeover { s with cc := { s.cc with nextPan := some p } } := s.setCC_changeover _
  unfold State.reactFault
  cases s.cc.nextPan <;> cases s.cc.nextSystem
  case some.some p next =>
    refine prop_ite ?_ (.refl s)
    cases s.chooseNext im next with
    | none => exact s.abort_frame
    | some q =>
      dsimp only
      cases s.cc.phase
      case closing => and_intros <;> rfl
      all_goals exact s.setCC_changeover _
  all_goals exact .refl s

@[simp] theorem State.reactOpening_frame (s : State) : s.OnlyStowing s.reactOpening :=
  prop_ite (P := s.OnlyStowing) s.enterStowing_frame (.refl s)

@[simp] theorem State.reactStowing_frame (s : State) : s.OnlyLegs s.reactStowing :=
  prop_ite (P := s.OnlyLegs) (s.setCC_legs _) (.refl s)

@[simp] theorem State.reactCoasting_frame (s : State) : s.OnlyLegs s.reactCoasting :=
  prop_ite (P := s.OnlyLegs) (s.setCC_legs _) (.refl s)

@[simp] theorem State.reactClosing_frame (s : State) (im : Image) : s.OnlyChangeover (s.reactClosing im) := by
  refine prop_ite (P := s.OnlyChangeover)
    (prop_ite ?_ (prop_ite (s.returnToNormal_frame im) (.refl s))) (.refl s)
  and_intros <;> rfl

@[simp] theorem State.reactRequalify_frame (s : State) : s.OnlyLegs s.reactRequalify :=
  prop_ite (P := s.OnlyLegs)
    (prop_ite (prop_ite (s.setCC_legs _) (s.setCC_legs _)) (s.setCC_legs _)) (.refl s)

@[simp] theorem State.ccReact_frame (s : State) (im : Image) : s.OnlySection (s.ccReact im) := by
  have opened := (s.reactFault_frame im).toSection.trans (State.reactOpening_frame _).toForcedDrop.toSection
  have coasting := opened.trans
    ((State.reactStowing_frame _).trans (State.reactCoasting_frame _)).toChangeover.toSection
  exact (coasting.trans (State.reactClosing_frame _ im).toSection).trans
    (State.reactRequalify_frame _).toChangeover.toSection

@[simp] theorem State.countPulse_frame (s : State) : s.OnlySection s.countPulse := by
  unfold State.countPulse
  cases s.cc.countdown with
  | running leg n =>
    refine prop_ite ?_ (s.setCC_section _)
    cases leg
    · exact s.endLeg1_frame.toChangeover.toSection
    · exact s.endLeg2_frame.toSection
    · exact s.setCC_section _
  | stopped | ended => exact .refl s

@[simp] theorem State.withdraw_frame (s : State) : s.OnlyClaims s.withdraw := by
  simp [State.OnlyClaims, State.withdraw]

@[simp] theorem State.dropWant_frame (s : State) (k : ClaimKind) : s.OnlyClaims (s.dropWant k) := by
  have dropped (a : AU) : s.OnlyClaims (if s.au.claims k then ({ s with au := a } : State).withdraw else { s with au := a }) :=
    prop_ite ((s.setAU_claims a).trans (State.withdraw_frame _)) (s.setAU_claims a)
  cases k <;> exact dropped _

@[simp] theorem State.placeRaise_frame (s : State) (w : RaiseWant) : s.OnlyWants (s.placeRaise w) :=
  prop_ite (P := s.OnlyWants) (.refl s) (s.setAU_wants _)

@[simp] theorem State.placeScrape_frame (s : State) (p : Pan) : s.OnlyWants (s.placeScrape p) :=
  prop_ite (P := s.OnlyWants) (.refl s) (s.setAU_wants _)

@[simp] theorem State.placeHeat_frame (s : State) (w : HeatWant) : s.OnlyWants (s.placeHeat w) :=
  prop_ite (P := s.OnlyWants) (.refl s) (s.setAU_wants _)

@[simp] theorem State.endScrape_frame (s : State) (im : Image) (p : Pan) : s.OnlyPass (s.endScrape im p) :=
  (s.softLower_frame p).toPass.trans (State.setICU_pass ..)

@[simp] theorem State.judgeSevere_frame (s : State) (im : Image) :
    (s.judgeSevere im).lq = s.lq ∧ (s.judgeSevere im).pcA = s.pcA ∧ (s.judgeSevere im).pcB = s.pcB ∧
    (s.judgeSevere im).bi = s.bi ∧ (s.judgeSevere im).pv = s.pv ∧ (s.judgeSevere im).au = s.au ∧
    (s.judgeSevere im).cc = s.cc ∧ (s.judgeSevere im).ds = s.ds ∧ (s.judgeSevere im).lau = s.lau ∧
    (s.judgeSevere im).al.top = s.al.top ∧ (s.judgeSevere im).al.flt = s.al.flt ∧ (s.judgeSevere im).ioc = s.ioc ∧
    (s.judgeSevere im).cl = s.cl ∧ (s.judgeSevere im).released = s.released := by
  unfold State.judgeSevere; dsimp only; split_ifs <;> and_intros <;> rfl

@[simp] theorem State.heatersOff_frame (s : State) : s.OnlyIce s.heatersOff := by
  and_intros <;> rfl

@[simp] theorem State.endPass_frame (s : State) (im : Image) : s.OnlyPass (s.endPass im) := by
  unfold State.endPass
  cases s.icu.scrape
  · exact .refl s
  · exact s.endScrape_frame ..

@[simp] theorem State.leaveClearing_frame (s : State) (im : Image) : s.OnlyClearing (s.leaveClearing im) :=
  ((s.dropWant_frame .scrape).trans (State.dropWant_frame _ .heat)).toClearing.trans
    ((State.setICU_pass ..).trans (State.endPass_frame ..)).toClearing

@[simp] theorem State.markPending_frame (s : State) : s.OnlyLine s.markPending := by
  and_intros <;> rfl

@[simp] theorem State.formIce_frame (s : State) (im : Image) : s.OnlyClearing (s.formIce im) := by
  have left := (s.leaveClearing_frame im).trans (State.setICU_pass _ { (s.leaveClearing im).icu with state := s.nextIce im, clearStreak := 0 }).toClearing
  refine prop_ite (P := s.OnlyClearing) (prop_ite (prop_ite (left.trans ?_) left) (.refl s)) (s.setICU_pass _).toClearing
  and_intros <;> rfl

@[simp] theorem State.guardHeaters_frame (s : State) (im : Image) : s.OnlyIce (s.guardHeaters im) := by
  and_intros <;> rfl

@[simp] theorem State.reactPass_frame (s : State) (im : Image) : s.OnlyPass (s.reactPass im) := by
  unfold State.reactPass
  cases s.icu.scrape
  · exact .refl s
  · exact prop_ite (.refl s) (s.endScrape_frame ..)

@[simp] theorem State.loadScrape_frame (s : State) (im : Image) : s.OnlyIce (s.loadScrape im) := by
  unfold State.loadScrape
  cases s.icu.scrape
  · exact .refl s
  · exact prop_ite (s.setICU_ice _) (.refl s)

@[simp] theorem State.icuReact_frame (s : State) (im : Image) :
    (s.icuReact im).lq = s.lq ∧ (s.icuReact im).bi.hold.cc = s.bi.hold.cc ∧
    (s.icuReact im).bi.hold.ds = s.bi.hold.ds ∧ (s.icuReact im).bi.hold.cl = s.bi.hold.cl ∧
    (s.icuReact im).bi.permit = s.bi.permit ∧ (s.icuReact im).bi.closed = s.bi.closed ∧
    (s.icuReact im).bi.openConfirm = s.bi.openConfirm ∧ (s.icuReact im).bi.stuck = s.bi.stuck ∧
    (s.icuReact im).pv = s.pv ∧ (s.icuReact im).cc = s.cc ∧ (s.icuReact im).ds = s.ds ∧
    (s.icuReact im).al.top = s.al.top ∧ (s.icuReact im).al.flt = s.al.flt ∧ (s.icuReact im).ioc = s.ioc ∧
    (s.icuReact im).cl = s.cl ∧ (s.icuReact im).released = s.released := by
  simp [State.icuReact]

@[simp] theorem State.latchSoft_frame (s : State) (c : DropCondition) : s.OnlyLatch (s.latchSoft c) :=
  prop_ite (P := s.OnlyLatch) (.refl s)
    (((s.softLower_frame .a).trans (State.softLower_frame _ .b)).toLatch.trans (State.setLatch_only ..))

@[simp] theorem State.latchEmergency_frame (s : State) : s.OnlyLatch s.latchEmergency :=
  prop_ite (P := s.OnlyLatch) (.refl s)
    (((s.fastDrop_frame .a).trans (State.fastDrop_frame _ .b)).toLatch.trans (State.setLatch_only ..))

@[simp] theorem State.judgeCause_frame (s : State) (im : Image) (c : DropCondition) :
    s.OnlyDrops (s.judgeCause im c) := by
  have set := (s.setCause_only c (s.maskableCause im c)).toDrops
  have asked := prop_ite (P := s.OnlyDrops) (c := c = .wrongSystem) (set.trans (State.request_fault _ .wrongSystem).toDrops) set
  exact prop_ite (P := s.OnlyDrops) (prop_ite (asked.trans (State.latchSoft_frame ..).toDrops) asked) set

@[simp] theorem State.restoreMaskable_frame (s : State) : s.OnlyRestore s.restoreMaskable := by
  and_intros <;> rfl

@[simp] theorem State.formRestore_frame (s : State) (im : Image) : s.OnlyRestore (s.formRestore im) := by
  refine prop_ite (P := s.OnlyRestore) (prop_ite s.restoreMaskable_frame ?_) ?_ <;> and_intros <;> rfl

@[simp] theorem State.dsReact_frame (s : State) (im : Image) : s.OnlyDrops (s.dsReact im) := by
  simp [State.OnlyDrops, State.dsReact]

@[simp] theorem State.formProfile_frame (s : State) (im : Image) : s.OnlyWants (s.formProfile im) := by
  and_intros <;> rfl

@[simp] theorem State.reactRaise_frame (s : State) (im : Image) : s.OnlyClaims (s.reactRaise im) := by
  have barred := prop_ite (P := s.OnlyClaims) (c := s.raiseBarred && s.au.raise.isSome) (s.dropWant_frame .raise) (.refl s)
  refine prop_ite (P := s.OnlyClaims) ?_ barred
  cases State.raiseTarget _ im
  · exact prop_ite (barred.trans (State.dropWant_frame ..)) barred
  · exact prop_ite barred (prop_ite (barred.trans (State.placeRaise_frame ..).toClaims) barred)

@[simp] theorem State.reactScrape_frame (s : State) (im : Image) : s.OnlyClaims (s.reactScrape im) := by
  unfold State.reactScrape
  cases (if s.mayScrape im .a then some Pan.a else if s.mayScrape im .b then some Pan.b else none)
  · exact prop_ite (s.dropWant_frame _) (.refl s)
  · exact prop_ite (.refl s)
      (prop_ite ((s.dropWant_frame _).trans (State.placeScrape_frame ..).toClaims) (s.placeScrape_frame _).toClaims)

@[simp] theorem State.others_frame (s : State) :
    s.others.lq = s.lq ∧ s.others.bi.hold.cl = s.bi.hold.cl ∧ s.others.bi.permit = s.bi.permit ∧
    s.others.bi.closed = s.bi.closed ∧ s.others.bi.openConfirm = s.bi.openConfirm ∧ s.others.bi.stuck = s.bi.stuck ∧
    s.others.pv = s.pv ∧ s.others.al.top = s.al.top ∧ s.others.al.flt = s.al.flt ∧ s.others.ioc = s.ioc ∧
    s.others.cl = s.cl ∧ s.others.released = s.released := by
  unfold State.others State.ifGood; split <;> simp

@[simp] theorem State.formTargets_frame (s : State) : s.OnlyPans s.formTargets := by
  and_intros <;> rfl

@[simp] theorem State.round_frame (r s : State) : s.OnlyReactions ((r.round s).2) := by
  simp [State.OnlyReactions, State.round]

@[simp] theorem settle_frame (n : Nat) (r s : State) : s.OnlyReactions (settle n r s) := by
  induction n generalizing r s with
  | zero => simp [State.OnlyReactions, settle]
  | succ n ih => simp [State.OnlyReactions, settle, ih]

@[simp] theorem State.guard_frame (s : State) :
    s.guard.lq = s.lq ∧ s.guard.bi = s.bi ∧ s.guard.pv = s.pv ∧ s.guard.au = s.au ∧ s.guard.cc = s.cc ∧
    s.guard.ds = s.ds ∧ s.guard.lau = s.lau ∧ s.guard.al = s.al ∧ s.guard.ioc = s.ioc ∧ s.guard.cl = s.cl ∧
    s.guard.released = s.released := by
  unfold State.guard State.ifGood; split <;> simp

@[simp] theorem State.formHeat_frame (s : State) (im : Image) : s.OnlyClaims (s.formHeat im) := by
  unfold State.formHeat
  cases s.heatTarget im
  · exact prop_ite (s.dropWant_frame _) (.refl s)
  · exact prop_ite (.refl s) (s.placeHeat_frame _).toClaims

@[simp] theorem State.formHeatWant_frame (b s : State) : s.OnlyClaims (b.formHeatWant s) := by
  unfold State.formHeatWant State.ifGood State.reactHeat; split <;> [(dsimp only; split_ifs); skip] <;> (show _ ∧ _) <;> simp

@[simp] theorem State.formOpenConfirm_frame (b s : State) :
    (b.formOpenConfirm s).lq = s.lq ∧ (b.formOpenConfirm s).pcA = s.pcA ∧ (b.formOpenConfirm s).pcB = s.pcB ∧
    (b.formOpenConfirm s).bi.hold.pcA = s.bi.hold.pcA ∧ (b.formOpenConfirm s).bi.hold.pcB = s.bi.hold.pcB ∧
    (b.formOpenConfirm s).bi.hold.cc = s.bi.hold.cc ∧ (b.formOpenConfirm s).bi.hold.ds = s.bi.hold.ds ∧
    (b.formOpenConfirm s).bi.hold.cl = s.bi.hold.cl ∧ (b.formOpenConfirm s).bi.permit = s.bi.permit ∧
    (b.formOpenConfirm s).bi.closed = s.bi.closed ∧ (b.formOpenConfirm s).bi.stuck = s.bi.stuck ∧
    (b.formOpenConfirm s).pv = s.pv ∧ (b.formOpenConfirm s).au = s.au ∧ (b.formOpenConfirm s).cc = s.cc ∧
    (b.formOpenConfirm s).icu = s.icu ∧ (b.formOpenConfirm s).ds = s.ds ∧ (b.formOpenConfirm s).lau = s.lau ∧
    (b.formOpenConfirm s).al = s.al ∧ (b.formOpenConfirm s).ioc = s.ioc ∧ (b.formOpenConfirm s).cl = s.cl ∧
    (b.formOpenConfirm s).released = s.released := by
  and_intros <;> rfl

@[simp] theorem State.formPermit_frame (s : State) :
    s.formPermit.lq = s.lq ∧ s.formPermit.pcA = s.pcA ∧ s.formPermit.pcB = s.pcB ∧
    s.formPermit.bi.hold.pcA = s.bi.hold.pcA ∧ s.formPermit.bi.hold.pcB = s.bi.hold.pcB ∧
    s.formPermit.bi.hold.cc = s.bi.hold.cc ∧ s.formPermit.bi.hold.ds = s.bi.hold.ds ∧
    s.formPermit.bi.hold.cl = s.bi.hold.cl ∧ s.formPermit.bi.closed = s.bi.closed ∧
    s.formPermit.bi.openConfirm = s.bi.openConfirm ∧ s.formPermit.bi.stuck = s.bi.stuck ∧ s.formPermit.pv = s.pv ∧
    s.formPermit.au = s.au ∧ s.formPermit.cc = s.cc ∧ s.formPermit.icu = s.icu ∧ s.formPermit.ds = s.ds ∧
    s.formPermit.lau = s.lau ∧ s.formPermit.al = s.al ∧ s.formPermit.ioc = s.ioc ∧ s.formPermit.cl = s.cl ∧
    s.formPermit.released = s.released := by
  and_intros <;> rfl

@[simp] theorem State.evaluateConflict_frame (s : State) (im : Image) : s.OnlyWants (s.evaluateConflict im) := by
  and_intros <;> rfl

@[simp] theorem State.openClaim_frame (s : State) (im : Image) (h : Head) : s.OnlyClaims (s.openClaim im h) := by
  and_intros <;> rfl

@[simp] theorem State.testFirst_frame (s : State) (im : Image) : s.OnlyClaims (s.testFirst im) := by
  unfold State.testFirst; split <;> (try split_ifs) <;> and_intros <;> rfl

@[simp] theorem State.claimTest_frame (s : State) (im : Image) : s.OnlyClaims (s.claimTest im) := by
  have timed := s.setAU_claims { s.au with retestT := if s.au.noWants then none else .started }
  have headTested (t : State) (ht : s.OnlyClaims t) : s.OnlyClaims
      (match t.au.head with | some h => if t.passes im h then t else t.withdraw.testFirst im | none => t) := by
    cases t.au.head
    · exact ht
    · exact prop_ite ht ((ht.trans (State.withdraw_frame _)).trans (State.testFirst_frame ..))
  exact prop_ite (P := s.OnlyClaims) (headTested _ timed) (timed.trans (State.testFirst_frame ..))

@[simp] theorem State.admission_frame (b s : State) (q : Bool) : s.OnlyClaims (b.admission q s) := by
  unfold State.admission State.ifGood
  cases s.cl.image
  · exact .refl s
  · exact prop_ite ((s.evaluateConflict_frame _).toClaims.trans (State.claimTest_frame ..)) (s.evaluateConflict_frame _).toClaims

@[simp] theorem State.formAlerts_frame (s : State) :
    s.formAlerts.lq = s.lq ∧ s.formAlerts.pcA = s.pcA ∧ s.formAlerts.pcB = s.pcB ∧ s.formAlerts.bi = s.bi ∧
    s.formAlerts.pv = s.pv ∧ s.formAlerts.au = s.au ∧ s.formAlerts.cc = s.cc ∧ s.formAlerts.icu = s.icu ∧
    s.formAlerts.ds = s.ds ∧ s.formAlerts.lau = s.lau ∧ s.formAlerts.al.flags = s.al.flags ∧
    s.formAlerts.ioc = s.ioc ∧ s.formAlerts.cl = s.cl ∧ s.formAlerts.released = s.released := by
  and_intros <;> rfl

@[simp] theorem State.placeStatus_frame (s : State) : s.OnlyLine s.placeStatus := by
  and_intros <;> rfl

@[simp] theorem State.askStatus_frame (s : State) : s.OnlyLine s.askStatus := by
  unfold State.askStatus; split_ifs <;> and_intros <;> rfl

@[simp] theorem State.report_frame (b s : State) (q : Bool) : s.OnlyLine (b.report q s) := by
  unfold State.report; split_ifs <;> simp [State.OnlyLine]

@[simp] theorem State.reportAndClear_frame (s : State) (a : Acting) :
    s.OnlyToggles (s.reportAndClear a) := by
  have cleared (t : State) : t.OnlyToggles t.clearToggle := by and_intros <;> rfl
  have reported (f : RecordFrame) : s.OnlyToggles (s.placeRecord f) := by and_intros <;> rfl
  have same : s.OnlyToggles s := by and_intros <;> rfl
  have placed := prop_ite (P := s.OnlyToggles) (c := a.report) (reported s.recordSnapshot) same
  exact prop_ite (P := s.OnlyToggles) (placed.trans (cleared _)) placed

end Sys2Proof.Machine
end

section
/-! PROOFS. What the direct effects of the commands leave unchanged, block by block. -/

namespace Sys2Proof.Machine

@[simp] theorem State.heightLevel_frame (s : State) (p : Pan) (b : Bool) : s.OnlyPans (s.heightLevel p b) := by
  unfold State.heightLevel; dsimp only; split_ifs <;> (show _ ∧ _) <;> simp

@[simp] theorem State.breakerLevel_frame (s : State) (b : Bool) :
    (s.breakerLevel b).lq = s.lq ∧ (s.breakerLevel b).pcA = s.pcA ∧ (s.breakerLevel b).pcB = s.pcB ∧
    (s.breakerLevel b).bi.hold.pcA = s.bi.hold.pcA ∧ (s.breakerLevel b).bi.hold.pcB = s.bi.hold.pcB ∧
    (s.breakerLevel b).bi.hold.cc = s.bi.hold.cc ∧ (s.breakerLevel b).bi.hold.ds = s.bi.hold.ds ∧
    (s.breakerLevel b).bi.hold.cl = s.bi.hold.cl ∧ (s.breakerLevel b).bi.permit = s.bi.permit ∧
    (s.breakerLevel b).bi.openConfirm = s.bi.openConfirm ∧ (s.breakerLevel b).pv = s.pv ∧
    (s.breakerLevel b).au = s.au ∧ (s.breakerLevel b).cc = s.cc ∧ (s.breakerLevel b).icu = s.icu ∧
    (s.breakerLevel b).ds = s.ds ∧ (s.breakerLevel b).lau = s.lau ∧ (s.breakerLevel b).al = s.al ∧
    (s.breakerLevel b).ioc = s.ioc ∧ (s.breakerLevel b).cl = s.cl ∧ (s.breakerLevel b).released = s.released := by
  and_intros <;> rfl

@[simp] theorem State.eloopOpens_frame (s : State) : s.OnlyDrops s.eloopOpens := by
  simp [State.OnlyDrops, State.eloopOpens]

@[simp] theorem State.eloopLevel_frame (s : State) (b : Bool) : s.OnlyDrops (s.eloopLevel b) := by
  unfold State.eloopLevel; split_ifs <;> (show _ ∧ _) <;> simp

@[simp] theorem State.setView_frame (s : State) (d : Direction) : s.OnlyView (s.setView d) := by
  unfold State.setView State.ifGood; split_ifs <;> (try split) <;> (show _ ∧ _) <;> simp

@[simp] theorem State.dirAccepted_frame (s : State) : s.OnlyView s.dirAccepted := by
  unfold State.dirAccepted; split_ifs <;> (show _ ∧ _) <;> simp

@[simp] theorem State.readers_frame (s : State) (i : LevelInput) (b : Bool) : s.OnlyInputs (s.readers i b) := by
  cases i <;> (show _ ∧ _) <;> simp [State.readers]

@[simp] theorem State.accept_frame (s : State) (i : LevelInput) (b : Bool) : s.OnlyInputs (s.accept i b) := by
  simp [State.OnlyInputs, State.accept]

@[simp] theorem State.sampleInput_frame (s : State) (i : LevelInput) (b : Bool) :
    s.OnlyInputs (s.sampleInput i b) := by
  unfold State.sampleInput; split_ifs <;> (show _ ∧ _) <;> simp

@[simp] theorem State.sampleAll_frame (s : State) (l : Levels) : s.OnlyInputs (s.sampleAll l) := by
  simp [State.OnlyInputs, State.sampleAll, levelInputs]

/-- One input of `reformLevels`: a level that differs is accepted (R191). -/
def State.reformInput (s : State) (levels : Levels) (i : LevelInput) : State :=
  if levelOf s.ioc.levels i = levelOf levels i then s else s.accept i (levelOf levels i)

@[simp] theorem State.reformInput_frame (s : State) (l : Levels) (i : LevelInput) :
    s.OnlyInputs (s.reformInput l i) := by
  unfold State.reformInput; split_ifs <;> simp [State.OnlyInputs]

/-- The state in which every input but DIR has been formed afresh. -/
def State.reformInputs (s : State) (l : Levels) : State :=
  (((((((s.reformInput l .upA).reformInput l .downA).reformInput l .upB).reformInput l .downB).reformInput l
    .airA).reformInput l .airB).reformInput l .brkFb).reformInput l .eloop

theorem State.reformLevels_eq (s : State) (l : Levels) : s.reformLevels l =
    ({ s.reformInputs l with
      ioc := { (s.reformInputs l).ioc with
        levels := withLevel (s.reformInputs l).ioc.levels .dir l.dir, runs := .zero } } : State).setView
      (directionOf l.dir) := by
  unfold State.reformLevels State.reformInputs
  rfl

@[simp] theorem State.reformInputs_frame (s : State) (l : Levels) : s.OnlyInputs (s.reformInputs l) := by
  simp [State.OnlyInputs, State.reformInputs]

@[simp] theorem State.reformLevels_frame (s : State) (l : Levels) : s.OnlyInputs (s.reformLevels l) := by
  simp [State.OnlyInputs, State.reformLevels_eq]

@[simp] theorem State.arcInput_frame (s : State) (p : Pan) (r : Bool) (n : Nat) :
    (s.arcInput p r n).lq = s.lq ∧ (s.arcInput p r n).pcA = s.pcA ∧ (s.arcInput p r n).pcB = s.pcB ∧
    (s.arcInput p r n).bi = s.bi ∧ (s.arcInput p r n).pv = s.pv ∧ (s.arcInput p r n).au = s.au ∧
    (s.arcInput p r n).cc = s.cc ∧ (s.arcInput p r n).ds = s.ds ∧ (s.arcInput p r n).lau = s.lau ∧
    (s.arcInput p r n).al = s.al ∧ (s.arcInput p r n).cl = s.cl ∧ (s.arcInput p r n).released = s.released := by
  unfold State.arcInput State.ifGood State.countArc; cases p <;> dsimp only <;> split_ifs <;> (try split) <;> and_intros <;> rfl

@[simp] theorem State.countCooldown_frame (s : State) : s.OnlyIce s.countCooldown := by
  unfold State.countCooldown; split <;> and_intros <;> rfl

@[simp] theorem State.countScrape_frame (s : State) (im : Image) : s.OnlyPass (s.countScrape im) := by
  unfold State.countScrape; split <;> (try split_ifs) <;> (try split) <;> (show _ ∧ _) <;> simp

@[simp] theorem State.pulseReaders_frame (s : State) (im : Image) : s.OnlyPulse (s.pulseReaders im) := by
  simp [State.OnlyPulse, State.pulseReaders]

@[simp] theorem State.odoInput_frame (s : State) (r : Bool) (n : Nat) : s.OnlyPulse (s.odoInput r n) := by
  unfold State.odoInput State.ifGood; split_ifs <;> (try split) <;> (show _ ∧ _) <;> simp

@[simp] theorem State.becomeStationary_frame (s : State) : s.OnlyView s.becomeStationary := by
  simp [State.OnlyView, State.becomeStationary]

@[simp] theorem State.convert_frame (s : State) (r : Int) :
    (s.convert r).lq = s.lq ∧ (s.convert r).pcA = s.pcA ∧ (s.convert r).pcB = s.pcB ∧ (s.convert r).bi = s.bi ∧
    (s.convert r).pv = s.pv ∧ (s.convert r).au = s.au ∧ (s.convert r).cc = s.cc ∧ (s.convert r).icu = s.icu ∧
    (s.convert r).ds = s.ds ∧ (s.convert r).lau = s.lau ∧ (s.convert r).al.top = s.al.top ∧
    (s.convert r).al.flt = s.al.flt ∧ (s.convert r).cl = s.cl ∧ (s.convert r).released = s.released := by
  unfold State.convert; dsimp only; split_ifs <;> and_intros <;> rfl

@[simp] theorem State.restorePan_frame (s : State) (p : Pan) : s.OnlyPans (s.restorePan p) := by
  unfold State.restorePan; split_ifs <;> simp [State.OnlyPans]

@[simp] theorem State.restoreDS_frame (s : State) : s.OnlyRestore s.restoreDS := by
  and_intros <;> rfl

@[simp] theorem State.restoreAll_frame (s : State) (b : Bool) :
    (s.restoreAll b).lq = s.lq ∧ (s.restoreAll b).bi.hold.pcA = s.bi.hold.pcA ∧
    (s.restoreAll b).bi.hold.pcB = s.bi.hold.pcB ∧ (s.restoreAll b).bi.hold.cc = s.bi.hold.cc ∧
    (s.restoreAll b).bi.hold.cl = s.bi.hold.cl ∧ (s.restoreAll b).bi.permit = s.bi.permit ∧
    (s.restoreAll b).bi.closed = s.bi.closed ∧ (s.restoreAll b).bi.openConfirm = s.bi.openConfirm ∧
    (s.restoreAll b).bi.stuck = s.bi.stuck ∧ (s.restoreAll b).pv = s.pv ∧ (s.restoreAll b).au = s.au ∧
    (s.restoreAll b).cc = s.cc ∧ (s.restoreAll b).icu = s.icu ∧ (s.restoreAll b).lau = s.lau ∧
    (s.restoreAll b).al = s.al ∧ (s.restoreAll b).ioc = s.ioc ∧ (s.restoreAll b).cl = s.cl ∧
    (s.restoreAll b).released = s.released := by
  unfold State.restoreAll; split_ifs <;> simp

@[simp] theorem State.judgeForced_frame (s : State) : s.OnlyLatch s.judgeForced := by
  unfold State.judgeForced; dsimp only; split_ifs <;> (show _ ∧ _) <;> simp

@[simp] theorem State.lowerOnDown_frame (d : DemandInForce) (s : State) : s.OnlyLowering (s.lowerOnDown d) := by
  unfold State.lowerOnDown; split_ifs <;> (show _ ∧ _) <;> simp

@[simp] theorem State.takeIceMode_frame (s : State) : s.OnlyIce s.takeIceMode := by
  unfold State.takeIceMode; split <;> [skip; split_ifs] <;> (show _ ∧ _) <;> simp

@[simp] theorem State.handOn_frame (s : State) (im : Image) (d : DemandInForce) (b : Bool) :
    (s.handOn im d b).lq = s.lq ∧ (s.handOn im d b).bi.hold.cl = s.bi.hold.cl ∧
    (s.handOn im d b).bi.permit = s.bi.permit ∧ (s.handOn im d b).bi.closed = s.bi.closed ∧
    (s.handOn im d b).bi.openConfirm = s.bi.openConfirm ∧ (s.handOn im d b).bi.stuck = s.bi.stuck ∧
    (s.handOn im d b).pv = s.pv ∧ (s.handOn im d b).au = s.au ∧ (s.handOn im d b).lau = s.lau ∧
    (s.handOn im d b).al.top = s.al.top ∧ (s.handOn im d b).al.flt = s.al.flt ∧ (s.handOn im d b).ioc = s.ioc ∧
    (s.handOn im d b).cl = s.cl ∧ (s.handOn im d b).released = s.released := by
  simp [State.handOn]

@[simp] theorem State.formDemand_frame (s : State) : s.OnlyDemand s.formDemand := by
  unfold State.formDemand; dsimp only; split_ifs <;> and_intros <;> rfl

@[simp] theorem State.tableChanged_frame (s : State) (im : Image) (l : List Entry) :
    s.OnlyTable (s.tableChanged im l) := by
  unfold State.tableChanged; dsimp only; split_ifs <;> simp [State.OnlyTable]

@[simp] theorem State.takeRoof_frame (s : State) (im : Image) (h : RxHeader) (f : RoofData → RoofData) :
    s.OnlyTable (s.takeRoof im h f) := by
  unfold State.takeRoof; dsimp only; split_ifs <;> simp [State.OnlyTable]

@[simp] theorem State.takeStatus_frame (s : State) (im : Image) (h : RxHeader) (b : Vector Byte 28) :
    s.OnlyTable (s.takeStatus im h b) := by
  and_intros <;> simp [State.takeStatus]

@[simp] theorem State.takeClaim_frame (s : State) (im : Image) (h : RxHeader) (b : Vector Byte 8) :
    s.OnlyTable (s.takeClaim im h b) := by
  simp [State.OnlyTable, State.takeClaim]

@[simp] theorem State.takeWithdraw_frame (s : State) (im : Image) (h : RxHeader) (n : Byte) :
    s.OnlyTable (s.takeWithdraw im h n) := by
  simp [State.OnlyTable, State.takeWithdraw]

@[simp] theorem State.takeRecordFrame_frame (s : State) (im : Image) (h : RxHeader) :
    s.OnlyTable (s.takeRecordFrame im h) := by
  simp [State.OnlyTable, State.takeRecordFrame]

@[simp] theorem State.enterDemand_frame (s : State) (h : RxHeader) (b : Vector Byte 10) :
    (s.enterDemand h b).lq = s.lq ∧ (s.enterDemand h b).pcA = s.pcA ∧ (s.enterDemand h b).pcB = s.pcB ∧
    (s.enterDemand h b).bi = s.bi ∧ (s.enterDemand h b).au = s.au ∧ (s.enterDemand h b).cc = s.cc ∧
    (s.enterDemand h b).icu = s.icu ∧ (s.enterDemand h b).lau = s.lau ∧ (s.enterDemand h b).al.top = s.al.top ∧
    (s.enterDemand h b).al.flt = s.al.flt ∧ (s.enterDemand h b).ioc = s.ioc ∧ (s.enterDemand h b).cl = s.cl ∧
    (s.enterDemand h b).released = s.released := by
  unfold State.enterDemand; dsimp only; split_ifs <;> simp

@[simp] theorem State.takeDemand_frame (s : State) (im : Image) (h : RxHeader) (b : Vector Byte 10) :
    s.OnlyTable (s.takeDemand im h b) := by
  unfold State.takeDemand; dsimp only; split_ifs <;> simp [State.OnlyTable]

@[simp] theorem State.removeLearning_frame (s : State) (im : Image) (a : Addr) :
    s.OnlyTable (s.removeLearning im a) := by
  unfold State.removeLearning; split_ifs <;> simp [State.OnlyTable]

@[simp] theorem State.loseEntry_frame (s : State) (im : Image) (a : Addr) : s.OnlyTable (s.loseEntry im a) := by
  unfold State.loseEntry; split <;> (try split_ifs) <;> (show _ ∧ _) <;> simp

@[simp] theorem State.removeLost_frame (s : State) (im : Image) (a : Addr) : s.OnlyTable (s.removeLost im a) := by
  unfold State.removeLost; split_ifs <;> simp [State.OnlyTable]

@[simp] theorem State.ageOutClaim_frame (s : State) (im : Image) (a : Addr) : s.OnlyTable (s.ageOutClaim im a) := by
  unfold State.ageOutClaim; split <;> (try split_ifs) <;> (show _ ∧ _) <;> simp

@[simp] theorem State.silenceEnds_frame (s : State) : s.OnlyDemand s.silenceEnds := by
  unfold State.silenceEnds; split <;> and_intros <;> rfl

@[simp] theorem State.degrade_frame (s : State) : s.OnlyErrors s.degrade := by
  and_intros <;> rfl

@[simp] theorem State.countError_frame (s : State) : s.OnlyErrors s.countError := by
  unfold State.countError; dsimp only; split_ifs <;> and_intros <;> rfl

@[simp] theorem State.claimSent_frame (s : State) (n : Nat) : s.OnlyWants (s.claimSent n) := by
  unfold State.claimSent; split_ifs <;> (show _ ∧ _) <;> simp

@[simp] theorem State.claimDiscarded_frame (s : State) (n : Nat) : s.OnlyWants (s.claimDiscarded n) := by
  unfold State.claimDiscarded; split_ifs <;> (show _ ∧ _) <;> simp

@[simp] theorem State.attemptEnds_frame (s : State) : s.OnlyClaims s.attemptEnds := by
  unfold State.attemptEnds; split <;> (try split) <;> (show _ ∧ _) <;> simp

@[simp] theorem State.discard_frame (s : State) (a : Attempt) : s.OnlyAttempt (s.discard a) := by
  unfold State.discard; dsimp only; split <;> simp [State.OnlyAttempt]

@[simp] theorem State.attemptFails_frame (s : State) : s.OnlyAttempt s.attemptFails := by
  unfold State.attemptFails; dsimp only; split <;> (try split_ifs) <;> (show _ ∧ _) <;> simp

@[simp] theorem State.resolveConflict_frame (s : State) (p : Pan) :
    (s.resolveConflict p).lq = s.lq ∧ (s.resolveConflict p).bi.hold.cc = s.bi.hold.cc ∧
    (s.resolveConflict p).bi.hold.ds = s.bi.hold.ds ∧ (s.resolveConflict p).bi.hold.cl = s.bi.hold.cl ∧
    (s.resolveConflict p).bi.permit = s.bi.permit ∧ (s.resolveConflict p).bi.closed = s.bi.closed ∧
    (s.resolveConflict p).bi.openConfirm = s.bi.openConfirm ∧ (s.resolveConflict p).bi.stuck = s.bi.stuck ∧
    (s.resolveConflict p).pv = s.pv ∧ (s.resolveConflict p).cc = s.cc ∧ (s.resolveConflict p).icu = s.icu ∧
    (s.resolveConflict p).ds = s.ds ∧ (s.resolveConflict p).lau = s.lau ∧ (s.resolveConflict p).al.top = s.al.top ∧
    (s.resolveConflict p).al.flt = s.al.flt ∧ (s.resolveConflict p).ioc = s.ioc ∧ (s.resolveConflict p).cl = s.cl ∧
    (s.resolveConflict p).released = s.released := by
  unfold State.resolveConflict; cases p <;> simp

@[simp] theorem State.raisePan_frame (s : State) (p : Pan) (b : Bool) : s.OnlyPans (s.raisePan p b) := by
  simp [State.OnlyPans, State.raisePan]

@[simp] theorem State.heaterOn_frame (s : State) (im : Image) (p : Pan) : s.OnlyIce (s.heaterOn im p) := by
  and_intros <;> rfl

@[simp] theorem State.act_frame (s : State) (im : Image) (h : Head) : s.OnlyGrant (s.act im h) := by
  unfold State.act; split <;> (show _ ∧ _) <;> simp

@[simp] theorem State.grant_frame (s : State) (im : Image) (h : Head) : s.OnlyGrant (s.grant im h) := by
  unfold State.grant; dsimp only; split_ifs <;> simp [State.OnlyGrant]

@[simp] theorem State.holdOffEnd_frame (s : State) (im : Image) :
    (s.holdOffEnd im).lq = s.lq ∧ (s.holdOffEnd im).bi = s.bi ∧ (s.holdOffEnd im).pv = s.pv ∧
    (s.holdOffEnd im).cc = s.cc ∧ (s.holdOffEnd im).ds = s.ds ∧ (s.holdOffEnd im).al = s.al ∧
    (s.holdOffEnd im).ioc = s.ioc ∧ (s.holdOffEnd im).cl = s.cl ∧ (s.holdOffEnd im).released = s.released := by
  unfold State.holdOffEnd; split <;> (try split_ifs) <;> simp

@[simp] theorem State.breakerStuck_frame (s : State) :
    s.breakerStuck.lq = s.lq ∧ s.breakerStuck.pcA = s.pcA ∧ s.breakerStuck.pcB = s.pcB ∧
    s.breakerStuck.bi.hold.pcA = s.bi.hold.pcA ∧ s.breakerStuck.bi.hold.pcB = s.bi.hold.pcB ∧
    s.breakerStuck.bi.hold.cc = s.bi.hold.cc ∧ s.breakerStuck.bi.hold.ds = s.bi.hold.ds ∧
    s.breakerStuck.bi.hold.cl = s.bi.hold.cl ∧ s.breakerStuck.bi.permit = s.bi.permit ∧ s.breakerStuck.pv = s.pv ∧
    s.breakerStuck.au = s.au ∧ s.breakerStuck.cc = s.cc ∧ s.breakerStuck.icu = s.icu ∧ s.breakerStuck.ds = s.ds ∧
    s.breakerStuck.lau = s.lau ∧ s.breakerStuck.al.top = s.al.top ∧ s.breakerStuck.al.flt = s.al.flt ∧
    s.breakerStuck.ioc = s.ioc ∧ s.breakerStuck.cl = s.cl ∧ s.breakerStuck.released = s.released := by
  and_intros <;> rfl

@[simp] theorem State.rampBoth_frame (s : State) : s.OnlyPans s.rampBoth := by
  unfold State.rampBoth State.ifGood; split <;> and_intros <;> rfl

@[simp] theorem State.scrapeEnds_frame (s : State) (im : Image) : s.OnlyPass (s.scrapeEnds im) := by
  unfold State.scrapeEnds; split <;> (show _ ∧ _) <;> simp

@[simp] theorem State.windowEnd_frame (s : State) (im : Image) (q : LQ) : s.OnlySample (s.windowEnd im q) := by
  unfold State.windowEnd; dsimp only; split_ifs <;> (show _ ∧ _) <;> simp

@[simp] theorem State.takeSample_frame (s : State) (im : Image) (c : BitVec 14) (b : Bool) :
    s.OnlySample (s.takeSample im c b) := by
  unfold State.takeSample; dsimp only; split_ifs <;> (show _ ∧ _) <;> simp

@[simp] theorem State.verdict_frame (s : State) :
    s.verdict.lq = s.lq ∧ s.verdict.pcA = s.pcA ∧ s.verdict.pcB = s.pcB ∧ s.verdict.bi = s.bi ∧ s.verdict.pv = s.pv ∧
    s.verdict.au = s.au ∧ s.verdict.cc = s.cc ∧ s.verdict.icu = s.icu ∧ s.verdict.ds = s.ds ∧ s.verdict.al = s.al ∧
    s.verdict.ioc = s.ioc ∧ s.verdict.released = s.released := by
  unfold State.verdict; split_ifs <;> simp

@[simp] theorem State.badVerdict_frame (s : State) :
    s.badVerdict.lq = s.lq ∧ s.badVerdict.pcA = s.pcA ∧ s.badVerdict.pcB = s.pcB ∧ s.badVerdict.bi = s.bi ∧
    s.badVerdict.pv = s.pv ∧ s.badVerdict.au = s.au ∧ s.badVerdict.cc = s.cc ∧ s.badVerdict.icu = s.icu ∧
    s.badVerdict.ds = s.ds ∧ s.badVerdict.al.top = s.al.top ∧ s.badVerdict.al.flt = s.al.flt ∧
    s.badVerdict.ioc = s.ioc ∧ s.badVerdict.released = s.released := by
  simp [State.badVerdict]

@[simp] theorem State.markClamped_frame (s : State) :
    s.markClamped.lq = s.lq ∧ s.markClamped.pcA = s.pcA ∧ s.markClamped.pcB = s.pcB ∧ s.markClamped.bi = s.bi ∧
    s.markClamped.pv = s.pv ∧ s.markClamped.au = s.au ∧ s.markClamped.cc = s.cc ∧ s.markClamped.icu = s.icu ∧
    s.markClamped.ds = s.ds ∧ s.markClamped.lau = s.lau ∧ s.markClamped.al.top = s.al.top ∧
    s.markClamped.al.flt = s.al.flt ∧ s.markClamped.ioc = s.ioc ∧ s.markClamped.cl = s.cl ∧
    s.markClamped.released = s.released := by
  unfold State.markClamped; split_ifs <;> simp

@[simp] theorem State.holdAbsent_frame (s : State) (p : Pan) : s.OnlyLowering (s.holdAbsent p) := by
  unfold State.holdAbsent; split_ifs <;> (show _ ∧ _) <;> simp

@[simp] theorem State.startLower_frame (s : State) (p : Pan) : s.OnlyPans (s.startLower p) := by
  unfold State.startLower; split_ifs <;> simp [State.OnlyPans]

@[simp] theorem State.goodVerdict_frame (s : State) (r : Vector Byte 128) (l : Levels) :
    s.OnlyRead (s.goodVerdict r l) := by
  simp [State.OnlyRead, State.goodVerdict]

@[simp] theorem State.releaseLoop_frame (s : State) : s.OnlyDrops s.releaseLoop := by
  unfold State.releaseLoop; split_ifs <;> (show _ ∧ _) <;> simp

end Sys2Proof.Machine
end

section
/-! PROOFS. One event of the part: the direct effect of each command, and the ways in which a step leads on. -/

namespace Sys2Proof.Machine

theorem State.ifGood_of_none {s : State} (h : s.cl.image = none) (f : Image → State → State) : s.ifGood f = s := by
  simp [State.ifGood, h]

theorem State.ifGood_of_some {s : State} {im : Image} (h : s.cl.image = some im) (f : Image → State → State) :
    s.ifGood f = f im s := by
  simp [State.ifGood, h]

/-- The three commands of R200 and R201, which are no events of a released part. -/
def resets : Instr → Bool
  | .powerOnReset | .rstAsserted _ | .resetRelease _ _ => true
  | _ => false

/-- The direct effect of a command, before the reactions of its event. -/
def direct : Instr → State → State
  | .powerOnReset, t | .rstAsserted _, t => t
  | .resetRelease pins straps, t => t.release pins straps
  | .configReadEnd record pins, t => if t.reading then t.readEnds record pins else t
  | .configReadTimeout, t => if t.reading then t.badVerdict else t
  | .configRetryTimerExpiry, t =>
    if t.cl.retryT.isSome then { t with cl := { t.cl with retryT := none, read := .started } } else t
  | .sampleEvent code valid, t => t.ifGood fun im t => t.takeSample im code valid
  | .levelAccepted i level, t => if levelOf t.ioc.levels i = level then t else t.accept i level
  | .openConfirmTimerExpiry, t => if t.bi.openConfirm.isSome then t.breakerStuck else t
  | .raiseTimerExpiry p, t => if (t.pc p).raiseT.isSome then t.faultDrop p .raiseTimeout else t
  | .heightTimerExpiry p, t => if (t.pc p).heightT.isSome then t.faultDrop p .heightLoss else t
  | .lowerTimerExpiry p, t => if (t.pc p).lowerT.isSome then t.lowerTimeout p else t
  | .rampTick, t => t.rampBoth
  | .demandReceived h b, t => t.receive typeDemand .control h b.toList fun im t => t.takeDemand im h b
  | .statusReceived h b, t => t.receive typeStatus .roof h b.toList fun im t => t.takeStatus im h b
  | .claimReceived h b, t => t.receive typeClaim .roof h b.toList fun im t => t.takeClaim im h b
  | .withdrawReceived h n, t => t.receive typeWithdraw .roof h [n] fun im t => t.takeWithdraw im h n
  | .recordReceived h l, t =>
    if l.length ≤ maxPayload then t.receive typeRecord .roof h l fun im t => t.takeRecordFrame im h else t.countError
  | .receiveError _, t => t.countError
  | .learningEntryRemoval a, t => t.ifGood fun im t => t.removeLearning im a
  | .entryLost a, t => t.ifGood fun im t => t.loseEntry im a
  | .lostHoldEnd a, t => t.ifGood fun im t => t.removeLost im a
  | .heardClaimAgeOut a, t => t.ifGood fun im t => t.ageOutClaim im a
  | .silenceTimerExpiry, t => t.silenceEnds
  | .learningPeriodEnd, t => if t.pv.learningT.isSome then { t with pv := t.pv.endLearning } else t
  | .reTestTimerExpiry, t => t
  | .retryHoldEnd, t => { t with au := { t.au with retryT := none } }
  | .holdOffExpiry, t => if t.au.isHolding then t.ifGood fun im t => t.holdOffEnd im else t
  | .graceTimerExpiry p, t => if (t.au.grace p).isSome then t.resolveConflict p else t
  | .odometerPulse rising us, t => t.odoInput rising us
  | .leg1End, t => if t.cc.leg1Due then t.endLeg1 else t
  | .leg2End, t => if t.cc.runningLeg = some .two then t.endLeg2 else t
  | .leg3End, t => if t.cc.runningLeg = some .three then t.endLeg3 else t
  | .requalifyTimerExpiry, t => if t.cc.rqTimer.isSome then t.failRequalify else t
  | .arcEdge p rising us, t => t.arcInput p rising us
  | .scrapeCountdownEnd, t => t.ifGood fun im t => t.scrapeEnds im
  | .cooldownEnd, t => { t with icu := { t.icu with cooldown := none } }
  | .restoreTimerExpiry, t => if t.ds.restoreT.isSome then t.restoreMaskable else t
  | .transmitStart n, t => { t with lau := t.lau.start t.cl.address n }
  | .transmitEnd, t => t.attemptEnds
  | .failedAttempt, t => t.attemptFails
  | .errorPeriodEnd, t => { t with lau := t.lau.endPeriod }
  | .statusCountdownExpiry, t =>
    if t.lau.statusT.isSome then { t with lau := { t.lau with statusT := .started } } else t
  | .statusGapEnd, t => { t with lau := { t.lau with gapT := none } }
  | .bucketClose, t => { t with ioc := t.ioc.closeBucket t.cl.image }
  | .stationaryTimerExpiry, t => if due t.ioc.stationaryT Config.stationaryMs then t.becomeStationary else t
  | .ambientConversion r, t => t.convert r
  | .levelInputSample pins, t => t.sampleAll (logical t.levelPolarity pins)

/-- The command runs the claim test, whatever its event changes (R88). -/
def asksTest : Instr → State → Bool
  | .demandReceived h b, s => s.takes .control h && handedOn s.pv.table h b
  | .claimReceived h b, s => s.takes .roof h && (claimContent 0 b).isSome
  | .reTestTimerExpiry, s => s.au.retestT.isSome
  | .retryHoldEnd, s => s.au.retryT.isSome
  | .holdOffExpiry, s => s.au.isHolding
  | _, _ => false

/-- The command asks for a STATUS, whatever its event changes (R179 to R181). -/
def asksStatus : Instr → State → Bool
  | .configReadEnd _ _, s | .configReadTimeout, s => s.reading && !s.cl.verdictGiven
  | .statusCountdownExpiry, s => s.lau.statusT.isSome
  | .statusGapEnd, s => s.lau.gapT.isSome && s.lau.statusPending
  | _, _ => false

/-- The toggles of the command that act at the end of its event (R69). -/
def acting : Instr → State → Acting
  | .demandReceived h b, s => s.demandToggles h b
  | _, _ => ⟨false, false, false⟩

/-- The state after the direct effect and the reactions of a command's event, before the event's end. -/
def settled (c : Instr) (s : State) : State := (settle rounds s (direct c s)).reportAndClear (acting c s)

/-- The state after a command's event. -/
def eventEnd (c : Instr) (s : State) : State := finish s (asksTest c s) (asksStatus c s) (settled c s)

/-- The command runs an event: any but the three of R200 and R201 on a released part, the release on a held one. -/
def Runs (c : Instr) (s : State) : Prop :=
  (s.released = true ∧ resets c = false) ∨ (s.released = false ∧ ∃ pins straps, c = .resetRelease pins straps)

/-- What a command answers: the state it was given, that of a reset, or the end of its event. -/
inductive Answer (c : Instr) (s : State) : State → Prop
  | idle (h : s.released = false ∨ resets c = true) : Answer c s s
  | reset (cause : ResetCause) : Answer c s (s.resetTo cause)
  | event (h : Runs c s) : Answer c s (eventEnd c s)

theorem exec_eq_event {c : Instr} {s : State} (h : s.released = true) (k : resets c = false) :
    exec c s = .next (eventEnd c s) := by
  cases c
  case powerOnReset | rstAsserted | resetRelease => cases k
  case demandReceived => exact congrArg Host.Outcome.next (if_pos h)
  all_goals exact congrArg Host.Outcome.next (if_pos h)

theorem exec_release {s : State} (h : s.released = false) (pins : Levels) (straps : Addr) :
    exec (.resetRelease pins straps) s = .next (eventEnd (.resetRelease pins straps) s) :=
  congrArg Host.Outcome.next (if_neg (by simp [h]))

theorem exec_held {c : Instr} {s : State} (h : s.released = false) (k : resets c = false) : exec c s = .next s := by
  cases c
  case powerOnReset | rstAsserted | resetRelease => cases k
  all_goals exact congrArg Host.Outcome.next (if_neg (by simp [h]))

theorem exec_rstAsserted (n : Nat) (s : State) :
    exec (.rstAsserted n) s = .next (s.rstLow n) := rfl

theorem exec_answer {c : Instr} {s t : State} (h : exec c s = .next t) : Answer c s t := by
  cases k : resets c
  case false =>
    cases r : s.released
    case false => rw [exec_held r k] at h; cases h; exact .idle (.inl r)
    case true => rw [exec_eq_event r k] at h; cases h; exact .event (.inl ⟨r, k⟩)
  case true =>
    cases c <;> cases k
    case powerOnReset => cases h; exact .reset _
    case rstAsserted n =>
      rw [exec_rstAsserted] at h
      unfold State.rstLow at h
      split_ifs at h <;> cases h
      · exact .idle (.inr rfl)
      · exact .reset _
      · exact .reset _
    case resetRelease pins straps =>
      cases r : s.released
      case false => rw [exec_release r] at h; cases h; exact .event (.inr ⟨r, pins, straps, rfl⟩)
      case true => cases h; simp only [r, if_true]; exact .idle (.inr rfl)

/-- What a step does: a millisecond passes on an empty queue, else the front command answers. -/
theorem step_cases {s t : State} (h : step s = .next t) :
    (s.pending = [] ∧ t = s.tick) ∨
      ∃ c rest, s.pending = c :: rest ∧ Answer c { s with pending := rest } t := by
  unfold step at h
  split at h
  case h_1 c rest k => exact .inr ⟨c, rest, k, exec_answer h⟩
  case h_2 k => cases h; exact .inl ⟨k, rfl⟩

/-- A law on states that does not read the queue, holds of a held part and is kept by a millisecond and by every event is
kept by every step. -/
theorem step_keeps {Law : State → Prop} (queue : ∀ s q, Law s → Law { s with pending := q })
    (reset : ∀ cause, Law (State.held cause)) (tick : ∀ s, s.released = true → Law s → Law s.older)
    (event : ∀ c s, Law s → Runs c s → Law (eventEnd c s)) (s t : State) (law : Law s) (h : step s = .next t) :
    Law t := by
  rcases step_cases h with ⟨_, rfl⟩ | ⟨c, rest, _, answer⟩
  · unfold State.tick
    split
    · exact queue _ _ (tick s ‹_› law)
    · exact law
  · cases answer with
    | idle => exact queue s rest law
    | reset cause => exact queue _ _ (reset cause)
    | event runs => exact event c _ (queue s rest law) runs

/-- A held part that meets its law is the state that the reset leaves. -/
theorem State.HeldLaw.queue {s : State} (h : s.HeldLaw) (q : List Instr) : ({ s with pending := q } : State).HeldLaw := by
  exact fun r => congrArg (fun u : State => { u with pending := q }) (h r)

/-- `step_keeps` for a law that is kept by events from states that meet `State.HeldLaw`. -/
theorem step_keeps_of_held {Law : State → Prop} (queue : ∀ s q, Law s → Law { s with pending := q })
    (reset : ∀ cause, Law (State.held cause)) (tick : ∀ s, s.released = true → Law s → Law s.older)
    (event : ∀ c s, s.HeldLaw → Law s → Runs c s → Law (eventEnd c s)) (s t : State) (held : s.HeldLaw) (law : Law s)
    (h : step s = .next t) : Law t := by
  rcases step_cases h with ⟨_, rfl⟩ | ⟨c, rest, _, answer⟩
  · unfold State.tick
    split
    · exact queue _ _ (tick s ‹_› law)
    · exact law
  · cases answer with
    | idle => exact queue s rest law
    | reset cause => exact queue _ _ (reset cause)
    | event runs => exact event c _ (held.queue rest) (queue s rest law) runs

/-! ### What the end of an event leaves -/

@[simp] theorem State.reportAndClear_none (s : State) (r : Bool) : s.reportAndClear ⟨r, false, false⟩ = s := rfl

theorem settled_eq {c : Instr} (h : ∀ x b, c ≠ .demandReceived x b) (s : State) :
    settled c s = settle rounds s (direct c s) := by
  cases c
  case demandReceived x b => exact absurd rfl (h x b)
  all_goals rfl

/-- An event but that of a DEMAND leads from its direct effect on by reactions. -/
theorem reacts_eventEnd {c : Instr} (h : ∀ x b, c ≠ .demandReceived x b) (s : State) :
    (direct c s).Reacts (eventEnd c s) := by
  rw [eventEnd, settled_eq h]
  exact (State.Reacts.settle rounds s _).trans (.finish s _ _ _)

end Sys2Proof.Machine
end

section
/-! PROOFS. The direct effect of a command, by the rule that acts and the condition under which it does. -/

namespace Sys2Proof.Machine

/-- The direct effect of a command is nothing, or that of the one rule that acts on it. -/
inductive Direct (s : State) : Instr → State → Prop
  | none (c : Instr) : Direct s c s
  | release (pins : Levels) (straps : Addr) : Direct s (.resetRelease pins straps) (s.release pins straps)
  | goodRecord (r : Vector Byte 128) (pins : Levels) (h : s.reading = true) (k : recordGood r = true) :
    Direct s (.configReadEnd r pins) (s.goodVerdict r pins)
  | badRecord (r : Vector Byte 128) (pins : Levels) (h : s.reading = true) (k : recordGood r = false) :
    Direct s (.configReadEnd r pins) s.badVerdict
  | readTimeout (h : s.reading = true) : Direct s .configReadTimeout s.badVerdict
  | readRetry (h : s.cl.retryT.isSome = true) :
    Direct s .configRetryTimerExpiry { s with cl := { s.cl with retryT := .none, read := .started } }
  | sample (code : BitVec 14) (valid : Bool) (im : Image) (h : s.cl.image = some im) :
    Direct s (.sampleEvent code valid) (s.takeSample im code valid)
  | accept (i : LevelInput) (b : Bool) (h : levelOf s.ioc.levels i ≠ b) :
    Direct s (.levelAccepted i b) (s.accept i b)
  | stuck (h : s.bi.openConfirm.isSome = true) : Direct s .openConfirmTimerExpiry s.breakerStuck
  | raiseTimeout (p : Pan) (h : (s.pc p).raiseT.isSome = true) :
    Direct s (.raiseTimerExpiry p) (s.faultDrop p .raiseTimeout)
  | heightLoss (p : Pan) (h : (s.pc p).heightT.isSome = true) :
    Direct s (.heightTimerExpiry p) (s.faultDrop p .heightLoss)
  | lowerTimeout (p : Pan) (h : (s.pc p).lowerT.isSome = true) :
    Direct s (.lowerTimerExpiry p) (s.lowerTimeout p)
  | ramp : Direct s .rampTick s.rampBoth
  | clash (c : Instr) : Direct s c (s.request .addressClash)
  | error (c : Instr) : Direct s c s.countError
  | demand (h : RxHeader) (b : Vector Byte 10) (im : Image) (i : s.cl.image = some im)
    (o : h.src ≠ s.cl.address) (k : h.kind = .control) : Direct s (.demandReceived h b) (s.takeDemand im h b)
  | status (h : RxHeader) (b : Vector Byte 28) (im : Image) (i : s.cl.image = some im)
    (o : h.src ≠ s.cl.address) (k : h.kind = .roof) : Direct s (.statusReceived h b) (s.takeStatus im h b)
  | claim (h : RxHeader) (b : Vector Byte 8) (im : Image) (i : s.cl.image = some im)
    (o : h.src ≠ s.cl.address) (k : h.kind = .roof) : Direct s (.claimReceived h b) (s.takeClaim im h b)
  | withdraw (h : RxHeader) (n : Byte) (im : Image) (i : s.cl.image = some im)
    (o : h.src ≠ s.cl.address) (k : h.kind = .roof) : Direct s (.withdrawReceived h n) (s.takeWithdraw im h n)
  | record (h : RxHeader) (l : List Byte) (im : Image) (i : s.cl.image = some im)
    (o : h.src ≠ s.cl.address) (k : h.kind = .roof) : Direct s (.recordReceived h l) (s.takeRecordFrame im h)
  | removeLearning (a : Addr) (im : Image) (i : s.cl.image = some im) :
    Direct s (.learningEntryRemoval a) (s.removeLearning im a)
  | lose (a : Addr) (im : Image) (i : s.cl.image = some im) : Direct s (.entryLost a) (s.loseEntry im a)
  | removeLost (a : Addr) (im : Image) (i : s.cl.image = some im) :
    Direct s (.lostHoldEnd a) (s.removeLost im a)
  | ageOut (a : Addr) (im : Image) (i : s.cl.image = some im) :
    Direct s (.heardClaimAgeOut a) (s.ageOutClaim im a)
  | silence : Direct s .silenceTimerExpiry s.silenceEnds
  | endLearning (h : s.pv.learningT.isSome = true) :
    Direct s .learningPeriodEnd { s with pv := s.pv.endLearning }
  | endRetry : Direct s .retryHoldEnd { s with au := { s.au with retryT := .none } }
  | holdOff (im : Image) (i : s.cl.image = some im) (h : s.au.isHolding = true) :
    Direct s .holdOffExpiry (s.holdOffEnd im)
  | conflict (p : Pan) (h : (s.au.grace p).isSome = true) :
    Direct s (.graceTimerExpiry p) (s.resolveConflict p)
  | pulse (r : Bool) (n : Nat) : Direct s (.odometerPulse r n) (s.odoInput r n)
  | leg1 (h : s.cc.leg1Due = true) : Direct s .leg1End s.endLeg1
  | leg2 (h : s.cc.runningLeg = some .two) : Direct s .leg2End s.endLeg2
  | leg3 (h : s.cc.runningLeg = some .three) : Direct s .leg3End s.endLeg3
  | requalify (h : s.cc.rqTimer.isSome = true) : Direct s .requalifyTimerExpiry s.failRequalify
  | arc (p : Pan) (r : Bool) (n : Nat) : Direct s (.arcEdge p r n) (s.arcInput p r n)
  | scrapeEnd (im : Image) (i : s.cl.image = some im) : Direct s .scrapeCountdownEnd (s.scrapeEnds im)
  | cooldownEnd : Direct s .cooldownEnd { s with icu := { s.icu with cooldown := .none } }
  | restoreTimer (h : s.ds.restoreT.isSome = true) : Direct s .restoreTimerExpiry s.restoreMaskable
  | start (n : Nat) : Direct s (.transmitStart n) { s with lau := s.lau.start s.cl.address n }
  | attemptEnds : Direct s .transmitEnd s.attemptEnds
  | attemptFails : Direct s .failedAttempt s.attemptFails
  | errorPeriod : Direct s .errorPeriodEnd { s with lau := s.lau.endPeriod }
  | statusCountdown (h : s.lau.statusT.isSome = true) :
    Direct s .statusCountdownExpiry { s with lau := { s.lau with statusT := .started } }
  | statusGap : Direct s .statusGapEnd { s with lau := { s.lau with gapT := .none } }
  | bucket : Direct s .bucketClose { s with ioc := s.ioc.closeBucket s.cl.image }
  | stationary (h : due s.ioc.stationaryT Config.stationaryMs = true) :
    Direct s .stationaryTimerExpiry s.becomeStationary
  | ambient (r : Int) : Direct s (.ambientConversion r) (s.convert r)
  | levels (pins : Levels) :
    Direct s (.levelInputSample pins) (s.sampleAll (logical s.levelPolarity pins))

theorem Direct.ifGood {c : Instr} {s : State} {f : Image → State → State}
    (h : ∀ im, s.cl.image = some im → Direct s c (f im s)) : Direct s c (s.ifGood f) := by
  unfold State.ifGood
  split
  · exact h _ ‹_›
  · exact .none c

theorem Direct.receive {c : Instr} {s : State} {ty : Byte} {want : NodeKind} {x : RxHeader} {l : List Byte}
    {f : Image → State → State}
    (h : ∀ im, s.cl.image = some im → x.src ≠ s.cl.address → x.kind = want → Direct s c (f im s)) :
    Direct s c (s.receive ty want x l f) := by
  unfold State.receive
  split_ifs with own echo kind
  · exact .none c
  · exact .clash c
  · exact .error c
  · exact .ifGood fun im i => h im i own (not_not.mp kind)

theorem Direct.ite {c : Instr} {s t : State} {q : Prop} [Decidable q] (h : q → Direct s c t) :
    Direct s c (if q then t else s) := by
  split_ifs with k
  · exact h k
  · exact .none c

theorem direct_acts (c : Instr) (s : State) : Direct s c (direct c s) := by
  cases c <;> dsimp only [direct]
  case powerOnReset | rstAsserted | reTestTimerExpiry => exact .none _
  case resetRelease => exact .release _ _
  case configReadEnd r pins =>
    refine .ite fun h => ?_
    unfold State.readEnds
    split_ifs with k
    · exact .goodRecord r pins h k
    · exact .badRecord r pins h (by simpa using k)
  case configReadTimeout => exact .ite fun h => .readTimeout h
  case configRetryTimerExpiry => exact .ite fun h => .readRetry h
  case sampleEvent => exact .ifGood fun im i => .sample _ _ im i
  case levelAccepted i b =>
    by_cases h : levelOf s.ioc.levels i = b
    · simpa [direct, h] using Direct.none (.levelAccepted i b)
    · simpa [direct, h] using Direct.accept i b h
  case openConfirmTimerExpiry => exact .ite fun h => .stuck h
  case raiseTimerExpiry p => exact .ite fun h => .raiseTimeout p h
  case heightTimerExpiry p => exact .ite fun h => .heightLoss p h
  case lowerTimerExpiry p => exact .ite fun h => .lowerTimeout p h
  case rampTick => exact .ramp
  case demandReceived h b => exact .receive fun im i o k => .demand h b im i o k
  case statusReceived h b => exact .receive fun im i o k => .status h b im i o k
  case claimReceived h b => exact .receive fun im i o k => .claim h b im i o k
  case withdrawReceived h n => exact .receive fun im i o k => .withdraw h n im i o k
  case recordReceived h l =>
    split_ifs
    · exact .receive fun im i o k => .record h l im i o k
    · exact .error _
  case receiveError => exact .error _
  case learningEntryRemoval a => exact .ifGood fun im i => .removeLearning a im i
  case entryLost a => exact .ifGood fun im i => .lose a im i
  case lostHoldEnd a => exact .ifGood fun im i => .removeLost a im i
  case heardClaimAgeOut a => exact .ifGood fun im i => .ageOut a im i
  case silenceTimerExpiry => exact .silence
  case learningPeriodEnd => exact .ite fun h => .endLearning h
  case retryHoldEnd => exact .endRetry
  case holdOffExpiry =>
    split_ifs with h
    · exact .ifGood fun im i => .holdOff im i h
    · exact .none _
  case graceTimerExpiry p => exact .ite fun h => .conflict p h
  case odometerPulse r n => exact .pulse r n
  case leg1End => exact .ite fun h => .leg1 h
  case leg2End => exact .ite fun h => .leg2 h
  case leg3End => exact .ite fun h => .leg3 h
  case requalifyTimerExpiry => exact .ite fun h => .requalify h
  case arcEdge p r n => exact .arc p r n
  case scrapeCountdownEnd => exact .ifGood fun im i => .scrapeEnd im i
  case cooldownEnd => exact .cooldownEnd
  case restoreTimerExpiry => exact .ite fun h => .restoreTimer h
  case transmitStart n => exact .start n
  case transmitEnd => exact .attemptEnds
  case failedAttempt => exact .attemptFails
  case errorPeriodEnd => exact .errorPeriod
  case statusCountdownExpiry => exact .ite fun h => .statusCountdown h
  case statusGapEnd => exact .statusGap
  case bucketClose => exact .bucket
  case stationaryTimerExpiry => exact .ite fun h => .stationary h
  case ambientConversion r => exact .ambient r
  case levelInputSample pins => exact .levels pins

/-! ### What the direct effect of most commands leaves -/

@[simp] theorem State.release_frame (s : State) (pins : Levels) (straps : Addr) :
    (s.release pins straps).lq = s.lq ∧ (s.release pins straps).pv = s.pv ∧ (s.release pins straps).au = s.au ∧
    (s.release pins straps).cc = s.cc ∧ (s.release pins straps).icu = s.icu ∧ (s.release pins straps).lau = s.lau ∧
    (s.release pins straps).released = true := by
  simp [State.release]

/-- Only a sample changes the Line Qualifier directly. -/
theorem direct_lq {c : Instr} (h : ∀ code valid, c ≠ .sampleEvent code valid) (s : State) :
    (direct c s).lq = s.lq := by
  have k := direct_acts c s
  generalize direct c s = d at k ⊢
  induction k
  case sample code valid _ _ => exact absurd rfl (h code valid)
  all_goals simp

theorem direct_released {c : Instr} {s : State} (h : Runs c s) : (direct c s).released = true := by
  rcases h with ⟨h, _⟩ | ⟨_, pins, straps, rfl⟩
  · have k := direct_acts c s
    generalize direct c s = d at k ⊢
    induction k <;> simp [h]
  · simp [direct]

end Sys2Proof.Machine
end

section
/-! PROOFS. The queue, the resets and their release, and the law of Q (R24). -/

namespace Sys2Proof.Machine

/-! ### Steps, resets and the held part -/

/-- Settles O1. -/
theorem stepRunsTheFrontCommand : Obligations.StepRunsTheFrontCommand := by
  intro c rest s front
  simp [step, front]

theorem State.rstLow_of_ge {s : State} {n : Nat} (h : 2 ≤ n) :
    s.rstLow n = s.resetTo (if s.released = false ∧ s.resetCause = .powerOn then .powerOn else .resetLine) := by
  unfold State.rstLow
  rw [if_neg (by omega)]
  cases s.released <;> cases s.resetCause <;> rfl

/-- Settles O3: each of the cases of `State.rstLow`. -/
theorem resetsHoldThePart : Obligations.ResetsHoldThePart := by
  refine ⟨fun _ => rfl, fun s n short => ?short, fun s n long other => ?line, fun s n long held on => ?power, fun _ => rfl⟩
  case short => rw [exec_rstAsserted, State.rstLow, if_pos short]
  case line => rw [exec_rstAsserted, State.rstLow_of_ge long, if_neg other]; rfl
  case power => rw [exec_rstAsserted, State.rstLow_of_ge long, if_pos ⟨held, on⟩]; rfl

theorem eventEnd_released {c : Instr} {s : State} (h : Runs c s) : (eventEnd c s).released = true := by
  simp [eventEnd, finish, settled, direct_released h]

theorem State.heldLaw_of_released {s : State} (h : s.released = true) : s.HeldLaw :=
  fun held => absurd (h.symm.trans held) (by decide)

/-- Settles O4: a command that is no reset and no release leaves a held part, and an event ends in a released one. -/
theorem heldPartKeepsItsResetValues : Obligations.HeldPartKeepsItsResetValues := by
  refine ⟨fun c s held power line release => ?idle, ?law⟩
  case idle =>
    refine exec_held held ?_
    cases c
    case powerOnReset => exact absurd rfl power
    case rstAsserted n => exact absurd rfl (line n)
    case resetRelease pins straps => exact absurd rfl (release pins straps)
    all_goals rfl
  case law =>
    exact step_keeps (fun _ q law => law.queue q) (fun _ _ => rfl) (fun _ on _ => State.heldLaw_of_released on)
      (fun _ _ _ runs => State.heldLaw_of_released (eventEnd_released runs))

/-! ### The Line Qualifier through an event (R24) -/

/-- The reactions and the end of an event leave the Line Qualifier as its direct effect has left it, or abandon the
window in progress. -/
theorem eventEnd_lq (c : Instr) (s : State) :
    (eventEnd c s).lq = (direct c s).lq ∨ (eventEnd c s).lq = (direct c s).lq.abandon := by
  have rounds := (State.Reacts.settle rounds s (direct c s)).lq
  simpa [eventEnd, finish, settled] using rounds

@[simp] theorem LQ.track_frame (q : LQ) (h : Nat) (u : Int) :
    (q.track h u).q = q.q ∧ (q.track h u).cand = q.cand ∧ (q.track h u).candCount = q.candCount ∧
    (q.track h u).unknownStreak = q.unknownStreak ∧ (q.track h u).deadCount = q.deadCount ∧
    (q.track h u).result = q.result ∧ (q.track h u).resultCounter = q.resultCounter := by
  unfold LQ.track
  split_ifs <;> simp

@[simp] theorem LQ.take_frame (q : LQ) (h : Nat) (code : BitVec 14) (valid : Bool) :
    (q.take h code valid).q = q.q ∧ (q.take h code valid).cand = q.cand ∧
    (q.take h code valid).candCount = q.candCount ∧ (q.take h code valid).unknownStreak = q.unknownStreak ∧
    (q.take h code valid).deadCount = q.deadCount ∧ (q.take h code valid).result = q.result ∧
    (q.take h code valid).resultCounter = q.resultCounter ∧ (q.take h code valid).index = q.index + 1 := by
  simp [LQ.take]

@[simp] theorem State.windowEnd_lq (s : State) (im : Image) (q : LQ) : (s.windowEnd im q).lq = q.close im.kq := by
  unfold State.windowEnd
  dsimp only
  split_ifs <;> simp

/-- A sample inside the window enters it, and the last one ends it (R4). -/
theorem State.takeSample_lq (s : State) (im : Image) (code : BitVec 14) (valid : Bool) :
    (s.takeSample im code valid).lq =
      if s.lq.index < 2303 then s.lq.take im.h code valid else (s.lq.take im.h code valid).close im.kq := by
  unfold State.takeSample
  dsimp only
  split_ifs with inside before before
  · rfl
  · simp [Config.windowSamples] at inside; omega
  · simp [Config.windowSamples] at inside; omega
  · exact State.windowEnd_lq _ _ _

/-- Q stands at a window end, or becomes the class of the result by the streaks of R21 and R22. -/
theorem LQ.nextQ_cases (w : LQ) (kq : Nat) (c : LineClass) :
    w.nextQ kq c = w.q ∨
      w.nextQ kq c = c ∧ (c.live = true → kq ≤ w.nextCount c) ∧ (c = .unknown → 8 ≤ w.nextUnknown c) := by
  cases live : c.live
  case true =>
    rw [w.nextQ_live kq live]
    split_ifs with streak
    · exact .inr ⟨rfl, fun _ => streak, fun h => by simp [h, LineClass.live] at live⟩
    · exact .inl rfl
  case false =>
    cases c <;> cases live
    case unknown =>
      rw [w.nextQ_unknown kq rfl]
      split_ifs with streak
      · exact .inr ⟨rfl, nofun, fun _ => streak⟩
      · exact .inl rfl
    case dead => exact .inr ⟨rfl, nofun, nofun⟩

/-- A change of Q in an event is that of a window end, by the streaks of R21 and R22. -/
theorem eventEnd_changes_q {c : Instr} {s : State} (runs : Runs c s) (h : (eventEnd c s).lq.q ≠ s.lq.q) :
    ∃ code valid im, c = .sampleEvent code valid ∧ s.released = true ∧ s.cl.image = some im ∧ 2303 ≤ s.lq.index ∧
      (eventEnd c s).lq.result.cls = (eventEnd c s).lq.q ∧
      ((eventEnd c s).lq.q.live = true →
        im.kq ≤ if s.lq.cand = some (eventEnd c s).lq.q then satInc 255 s.lq.candCount else 1) ∧
      ((eventEnd c s).lq.q = .unknown → 8 ≤ (eventEnd c s).lq.unknownStreak) := by
  have shown : (eventEnd c s).lq.q = (direct c s).lq.q ∧ (eventEnd c s).lq.result = (direct c s).lq.result ∧
      (eventEnd c s).lq.unknownStreak = (direct c s).lq.unknownStreak := by
    rcases eventEnd_lq c s with e | e <;> simp [e, LQ.abandon, LQ.clearWindow]
  rw [shown.1] at h ⊢
  rw [shown.2.1, shown.2.2]
  by_cases sample : ∃ code valid, c = .sampleEvent code valid
  case neg => exact absurd (congrArg LQ.q (direct_lq (by simpa using sample) s)) h
  obtain ⟨code, valid, rfl⟩ := sample
  have released : s.released = true := by
    rcases runs with ⟨r, _⟩ | ⟨_, _, _, e⟩
    · exact r
    · cases e
  cases image : s.cl.image
  case none => simp [direct, State.ifGood_of_none image] at h
  case some im =>
    have last : (direct (.sampleEvent code valid) s).lq = _ :=
      (congrArg State.lq (State.ifGood_of_some image _)).trans (s.takeSample_lq im code valid)
    split_ifs at last with inside
    · exact absurd (by simp [last]) h
    · refine ⟨code, valid, im, rfl, released, rfl, by omega, ?_⟩
      generalize hw : s.lq.take im.h code valid = w at last
      have cand : s.lq.cand = w.cand ∧ s.lq.candCount = w.candCount := by simp [← hw]
      rcases w.nextQ_cases im.kq w.resultOf.cls with q | ⟨q, live, unknown⟩
      · exact absurd (by rw [last, LQ.close_q, q, ← hw, (LQ.take_frame ..).1]) h
      · simpa [last, q, cand, LQ.nextCount] using ⟨live, unknown⟩

/-- Settles O15: outside the events a step leaves the Line Qualifier or resets it, and in an event Q changes by
`eventEnd_changes_q`. -/
theorem qChangesOnlyAtWindowEnds : Obligations.QChangesOnlyAtWindowEnds := by
  intro c rest s t front h changed
  rcases step_cases h with ⟨empty, _⟩ | ⟨d, rest', front', answer⟩
  · simp [front] at empty
  obtain ⟨rfl, rfl⟩ : c = d ∧ rest = rest' := by simpa [front] using front'
  cases answer with
  | idle => exact absurd rfl changed
  | reset cause => exact .inl ⟨rfl, rfl⟩
  | event runs => exact .inr (eventEnd_changes_q runs changed)

end Sys2Proof.Machine
end

section
/-! PROOFS. What each operation of the Pantograph Controllers leaves in the controllers and in their hold-open entries. -/

namespace Sys2Proof.Machine

/-! ### Hold-open entries -/

@[simp] theorem State.holdPan_hold (s : State) (p : Pan) (v : Bool) : (s.holdPan p v).bi.hold.pan p = v := by
  cases p <;> rfl

theorem State.holdPan_hold_ne (s : State) (v : Bool) {p q : Pan} (h : q ≠ p) :
    (s.holdPan p v).bi.hold.pan q = s.bi.hold.pan q := by
  cases p <;> cases q <;> first | rfl | exact absurd rfl h

/-! ### The sensors are read from the levels and the image -/

theorem State.acts_congr {s t : State} (h : t.cl = s.cl) (p : Pan) : t.acts p = s.acts p := by simp [State.acts, h]

theorem State.downSensor_congr {s t : State} (h : t.ioc = s.ioc) (p : Pan) : t.downSensor p = s.downSensor p := by
  cases p <;> simp [State.downSensor, h]

theorem State.upSensor_congr {s t : State} (h : t.ioc = s.ioc) (p : Pan) : t.upSensor p = s.upSensor p := by
  cases p <;> simp [State.upSensor, h]

theorem State.airOk_congr {s t : State} (h : t.ioc = s.ioc) (p : Pan) : t.airOk p = s.airOk p := by
  cases p <;> simp [State.airOk, h]

/-! ### Lowering -/

/-- A controller that acts after a soft lower request (R38). -/
def PC.softLowered (c : PC) (closed : Bool) : PC :=
  if c.risingOrUp && c.lowering.isNone then
    if c.disc then ({ c with lowering := some .softWait, raiseT := none } : PC).advance closed else c.vent
  else c

/-- A controller that acts after a fast drop (R38, R41). -/
def PC.dropped (c : PC) : PC :=
  if c.risingOrUp then c.vent.zeroForce else if c.state = .lowering then c.zeroForce else c

theorem State.softLower_pc (s : State) (p : Pan) :
    (s.softLower p).pc p = if s.acts p then (s.pc p).softLowered s.bi.closed else s.pc p := by
  unfold State.softLower PC.softLowered
  dsimp only
  cases s.acts p <;> simp
  split_ifs <;> simp

theorem State.softLower_pc_ne (s : State) {p q : Pan} (h : q ≠ p) : (s.softLower p).pc q = s.pc q := by
  unfold State.softLower
  dsimp only
  split_ifs <;> simp [State.setPc_pc_ne s _ h]

theorem State.softLower_hold (s : State) (p : Pan) :
    (s.softLower p).bi.hold.pan p =
      (s.bi.hold.pan p || (s.acts p && (s.pc p).risingOrUp && (s.pc p).lowering.isNone && (s.pc p).disc)) := by
  unfold State.softLower
  dsimp only
  split_ifs with h k
  · simp [h, k]
  · simp [k]
  · simp [Bool.not_eq_true _ ▸ h]

theorem State.softLower_hold_ne (s : State) {p q : Pan} (h : q ≠ p) :
    (s.softLower p).bi.hold.pan q = s.bi.hold.pan q := by
  unfold State.softLower
  dsimp only
  split_ifs <;> simp [State.holdPan_hold_ne _ _ h]

theorem State.fastDrop_pc (s : State) (p : Pan) :
    (s.fastDrop p).pc p = if s.acts p then (s.pc p).dropped else s.pc p := by
  unfold State.fastDrop PC.dropped
  dsimp only
  cases s.acts p <;> simp
  split_ifs <;> simp

theorem State.fastDrop_pc_ne (s : State) {p q : Pan} (h : q ≠ p) : (s.fastDrop p).pc q = s.pc q := by
  unfold State.fastDrop
  dsimp only
  split_ifs <;> simp [State.setPc_pc_ne s _ h]

theorem State.fastDrop_hold (s : State) (p : Pan) :
    (s.fastDrop p).bi.hold.pan p = (s.bi.hold.pan p || (s.acts p && (s.pc p).risingOrUp && (s.pc p).disc)) := by
  unfold State.fastDrop
  dsimp only
  cases s.acts p <;> cases (s.pc p).risingOrUp <;> cases (s.pc p).disc <;> simp
  all_goals split_ifs <;> simp

theorem State.fastDrop_hold_ne (s : State) {p q : Pan} (h : q ≠ p) :
    (s.fastDrop p).bi.hold.pan q = s.bi.hold.pan q := by
  unfold State.fastDrop
  dsimp only
  split_ifs <;> simp [State.holdPan_hold_ne _ _ h]

theorem State.faultDrop_pc (s : State) (p : Pan) (k : FaultCause) :
    (s.faultDrop p k).pc p =
      { (s.fastDrop p).pc p with pendingFault := some (((s.fastDrop p).pc p).pendingFault.getD k) } := by
  simp [State.faultDrop]

theorem State.faultDrop_pc_ne (s : State) {p q : Pan} (k : FaultCause) (h : q ≠ p) :
    (s.faultDrop p k).pc q = s.pc q := by
  simp [State.faultDrop, State.setPc_pc_ne _ _ h, State.fastDrop_pc_ne s h]

@[simp] theorem State.faultDrop_hold (s : State) (p q : Pan) (k : FaultCause) :
    (s.faultDrop p k).bi.hold.pan q = (s.fastDrop p).bi.hold.pan q := by
  simp [State.faultDrop]

/-! ### FAULT and DOWN -/

@[simp] theorem State.downInFault_pc (s : State) (p : Pan) :
    (s.downInFault p).pc p = { s.pc p with disc := false } := by
  simp [State.downInFault]

theorem State.downInFault_pc_ne (s : State) {p q : Pan} (h : q ≠ p) : (s.downInFault p).pc q = s.pc q := by
  simp [State.downInFault, State.setPc_pc_ne s _ h]

@[simp] theorem State.downInFault_hold (s : State) (p : Pan) : (s.downInFault p).bi.hold.pan p = false := by
  simp [State.downInFault]

theorem State.downInFault_hold_ne (s : State) {p q : Pan} (h : q ≠ p) :
    (s.downInFault p).bi.hold.pan q = s.bi.hold.pan q := by
  simp [State.downInFault, State.holdPan_hold_ne _ _ h]

/-- A controller at its entry to FAULT with its DOWN sensor as given (R44). -/
def PC.faultedBy (c : PC) (down : Bool) (k : FaultCause) : PC :=
  { c with
    state := .fault, disc := c.disc && !down, valve := false, fset := 0, duty := 0, lowering := none,
    pendingFault := none, fault := some k, raiseT := none, lowerT := none, heightT := none }

theorem State.enterFault_pc (s : State) (p : Pan) (k : FaultCause) :
    (s.enterFault p k).pc p = (s.pc p).faultedBy (s.downSensor p) k := by
  have sensor : ∀ t : State, t.ioc = s.ioc → t.downSensor p = s.downSensor p := fun t h => s.downSensor_congr h p
  unfold State.enterFault
  dsimp only
  cases d : s.downSensor p <;> cases c : (s.pc p).disc <;>
    simp [PC.faultedBy, sensor, d, c]

theorem State.enterFault_pc_ne (s : State) {p q : Pan} (k : FaultCause) (h : q ≠ p) :
    (s.enterFault p k).pc q = s.pc q := by
  unfold State.enterFault
  dsimp only
  split_ifs <;> simp [State.downInFault_pc_ne _ h, State.setPc_pc_ne _ _ h]

theorem State.enterFault_hold (s : State) (p : Pan) (k : FaultCause) :
    (s.enterFault p k).bi.hold.pan p = (!s.downSensor p && (s.bi.hold.pan p || (s.pc p).disc)) := by
  have sensor : ∀ t : State, t.ioc = s.ioc → t.downSensor p = s.downSensor p := fun t h => s.downSensor_congr h p
  unfold State.enterFault
  dsimp only
  cases d : s.downSensor p <;> cases c : (s.pc p).disc <;> simp [sensor, d]

theorem State.enterFault_hold_ne (s : State) {p q : Pan} (k : FaultCause) (h : q ≠ p) :
    (s.enterFault p k).bi.hold.pan q = s.bi.hold.pan q := by
  unfold State.enterFault
  dsimp only
  split_ifs <;> simp [State.downInFault_hold_ne _ h, State.holdPan_hold_ne _ _ h]

/-! ### The sensors -/

@[simp] theorem State.airLoss_pc (s : State) (p q : Pan) : (s.airLoss p).pc q = (s.faultDrop p .airLoss).pc q := by
  unfold State.airLoss State.latchAirLoss
  split_ifs <;> simp

@[simp] theorem State.airLoss_hold (s : State) (p q : Pan) :
    (s.airLoss p).bi.hold.pan q = (s.fastDrop p).bi.hold.pan q := by
  rw [← s.faultDrop_hold p q .airLoss]
  unfold State.airLoss State.latchAirLoss
  split_ifs
  · rfl
  · cases q <;> simp [HoldOpen.pan]

/-- What the sensors of a pantograph that acts ask of it (R33, R36, R37, R42, R44). -/
inductive Senses (s : State) (p : Pan) : State → Prop
  | none : Senses s p s
  | airLoss (h : (s.pc p).risingOrUp = true) (a : s.airOk p = false) : Senses s p (s.airLoss p)
  | up (h : (s.pc p).state = .rising) (a : s.airOk p = true) (k : s.upSensor p = true) :
    Senses s p (s.setPc p { s.pc p with state := .up, raiseT := Option.none })
  | drop (h : (s.pc p).state = .up) (a : s.airOk p = true) (k : s.downSensor p = true) :
    Senses s p (s.enterFault p .uncommandedDown)
  | down (h : (s.pc p).state = .lowering) (k : s.downSensor p = true) (f : (s.pc p).pendingFault = Option.none) :
    Senses s p ((s.setPc p { (s.pc p).zeroForce with state := .down, lowerT := Option.none }).holdPan p false)
  | fault (h : (s.pc p).state = .lowering) (k : s.downSensor p = true) (c : FaultCause)
    (f : (s.pc p).pendingFault = some c) : Senses s p (s.enterFault p c)
  | off (h : (s.pc p).state = .fault) (k : s.downSensor p = true) : Senses s p (s.downInFault p)

theorem State.senses (s : State) (p : Pan) : (s.acts p = false ∧ s.sense p = s) ∨ (s.acts p = true ∧ Senses s p (s.sense p)) := by
  cases act : s.acts p
  case false => exact .inl ⟨rfl, by simp [State.sense, act]⟩
  case true =>
    refine .inr ⟨rfl, ?_⟩
    unfold State.sense
    simp only [act, Bool.not_true, Bool.false_eq_true, if_false]
    split <;> rename_i st
    · split_ifs with a u
      · exact .airLoss (by simp [PC.risingOrUp, st]) (by simpa using a)
      · exact .up st (by simpa using a) u
      · exact .none
    · split_ifs with a u
      · exact .airLoss (by simp [PC.risingOrUp, st]) (by simpa using a)
      · exact .drop st (by simpa using a) u
      · exact .none
    · split_ifs with d
      · unfold State.downInLowering
        split
        · exact .fault st d _ ‹_›
        · exact .down st d ‹_›
      · exact .none
    · split_ifs with d
      · exact .off st d
      · exact .none
    · exact .none

theorem State.sense_pc_ne (s : State) {p q : Pan} (h : q ≠ p) : (s.sense p).pc q = s.pc q := by
  rcases s.senses p with ⟨-, e⟩ | ⟨-, k⟩
  · rw [e]
  · generalize s.sense p = t at k ⊢
    cases k
    case none => rfl
    case airLoss => rw [State.airLoss_pc, State.faultDrop_pc_ne _ _ h]
    case up => exact s.setPc_pc_ne _ h
    case drop | fault => exact s.enterFault_pc_ne _ h
    case down => rw [State.holdPan_pc, State.setPc_pc_ne _ _ h]
    case off => exact s.downInFault_pc_ne h

theorem State.sense_hold_ne (s : State) {p q : Pan} (h : q ≠ p) : (s.sense p).bi.hold.pan q = s.bi.hold.pan q := by
  rcases s.senses p with ⟨-, e⟩ | ⟨-, k⟩
  · rw [e]
  · generalize s.sense p = t at k ⊢
    cases k
    case none => rfl
    case airLoss => rw [State.airLoss_hold, State.fastDrop_hold_ne _ h]
    case up => simp
    case drop | fault => exact s.enterFault_hold_ne _ h
    case down => rw [State.holdPan_hold_ne _ _ h, State.setPc_bi]
    case off => exact s.downInFault_hold_ne h

/-! ### Soft lowerings that move on, and the isolated watch -/

@[simp] theorem State.advancePan_pc (s : State) (p : Pan) : (s.advancePan p).pc p = (s.pc p).advance s.bi.closed := by
  simp [State.advancePan]

theorem State.advancePan_pc_ne (s : State) {p q : Pan} (h : q ≠ p) : (s.advancePan p).pc q = s.pc q :=
  s.setPc_pc_ne _ h

@[simp] theorem State.advancePan_hold (s : State) (p q : Pan) : (s.advancePan p).bi.hold.pan q = s.bi.hold.pan q := by
  simp [State.advancePan]

/-- The isolated watch lowers this pantograph (R34). -/
def State.watched (s : State) (p : Pan) : Bool :=
  s.acts p && (s.pc p).risingOrUp && !(s.pc p).disc && !((s.pc p.other).upCollecting && s.cc.phase = .normal)

theorem State.watchIsolated_pc (s : State) (p : Pan) :
    (s.watchIsolated p).pc p = if s.watched p then (s.pc p).vent else s.pc p := by
  unfold State.watchIsolated State.watched
  dsimp only
  split_ifs <;> simp

theorem State.watchIsolated_pc_ne (s : State) {p q : Pan} (h : q ≠ p) : (s.watchIsolated p).pc q = s.pc q := by
  unfold State.watchIsolated
  dsimp only
  split_ifs
  · exact s.setPc_pc_ne _ h
  · rfl

@[simp] theorem State.watchIsolated_hold (s : State) (p q : Pan) :
    (s.watchIsolated p).bi.hold.pan q = s.bi.hold.pan q := by
  unfold State.watchIsolated
  dsimp only
  split_ifs <;> simp

/-! ### Raising -/

@[simp] theorem State.raisePan_pc (s : State) (p : Pan) (b : Bool) :
    (s.raisePan p b).pc p = { (s.pc p).zeroForce with
      disc := b, valve := true, lowering := none, raiseT := .started, state := .rising } := by
  simp [State.raisePan]

theorem State.raisePan_pc_ne (s : State) (b : Bool) {p q : Pan} (h : q ≠ p) : (s.raisePan p b).pc q = s.pc q :=
  s.setPc_pc_ne _ h

/-! ### What a controller's own movement leaves -/

@[simp] theorem PC.vent_frame (c : PC) :
    c.vent.state = .lowering ∧ c.vent.disc = c.disc ∧ c.vent.valve = false ∧ c.vent.lowering = none ∧
      c.vent.pendingFault = c.pendingFault ∧ c.vent.fault = c.fault ∧ c.vent.fset = c.fset ∧ c.vent.target = c.target ∧
      c.vent.duty = c.duty ∧ c.vent.raiseT = none ∧ c.vent.lowerT = Timer.started ∧ c.vent.heightT = none ∧
      c.vent.risingOrUp = false := by
  simp [PC.vent, PC.risingOrUp]

@[simp] theorem PC.zeroForce_frame (c : PC) :
    c.zeroForce.state = c.state ∧ c.zeroForce.disc = c.disc ∧ c.zeroForce.valve = c.valve ∧
      c.zeroForce.lowering = c.lowering ∧ c.zeroForce.pendingFault = c.pendingFault ∧ c.zeroForce.fault = c.fault ∧
      c.zeroForce.fset = 0 ∧ c.zeroForce.target = c.target ∧ c.zeroForce.duty = 0 ∧ c.zeroForce.raiseT = c.raiseT ∧
      c.zeroForce.lowerT = c.lowerT ∧ c.zeroForce.heightT = c.heightT ∧ c.zeroForce.risingOrUp = c.risingOrUp :=
  ⟨rfl, rfl, rfl, rfl, rfl, rfl, rfl, rfl, rfl, rfl, rfl, rfl, rfl⟩

/-- A soft lowering stands, begins to ramp, or vents where F_set is 0 (R39). -/
theorem PC.advance_cases (c : PC) (closed : Bool) :
    c.advance closed = c ∨
      (closed = false ∧ c.risingOrUp = true ∧ c.lowering = some .softWait ∧ c.fset ≠ 0 ∧
        c.advance closed = { c with lowering := some .softRamp }) ∨
      (closed = false ∧ c.risingOrUp = true ∧ c.lowering.isSome = true ∧ c.fset = 0 ∧ c.advance closed = c.vent) := by
  by_cases h : closed || !c.risingOrUp
  · exact .inl (by simp only [PC.advance, h, if_true])
  · obtain ⟨open', up⟩ : closed = false ∧ c.risingOrUp = true := by simpa using h
    match l : c.lowering with
    | none => exact .inl (by simp [PC.advance, l])
    | some .softWait =>
      by_cases f : c.fset = 0
      · exact .inr (.inr ⟨open', up, rfl, f, by simp [PC.advance, open', up, l, f]⟩)
      · exact .inr (.inl ⟨open', up, rfl, f, by simp [PC.advance, open', up, l, f]⟩)
    | some .softRamp =>
      by_cases f : c.fset = 0
      · exact .inr (.inr ⟨open', up, rfl, f, by simp [PC.advance, open', up, l, f]⟩)
      · exact .inl (by simp [PC.advance, l, f])

/-- What a soft lower request does to a controller that acts (R38 to R40). -/
theorem PC.softLowered_cases (c : PC) (closed : Bool) :
    ((c.risingOrUp = false ∨ c.lowering.isSome = true) ∧ c.softLowered closed = c) ∨
      (c.risingOrUp = true ∧ c.lowering = none ∧
        ((c.disc = false ∧ c.softLowered closed = c.vent) ∨
          (c.disc = true ∧ closed = true ∧
            c.softLowered closed = { c with lowering := some .softWait, raiseT := none }) ∨
          (c.disc = true ∧ closed = false ∧ c.fset ≠ 0 ∧
            c.softLowered closed = { c with lowering := some .softRamp, raiseT := none }) ∨
          (c.disc = true ∧ closed = false ∧ c.fset = 0 ∧ c.softLowered closed = c.vent))) := by
  cases r : c.risingOrUp
  case false => exact .inl ⟨.inl rfl, by simp [PC.softLowered, r]⟩
  case true =>
    cases l : c.lowering
    case some => exact .inl ⟨.inr rfl, by simp [PC.softLowered, l]⟩
    case none =>
      refine .inr ⟨rfl, rfl, ?_⟩
      have r' : c.state = .rising ∨ c.state = .up := by simpa [PC.risingOrUp] using r
      cases d : c.disc <;> cases closed <;> by_cases f : c.fset = 0 <;>
        simp [PC.softLowered, PC.advance, PC.risingOrUp, r', l, d, f, PC.vent]

end Sys2Proof.Machine
end

section
/-! PROOFS. The reactions of an event and its end as a chain of small moves, for the laws that each of them keeps. -/

namespace Sys2Proof.Machine

/-! ### Moves -/

/-- One move of the reactions of an event or of its end: one of the model's functions. Where the roof wiring stands, no window
is abandoned and no pantograph becomes the arc pantograph; late conflict and the claim test are moves of the
event's end alone. -/
inductive Reaction (rewires tests : Prop) (s : State) : State → Prop
  | sense (p : Pan) : Reaction rewires tests s (s.sense p)
  | advance (p : Pan) : Reaction rewires tests s (s.advancePan p)
  | watch (p : Pan) : Reaction rewires tests s (s.watchIsolated p)
  | abandon (w : rewires) : Reaction rewires tests s s.abandonWindow
  | arcPan (p : Pan) (w : rewires) :
    Reaction rewires tests s { s with icu := ({ s.icu with arcPan := some p } : ICU).formSum }
  | marks : Reaction rewires tests s s.clearMarks
  | fault (im : Image) (i : s.cl.image = some im) : Reaction rewires tests s (s.reactFault im)
  | stow : Reaction rewires tests s s.reactOpening
  | stowed : Reaction rewires tests s s.reactStowing
  | coasted : Reaction rewires tests s s.reactCoasting
  | close (im : Image) (i : s.cl.image = some im) : Reaction rewires tests s (s.reactClosing im)
  | requalify : Reaction rewires tests s s.reactRequalify
  | severe (im : Image) (i : s.cl.image = some im) : Reaction rewires tests s (s.judgeSevere im)
  | ice (im : Image) (i : s.cl.image = some im) : Reaction rewires tests s (s.formIce im)
  | guardHeaters (im : Image) (i : s.cl.image = some im) : Reaction rewires tests s (s.guardHeaters im)
  | pass (im : Image) (i : s.cl.image = some im) : Reaction rewires tests s (s.reactPass im)
  | loadScrape (im : Image) (i : s.cl.image = some im) : Reaction rewires tests s (s.loadScrape im)
  | judge (im : Image) (c : DropCondition) (i : s.cl.image = some im) (h : c.maskable = true)
    (now : s.icu.severe = decide (im.tSevere ≤ s.icu.arcSum)) : Reaction rewires tests s (s.judgeCause im c)
  | restore (im : Image) (i : s.cl.image = some im) : Reaction rewires tests s (s.formRestore im)
  | profile (im : Image) (i : s.cl.image = some im) : Reaction rewires tests s (s.formProfile im)
  | raise (im : Image) (i : s.cl.image = some im) : Reaction rewires tests s (s.reactRaise im)
  | scrape (im : Image) (i : s.cl.image = some im) : Reaction rewires tests s (s.reactScrape im)
  | clear (a : Acting) : Reaction rewires tests s (s.reportAndClear a)
  | targets : Reaction rewires tests s s.formTargets
  | heat (im : Image) (i : s.cl.image = some im) : Reaction rewires tests s (s.formHeat im)
  | permit (before : State) : Reaction rewires tests s (before.formOpenConfirm s.formPermit)
  | conflict (t : tests) (im : Image) (i : s.cl.image = some im) : Reaction rewires tests s (s.evaluateConflict im)
  | test (t : tests) (im : Image) (i : s.cl.image = some im) : Reaction rewires tests s (s.claimTest im)
  | alerts : Reaction rewires tests s s.formAlerts
  | report (t : tests) : Reaction rewires tests s s.askStatus

/-- A move, on a roof wiring that may change, up to the end of the event. -/
abbrev Move : State → State → Prop := Reaction True True

/-- A chain of reactions. -/
def Reactions (rewires tests : Prop) : State → State → Prop := Relation.ReflTransGen (Reaction rewires tests)

/-- A chain of moves. -/
abbrev Moves : State → State → Prop := Reactions True True

theorem Reaction.one {w x : Prop} {s t : State} (h : Reaction w x s t) : Reactions w x s t := .single h

theorem Reactions.refl {w x : Prop} (s : State) : Reactions w x s s := Relation.ReflTransGen.refl

theorem Reactions.trans {w x : Prop} {s t u : State} (h : Reactions w x s t) (k : Reactions w x t u) : Reactions w x s u :=
  Relation.ReflTransGen.trans h k

theorem Reactions.ite {w x : Prop} {s t u : State} {q : Prop} [Decidable q] (h : q → Reactions w x s t)
    (k : ¬q → Reactions w x s u) : Reactions w x s (if q then t else u) := by
  split_ifs with x
  · exact h x
  · exact k x

/-- A law that every reaction keeps is kept by a chain of them. -/
theorem Reactions.preserves {w x : Prop} {Law : State → Prop} (each : ∀ s t, Reaction w x s t → Law s → Law t) {s t : State}
    (h : Reactions w x s t) (law : Law s) : Law t := by
  induction h with
  | refl => exact law
  | tail _ k ih => exact each _ _ k ih

/-- A law that every move keeps is kept by a chain of them. -/
theorem Reactions.keeps {Law : State → Prop} (each : ∀ s t, Move s t → Law s → Law t) {s t : State} (h : Moves s t)
    (law : Law s) : Law t := Reactions.preserves each h law

theorem Reactions.ifGood {w x : Prop} {s : State} {f : Image → State → State}
    (h : ∀ im, s.cl.image = some im → Reactions w x s (f im s)) : Reactions w x s (s.ifGood f) := by
  unfold State.ifGood
  split
  · exact h _ ‹_›
  · exact .refl s

/-! ### The image stands -/

theorem Reaction.cl {w x : Prop} {s t : State} (h : Reaction w x s t) : t.cl = s.cl := by
  induction h
  case clear a => unfold State.reportAndClear; dsimp only; split_ifs <;> rfl
  all_goals simp

theorem Reactions.cl {w x : Prop} {s t : State} (h : Reactions w x s t) : t.cl = s.cl := by
  induction h with
  | refl => rfl
  | tail _ k ih => exact k.cl.trans ih

theorem Reactions.image {w x : Prop} {s t : State} (h : Reactions w x s t) {im : Image} (i : s.cl.image = some im) :
    t.cl.image = some im := by
  rw [h.cl]
  exact i

/-! ### The reactions -/

theorem moves_pantographs {w x : Prop} (s : State) : Reactions w x s s.pantographs :=
  ((((((Reaction.sense .a).one.trans (Reaction.sense .b).one).trans (Reaction.advance .a).one).trans
    (Reaction.advance .b).one).trans (Reaction.watch .a).one).trans (Reaction.watch .b).one)

theorem moves_wiring {x : Prop} (ref s : State) : Reactions True x s (ref.wiring s) := by
  have arc : ∀ t : State, Reactions True x t (ref.takeArcPan t) := by
    intro t
    unfold State.takeArcPan
    split_ifs
    · exact (Reaction.arcPan .a trivial).one
    · exact (Reaction.arcPan .b trivial).one
    · exact .refl t
  have left : Reactions True x s (if wiringChanged ref s then s.abandonWindow else s) :=
    .ite (fun _ => (Reaction.abandon trivial).one) fun _ => .refl s
  exact left.trans (arc _)

theorem moves_ccReact {w x : Prop} {s : State} {im : Image} (i : s.cl.image = some im) : Reactions w x s (s.ccReact im) := by
  have one : Reactions w x s _ := (Reaction.fault im i).one
  have three := ((one.trans (Reaction.stow).one).trans (Reaction.stowed).one).trans (Reaction.coasted).one
  exact (three.trans (Reaction.close im (three.image i)).one).trans (Reaction.requalify).one

theorem moves_icuReact {w x : Prop} {s : State} {im : Image} (i : s.cl.image = some im) : Reactions w x s (s.icuReact im) := by
  have one : Reactions w x s _ := (Reaction.severe im i).one
  have two := one.trans (Reaction.ice im (one.image i)).one
  have three := two.trans (Reaction.guardHeaters im (two.image i)).one
  have four := three.trans (Reaction.pass im (three.image i)).one
  exact four.trans (Reaction.loadScrape im (four.image i)).one

/-- A cause is taken, requested where the rule asks for it, and latched where it comes in with its mask ON (R152, R158). -/
theorem State.judgeCause_cases (s : State) (im : Image) (c : DropCondition) :
    ∃ t, (t = s.setCause c (s.maskableCause im c) ∨
        t = (s.setCause c (s.maskableCause im c)).request .wrongSystem) ∧
      (s.judgeCause im c = t ∨ s.judgeCause im c = t.latchSoft c) := by
  unfold State.judgeCause
  dsimp only
  split_ifs
  · exact ⟨_, .inr rfl, .inr rfl⟩
  · exact ⟨_, .inl rfl, .inr rfl⟩
  · exact ⟨_, .inr rfl, .inl rfl⟩
  · exact ⟨_, .inl rfl, .inl rfl⟩
  · exact ⟨_, .inl rfl, .inl rfl⟩

/-- The arcs of the Ice-Clearing Unit: the rings with the counts of the window, their sum and the severe mark, and the mode. -/
def ICU.arcs (u : ICU) : (Bool × Nat × Option Pan × IceMode) × (List Nat × List Nat × Nat × Nat) :=
  ((u.severe, u.arcSum, u.arcPan, u.mode), (u.ringA, u.ringB, u.winA, u.winB))

@[simp] theorem State.endScrape_arcs (s : State) (im : Image) (p : Pan) : (s.endScrape im p).icu.arcs = s.icu.arcs := by
  simp [State.endScrape, ICU.arcs]

@[simp] theorem State.formIce_arcs (s : State) (im : Image) : (s.formIce im).icu.arcs = s.icu.arcs := by
  have left : (s.leaveClearing im).icu.arcs = s.icu.arcs := by
    unfold State.leaveClearing State.endPass
    split
    · rw [State.endScrape_arcs]
      simp [State.heatersOff, ICU.arcs]
    · simp [State.heatersOff, ICU.arcs]
  unfold State.formIce
  dsimp only
  split_ifs
  · exact left
  · exact left
  · rfl
  · rfl

@[simp] theorem State.guardHeaters_arcs (s : State) (im : Image) : (s.guardHeaters im).icu.arcs = s.icu.arcs := rfl

@[simp] theorem State.reactPass_arcs (s : State) (im : Image) : (s.reactPass im).icu.arcs = s.icu.arcs := by
  unfold State.reactPass
  split
  · split_ifs
    · rfl
    · exact State.endScrape_arcs _ _ _
  · rfl

@[simp] theorem State.loadScrape_arcs (s : State) (im : Image) : (s.loadScrape im).icu.arcs = s.icu.arcs := by
  unfold State.loadScrape
  split
  · split_ifs <;> rfl
  · rfl

/-- The severe mark is the comparison of the arc sum (R147). -/
theorem State.icuReact_severe (s : State) (im : Image) :
    (s.icuReact im).icu.severe = decide (im.tSevere ≤ (s.icuReact im).icu.arcSum) := by
  have judged : (s.judgeSevere im).icu.severe = decide (im.tSevere ≤ (s.judgeSevere im).icu.arcSum) := by
    unfold State.judgeSevere
    dsimp only
    split_ifs <;> rfl
  have arcs : (s.icuReact im).icu.arcs = (s.judgeSevere im).icu.arcs := by simp [State.icuReact]
  simp only [ICU.arcs, Prod.mk.injEq] at arcs
  obtain ⟨⟨severe, sum, -⟩, -⟩ := arcs
  rw [severe, sum, judged]

theorem moves_dsReact {w x : Prop} {s : State} {im : Image} (i : s.cl.image = some im)
    (now : s.icu.severe = decide (im.tSevere ≤ s.icu.arcSum)) : Reactions w x s (s.dsReact im) := by
  have one : Reactions w x s _ := (Reaction.judge im .wrongSystem i rfl now).one
  have two := one.trans (Reaction.judge im .controlSilent (one.image i) rfl (by simpa using now)).one
  have three := two.trans (Reaction.judge im .lineLost (two.image i) rfl (by simpa using now)).one
  have four := three.trans (Reaction.judge im .arcSevere (three.image i) rfl (by simpa using now)).one
  exact four.trans (Reaction.restore im (four.image i)).one

theorem moves_others {w x : Prop} (s : State) : Reactions w x s s.others := by
  have chain : ∀ im, s.cl.image = some im → Reactions w x s
      (((((((s.clearMarks).ccReact im).icuReact im).dsReact im).formProfile im).reactRaise im).reactScrape im) := by
    intro im i
    have one : Reactions w x s s.clearMarks := (Reaction.marks).one
    have two := one.trans (moves_ccReact (one.image i))
    have three := two.trans (moves_icuReact (two.image i))
    have four := three.trans (moves_dsReact (three.image i) (State.icuReact_severe _ im))
    have five := four.trans (Reaction.profile im (four.image i)).one
    have six := five.trans (Reaction.raise im (five.image i)).one
    exact six.trans (Reaction.scrape im (six.image i)).one
  exact .ifGood chain

theorem moves_settle {x : Prop} (n : Nat) (ref s : State) : Reactions True x s (settle n ref s) := by
  induction n generalizing ref s with
  | zero => exact .refl s
  | succ n ih => exact (((moves_pantographs s).trans (moves_wiring ref _)).trans (moves_others _)).trans (ih _ _)

theorem moves_settled {x : Prop} (c : Instr) (s : State) : Reactions True x (direct c s) (settled c s) :=
  (moves_settle rounds s _).trans (Reaction.clear _).one

/-! ### The end of the event -/

theorem moves_guard {w x : Prop} (s : State) : Reactions w x s s.guard := by
  have one : Reactions w x s _ := (Reaction.watch .a).one.trans (Reaction.watch .b).one
  refine .trans (one.trans (.ifGood fun im i => (Reaction.guardHeaters im i).one)) (Reaction.targets).one

theorem moves_formHeatWant {w x : Prop} (before s : State) : Reactions w x s (before.formHeatWant s) :=
  .ifGood fun im i => .ite (fun _ => (Reaction.heat im i).one) fun _ => .refl s

theorem moves_admission {w : Prop} (before s : State) (test : Bool) : Reactions w True s (before.admission test s) := by
  refine .ifGood fun im i => ?_
  dsimp only
  have one : Reactions w True s _ := (Reaction.conflict trivial im i).one
  exact .ite (fun _ => one.trans (Reaction.test trivial im (one.image i)).one) fun _ => one

theorem moves_report {w : Prop} (before s : State) (ask : Bool) : Reactions w True s (before.report ask s) :=
  .ite (fun _ => (Reaction.report trivial).one) fun _ => .refl s

theorem moves_finish {w : Prop} (before s : State) (test ask : Bool) : Reactions w True s (finish before test ask s) := by
  unfold finish
  dsimp only
  refine .trans (((((moves_guard s).trans (moves_formHeatWant before _)).trans (Reaction.permit before).one).trans
    (moves_admission before _ test)).trans (Reaction.alerts).one) (moves_report before _ ask)

@[simp] theorem State.formPermit_hold (s : State) : s.formPermit.bi.hold = s.bi.hold := rfl

@[simp] theorem State.formOpenConfirm_hold (before s : State) :
    (before.formOpenConfirm s).bi.hold = s.bi.hold := rfl

@[simp] theorem finish_frame (before s : State) (test ask : Bool) :
    (finish before test ask s).lq = s.lq ∧ (finish before test ask s).pcA = s.guard.pcA ∧
    (finish before test ask s).pcB = s.guard.pcB ∧ (finish before test ask s).bi.hold = s.bi.hold ∧
    (finish before test ask s).bi.closed = s.bi.closed ∧ (finish before test ask s).bi.stuck = s.bi.stuck ∧
    (finish before test ask s).pv = s.pv ∧ (finish before test ask s).cc = s.cc ∧
    (finish before test ask s).icu = s.guard.icu ∧ (finish before test ask s).ds = s.ds ∧
    (finish before test ask s).ioc = s.ioc ∧ (finish before test ask s).cl = s.cl ∧
    (finish before test ask s).al.flags = s.al.flags ∧ (finish before test ask s).released = s.released := by
  unfold finish
  dsimp only
  simp

@[simp] theorem finish_pc (before s : State) (test ask : Bool) (p : Pan) :
    (finish before test ask s).pc p = s.guard.pc p := by
  cases p <;> simp

theorem State.permitGiven_congr {s t : State} (cl : t.cl = s.cl) (hold : t.bi.hold = s.bi.hold) (lq : t.lq = s.lq)
    (cc : t.cc = s.cc) (a : t.pcA = s.pcA) (b : t.pcB = s.pcB) : t.permitGiven = s.permitGiven := by
  simp [State.permitGiven, State.readyToClose, State.feeds, cl, hold, lq, cc, a, b]

/-- The permit at the end of an event is the one that the state then gives (R50). -/
theorem finish_permit (before s : State) (test ask : Bool) :
    (finish before test ask s).bi.permit = (finish before test ask s).permitGiven := by
  have formed : (finish before test ask s).bi.permit = (before.formHeatWant s.guard).permitGiven := by
    unfold finish
    dsimp only
    simp [State.formPermit]
  rw [formed]
  exact (State.permitGiven_congr (by simp) (by simp) (by simp) (by simp) (by simp) (by simp)).symm

/-- The open-confirm timer at the end of an event (R51). -/
theorem finish_openConfirm (before s : State) (test ask : Bool) :
    (finish before test ask s).bi.openConfirm =
      if (finish before test ask s).closedWithoutPermit then
        (if before.closedWithoutPermit then s.bi.openConfirm else .started)
      else none := by
  have formed : (finish before test ask s).bi.openConfirm =
      (before.formOpenConfirm (before.formHeatWant s.guard).formPermit).bi.openConfirm := by
    unfold finish
    dsimp only
    simp
  have same : (finish before test ask s).closedWithoutPermit =
      (before.formHeatWant s.guard).formPermit.closedWithoutPermit := by
    unfold finish
    dsimp only
    simp [State.closedWithoutPermit, State.good]
  rw [formed, same]
  simp [State.formOpenConfirm]

/-- An event leads from its direct effect to its end by moves. -/
theorem moves_eventEnd (c : Instr) (s : State) : Moves (direct c s) (eventEnd c s) :=
  (moves_settled c s).trans (moves_finish s _ _ _)

/-- A law of states that each direct effect and each move keeps is kept by an event. -/
theorem eventEnd_keeps {Law : State → Prop} (each : ∀ s t, Move s t → Law s → Law t) {c : Instr} {s : State}
    (law : Law (direct c s)) : Law (eventEnd c s) :=
  (moves_eventEnd c s).keeps each law

end Sys2Proof.Machine
end

section
/-! PROOFS. The pantographs through the direct effects of the commands. -/

namespace Sys2Proof.Machine

/-! ### Drifting -/

/-- Both pantographs drift, as they do in the reactions of an event. -/
def Drifts (s t : State) : Prop := ∀ p, (s.pc p).Drift (t.pc p)

theorem Drifts.refl (s : State) : Drifts s s := fun _ => .refl _

theorem Drifts.trans {s t u : State} (h : Drifts s t) (k : Drifts t u) : Drifts s u := fun p => (h p).trans (k p)

theorem State.Reacts.drifts {s t : State} (h : s.Reacts t) : Drifts s t := h.pc

theorem Drifts.of_same {s t : State} (a : t.pcA = s.pcA) (b : t.pcB = s.pcB) : Drifts s t := by
  intro p
  cases p
  · rw [State.pc_a, State.pc_a, a]; exact .refl _
  · rw [State.pc_b, State.pc_b, b]; exact .refl _

theorem Drifts.ite {s t u : State} {q : Prop} [Decidable q] (h : Drifts s t) (k : Drifts s u) :
    Drifts s (if q then t else u) := by
  split_ifs
  · exact h
  · exact k

/-- A controller whose timers alone change. -/
theorem Drifts.setPc (s : State) (p : Pan) {c : PC} (h : (s.pc p).Drift c) : Drifts s (s.setPc p c) :=
  (State.Reacts.setPc s p h).drifts

theorem drifts_heightLevel (s : State) (p : Pan) (b : Bool) : Drifts s (s.heightLevel p b) := by
  unfold State.heightLevel
  dsimp only
  split_ifs
  · exact .setPc s p (.same rfl id id (.inl ⟨rfl, rfl⟩) rfl)
  · exact .setPc s p (.same rfl id id (.inl ⟨rfl, rfl⟩) rfl)
  · exact .refl s
  · exact .refl s

theorem State.Reacts.latchEmergency (s : State) : s.Reacts s.latchEmergency := by
  unfold State.latchEmergency
  split
  · exact .refl s
  · exact ((State.Reacts.fastDrop s .a).trans (.fastDrop _ .b)).trans (.setLatch _ _)

theorem State.Reacts.eloopOpens (s : State) : s.Reacts s.eloopOpens :=
  ((State.Reacts.ds s _).trans (.latchEmergency _)).trans (.request _ _)

theorem drifts_readers (s : State) (i : LevelInput) (b : Bool) : Drifts s (s.readers i b) := by
  cases i
  case upA | upB => exact drifts_heightLevel s _ b
  case eloop =>
    cases b
    · exact (State.Reacts.eloopOpens s).drifts
    · exact .of_same rfl rfl
  all_goals exact .of_same (by simp [State.readers]) (by simp [State.readers])

theorem drifts_accept (s : State) (i : LevelInput) (b : Bool) : Drifts s (s.accept i b) := by
  unfold State.accept
  refine .trans ?_ (drifts_readers _ i b)
  exact .of_same rfl rfl

theorem drifts_sampleInput (s : State) (i : LevelInput) (b : Bool) : Drifts s (s.sampleInput i b) :=
  .ite (.of_same rfl rfl) (.ite (drifts_accept s i b) (.of_same rfl rfl))

theorem drifts_sampleAll (s : State) (l : Levels) : Drifts s (s.sampleAll l) := by
  unfold State.sampleAll
  generalize levelInputs = is
  induction is generalizing s with
  | nil => exact .refl s
  | cons i is ih => exact (drifts_sampleInput s i _).trans (ih _)

theorem drifts_reformInput (s : State) (l : Levels) (i : LevelInput) : Drifts s (s.reformInput l i) :=
  .ite (.refl s) (drifts_accept s i _)

theorem drifts_reformInputs (s : State) (l : Levels) : Drifts s (s.reformInputs l) :=
  (((((((drifts_reformInput s l _).trans (drifts_reformInput _ l _)).trans (drifts_reformInput _ l _)).trans
    (drifts_reformInput _ l _)).trans (drifts_reformInput _ l _)).trans (drifts_reformInput _ l _)).trans
    (drifts_reformInput _ l _)).trans (drifts_reformInput _ l _)

theorem drifts_reformLevels (s : State) (l : Levels) : Drifts s (s.reformLevels l) := by
  rw [State.reformLevels_eq]
  exact (drifts_reformInputs s l).trans (.of_same (by simp) (by simp))

theorem State.Reacts.judgeForced (s : State) : s.Reacts s.judgeForced := by
  unfold State.judgeForced
  dsimp only
  have k : s.Reacts (s.setCause .forced s.pv.force.forceDrop) := .ds s _
  split_ifs
  · exact k.trans (.latchSoft _ _)
  · exact k.trans (.keepLatches _ _)
  · exact k

theorem State.Reacts.lowerOnDown (old : DemandInForce) (s : State) : s.Reacts (s.lowerOnDown old) := by
  unfold State.lowerOnDown
  split_ifs
  · exact (State.Reacts.softLower s .a).trans (.softLower _ .b)
  · exact .refl s

/-- Past the RESTORE a handing-on of the demand in force lets the pantographs drift. -/
theorem drifts_handOn (s : State) (im : Image) (old : DemandInForce) (b : Bool) :
    Drifts (s.judgeForced.restoreAll b) (s.handOn im old b) := by
  unfold State.handOn
  refine .trans ?_ (.of_same (s := ((s.judgeForced.restoreAll b).ccHanded im s.pv.force b).lowerOnDown old)
    (by simp) (by simp))
  exact .trans (.of_same (by simp) (by simp)) (State.Reacts.lowerOnDown old _).drifts

theorem drifts_tableChanged (s : State) (im : Image) (l : List Entry) : Drifts s (s.tableChanged im l) := by
  unfold State.tableChanged
  dsimp only
  refine .trans (.of_same (t := ({ s with pv := { s.pv with table := l } } : State).formDemand) (by simp) (by simp)) ?_
  refine .ite ?_ (.refl _)
  exact (State.Reacts.judgeForced _).drifts.trans (drifts_handOn _ im _ false)

theorem drifts_takeRoof (s : State) (im : Image) (h : RxHeader) (f : RoofData → RoofData) :
    Drifts s (s.takeRoof im h f) :=
  (drifts_tableChanged s im _).trans (.ite (.of_same rfl rfl) (.refl _))

theorem drifts_takeStatus (s : State) (im : Image) (h : RxHeader) (b : Vector Byte 28) :
    Drifts s (s.takeStatus im h b) :=
  (drifts_takeRoof s im h fun r => r.takeStatus (statusContent im.trainLength b)).trans (.of_same rfl rfl)

theorem drifts_failRequalify (s : State) : Drifts s s.failRequalify := (State.Reacts.failRequalify s).drifts

theorem drifts_resolveConflict (s : State) (p : Pan) : Drifts s (s.resolveConflict p) := by
  unfold State.resolveConflict
  dsimp only
  have k := ((State.Reacts.softLower s p).trans (.request _ .peerConflict)).drifts
  cases p
  · exact k.trans (.of_same rfl rfl)
  · exact k.trans (.of_same rfl rfl)

theorem State.Reacts.countPulse (s : State) : s.Reacts s.countPulse := by
  unfold State.countPulse
  split
  · split_ifs
    · split
      · exact .endLeg1 s
      · exact .endLeg2 s
      · exact .endLeg3 s
    · exact .cc s _
  · exact .refl s

theorem drifts_countScrape (s : State) (im : Image) : Drifts s (s.countScrape im) := by
  unfold State.countScrape
  split
  · split_ifs
    · split
      · exact (State.Reacts.endScrape s im _).drifts
      · exact .of_same rfl rfl
    · exact .of_same rfl rfl
  · exact .refl s

theorem drifts_odoInput (s : State) (r : Bool) (n : Nat) : Drifts s (s.odoInput r n) := by
  unfold State.odoInput State.ifGood
  refine .ite (.trans (.of_same (t := { s with ioc := s.ioc.takePulse n }) rfl rfl) ?_) (.refl s)
  split
  · refine .trans ?_ (drifts_countScrape _ _)
    unfold State.countCooldown
    split
    · refine .trans (.trans ?_ (State.Reacts.countPulse _).drifts) (.of_same rfl rfl)
      exact .of_same rfl rfl
    · refine .trans ?_ (State.Reacts.countPulse _).drifts
      exact .of_same rfl rfl
  · exact .refl _

theorem drifts_scrapeEnds (s : State) (im : Image) : Drifts s (s.scrapeEnds im) := by
  unfold State.scrapeEnds
  split
  · exact (State.Reacts.endScrape s im _).drifts
  · exact .refl s

theorem drifts_takeSample (s : State) (im : Image) (code : BitVec 14) (valid : Bool) :
    Drifts s (s.takeSample im code valid) := by
  refine .ite (.of_same rfl rfl) ?_
  unfold State.windowEnd
  refine .trans ?_ (State.Reacts.judgeWindow _ im).drifts
  refine .trans (.of_same (t := { s with
    lq := (s.lq.take im.h code valid).close im.kq, icu := s.icu.advance im.tClear }) rfl rfl) ?_
  exact .ite (.of_same rfl rfl) (.refl _)

/-- The commands whose direct effect can do more to a pantograph than the reactions of an event do. -/
def steersPantographs : Instr → Bool
  | .resetRelease _ _ | .configReadEnd _ _ | .lowerTimerExpiry _ | .rampTick | .demandReceived _ _ | .holdOffExpiry => true
  | _ => false

theorem direct_drifts {c : Instr} (h : steersPantographs c = false) (s : State) : Drifts s (direct c s) := by
  have k := direct_acts c s
  generalize direct c s = d at k ⊢
  induction k
  case release | goodRecord | badRecord | lowerTimeout | ramp | demand | holdOff => cases h
  case none => exact .refl s
  case accept => exact drifts_accept s _ _
  case raiseTimeout | heightLoss => exact (State.Reacts.faultDrop s _ _).drifts
  case status => exact drifts_takeStatus s _ _ _
  case claim | withdraw | record => exact drifts_takeRoof s _ _ _
  case removeLearning | removeLost => exact .ite (drifts_tableChanged s _ _) (.refl s)
  case lose | ageOut =>
    first | unfold State.loseEntry | unfold State.ageOutClaim
    split
    · exact .ite (drifts_tableChanged s _ _) (.refl s)
    · exact .refl s
  case conflict => exact drifts_resolveConflict s _
  case pulse => exact drifts_odoInput s _ _
  case leg2 => exact (State.Reacts.endLeg2 s).drifts
  case requalify => exact drifts_failRequalify s
  case scrapeEnd => exact drifts_scrapeEnds s _
  case sample => exact drifts_takeSample s _ _ _
  case levels => exact drifts_sampleAll s _
  all_goals exact .of_same (by simp) (by simp)

end Sys2Proof.Machine
end

section
/-! PROOFS. The laws of the pantographs' states (R32, R34, R45). -/

namespace Sys2Proof.Machine

/-! ### From the direct effect to the end of the event -/

theorem drifts_settled (c : Instr) (s : State) : Drifts (direct c s) (settled c s) :=
  (State.Reacts.settle rounds s (direct c s)).drifts.trans (.of_same (by simp [settled]) (by simp [settled]))

theorem drifts_eventEnd (c : Instr) (s : State) : Drifts (direct c s) (eventEnd c s) :=
  (drifts_settled c s).trans (State.Reacts.finish s _ _ _).drifts

/-! ### The law of R45 -/

theorem State.pc_restorePan (s : State) (p : Pan) :
    (s.restorePan p).pc p = s.pc p ∨
      (s.acts p = true ∧ (s.pc p).state = .fault ∧ s.downSensor p = true ∧
        (s.restorePan p).pc p = { s.pc p with state := .down }) := by
  unfold State.restorePan
  split_ifs with h
  · simp only [Bool.and_eq_true, decide_eq_true_eq] at h
    exact .inr ⟨h.1.1, h.1.2, h.2, by simp⟩
  · exact .inl rfl

theorem State.restorePan_pc_ne (s : State) {p q : Pan} (h : q ≠ p) : (s.restorePan p).pc q = s.pc q := by
  unfold State.restorePan
  split_ifs
  · exact State.setPc_pc_ne s _ h
  · rfl

theorem State.downSensor_restorePan (s : State) (p q : Pan) : (s.restorePan p).downSensor q = s.downSensor q := by
  cases q <;> simp [State.downSensor]

/-- A RESTORE leaves a controller as it is, or takes it out of FAULT on its DOWN sensor (R45). -/
theorem State.pc_restoreAll (s : State) (b : Bool) (p : Pan) :
    (s.restoreAll b).pc p = s.pc p ∨
      (b = true ∧ (s.pc p).state = .fault ∧ s.downSensor p = true ∧
        (s.restoreAll b).pc p = { s.pc p with state := .down }) := by
  cases b
  case false => exact .inl rfl
  case true =>
    have after : (s.restoreAll true).pc p = ((s.restorePan .a).restorePan .b).pc p := by
      cases p <;> simp [State.restoreAll]
    rw [after]
    cases p
    case a =>
      rw [State.restorePan_pc_ne _ (by decide)]
      rcases s.pc_restorePan .a with h | ⟨-, h⟩
      · exact .inl h
      · exact .inr ⟨rfl, h⟩
    case b =>
      have same : (s.restorePan .a).pc .b = s.pc .b := s.restorePan_pc_ne (by decide)
      rcases (s.restorePan .a).pc_restorePan .b with h | ⟨-, h⟩
      · exact .inl (h.trans same)
      · rw [same, State.downSensor_restorePan] at h
        exact .inr ⟨rfl, h⟩

/-- A DEMAND takes a pantograph out of FAULT only by a restore toggle that acts, on its DOWN sensor, for DOWN. -/
theorem State.takeDemand_fault {s : State} {im : Image} {h : RxHeader} {b : Vector Byte 10} {p : Pan}
    (k : (s.pc p).state = .fault) :
    ((s.takeDemand im h b).pc p).state = .fault ∨
      ((actingToggles s.pv.table h b (s.enterDemand h b).pv.governing).restore = true ∧ s.downSensor p = true ∧
        ((s.takeDemand im h b).pc p).state = .down) := by
  unfold State.takeDemand
  dsimp only
  have entered : Drifts s (s.enterDemand h b).judgeForced :=
    .trans (.of_same (by simp) (by simp)) (State.Reacts.judgeForced _).drifts
  have faulted := ((entered p).fault k).1
  have sensor : (s.enterDemand h b).judgeForced.downSensor p = s.downSensor p := by
    cases p <;> simp [State.downSensor]
  split_ifs
  case neg => exact .inl (by rw [← k]; cases p <;> simp)
  generalize (actingToggles s.pv.table h b (s.enterDemand h b).pv.governing).restore = r
  have on := drifts_handOn (s.enterDemand h b) im s.pv.force r p
  rcases (s.enterDemand h b).judgeForced.pc_restoreAll r p with same | ⟨acts, -, down, restored⟩
  · exact .inl (on.fault (by rw [same, faulted])).1
  · exact .inr ⟨acts, sensor ▸ down, on.down (by rw [restored])⟩

theorem State.holdAbsent_pc (s : State) (p : Pan) (h : s.acts p = false) : (s.holdAbsent p).pc p = PC.reset true := by
  cases p <;> simp [State.holdAbsent, h]

theorem State.holdAbsent_of_acts (s : State) (p : Pan) (h : s.acts p = true) : s.holdAbsent p = s := by
  simp [State.holdAbsent, h]

theorem State.holdAbsent_pc_ne (s : State) {p q : Pan} (h : q ≠ p) : (s.holdAbsent p).pc q = s.pc q := by
  unfold State.holdAbsent
  split_ifs
  · rfl
  · cases p <;> simp [State.setPc_pc_ne s _ h]

/-- Both controllers at the configuration-good event: at rest where the image marks the pantograph absent (R28). -/
theorem State.holdAbsent_both_pc (s : State) (p : Pan) :
    ((s.holdAbsent .a).holdAbsent .b).pc p = if s.acts p then s.pc p else PC.reset true := by
  have acts : (s.holdAbsent .a).acts .b = s.acts .b := by simp [State.acts]
  cases p
  case a =>
    rw [State.holdAbsent_pc_ne _ (by decide)]
    split_ifs with h
    · rw [s.holdAbsent_of_acts .a h]
    · exact s.holdAbsent_pc .a (by simpa using h)
  case b =>
    split_ifs with h
    · rw [State.holdAbsent_of_acts _ _ (acts.trans h)]
      exact s.holdAbsent_pc_ne (by decide)
    · exact State.holdAbsent_pc _ _ (acts.trans (by simpa using h))

theorem drifts_startLower (s : State) (p : Pan) : Drifts s (s.startLower p) := by
  unfold State.startLower
  split_ifs
  · exact .setPc s p (.same rfl id id (.inl ⟨rfl, rfl⟩) rfl)
  · exact .refl s

theorem drifts_verdict (s : State) : Drifts s s.verdict := .of_same (by simp) (by simp)

/-- The controllers at the configuration-good event, before the levels are formed afresh. -/
def goodPan (s : State) (record : Vector Byte 128) (p : Pan) : PC :=
  if ((clampImage (rawImage record)).pan p).present then s.pc p else PC.reset true

/-- From the absent pantographs on, the configuration-good event lets the pantographs drift. -/
theorem goodVerdict_drifts (s : State) (record : Vector Byte 128) (pins : Levels) (p : Pan) :
    (goodPan s record p).Drift ((s.goodVerdict record pins).pc p) := by
  unfold State.goodVerdict
  dsimp only
  refine .trans ?_ (drifts_startLower _ .b p)
  refine .trans ?_ (drifts_startLower _ .a p)
  refine .trans ?_ (drifts_verdict _ p)
  refine .trans ?_ (drifts_reformLevels _ _ p)
  rw [State.holdAbsent_both_pc]
  have pc : ∀ u : State, (u.markClamped.holdCL false).pc p = u.pc p := by
    intro u
    cases p <;> simp
  have acts : ∀ u : State, (u.markClamped.holdCL false).acts p = u.acts p := by
    intro u
    simp [State.acts]
  rw [pc, acts]
  exact .refl _

theorem goodVerdict_image (s : State) (record : Vector Byte 128) (pins : Levels) :
    (s.goodVerdict record pins).cl.image = some (clampImage (rawImage record)) := by
  unfold State.goodVerdict State.verdict
  dsimp only
  split_ifs <;> simp

theorem State.demandToggles_of_takes {s : State} {h : RxHeader} {b : Vector Byte 10} (k : s.takes .control h = true) :
    s.demandToggles h b = actingToggles s.pv.table h b (s.enterDemand h b).pv.governing := if_pos k

theorem State.takes_of {s : State} {im : Image} {h : RxHeader} {want : NodeKind} (i : s.cl.image = some im)
    (o : h.src ≠ s.cl.address) (k : h.kind = want) : s.takes want h = true := by
  simp [State.takes, State.good, i, o, k]

/-- A controller that has taken a grant (R32). -/
def PC.raisedIn (c : PC) (collecting : Bool) : PC :=
  { c.zeroForce with disc := collecting, valve := true, lowering := none, raiseT := .started, state := .rising }

theorem State.act_pc (s : State) (im : Image) (h : Head) (p : Pan) :
    (s.act im h).pc p = if h.kind ≠ .heat ∧ h.pan = p then (s.pc p).raisedIn (h.kind == .raise) else s.pc p := by
  obtain ⟨kind, pan, amount⟩ := h
  cases kind <;> cases pan <;> cases p <;> rfl

theorem State.grant_pc (s : State) (im : Image) (h : Head) (p : Pan) :
    (s.grant im h).pc p = s.pc p ∨
      (h.kind ≠ .heat ∧ h.pan = p ∧ s.grantTaken p (h.kind == .raise) = true ∧
        (s.grant im h).pc p = (s.pc p).raisedIn (h.kind == .raise)) := by
  have on : ∀ t : State, t.pcA = s.pcA → t.pcB = s.pcB → t.pc p = s.pc p := by
    intro t a b
    cases p
    · exact a
    · exact b
  unfold State.grant
  dsimp only
  split_ifs with taken
  · rw [State.act_pc, on _ rfl rfl]
    split_ifs with k
    · refine .inr ⟨k.1, k.2, ?_, rfl⟩
      obtain ⟨kind, pan, amount⟩ := h
      obtain ⟨raises, rfl⟩ := k
      cases kind
      case raise | scrape => exact taken
      case heat => exact absurd rfl raises
    · exact .inl rfl
  · exact .inl (on _ rfl rfl)

theorem State.holdOffEnd_pc (s : State) (im : Image) (p : Pan) :
    (s.holdOffEnd im).pc p = s.pc p ∨
      ∃ h, s.au.head = some h ∧ h.kind ≠ .heat ∧ h.pan = p ∧ s.passes im h = true ∧
        s.grantTaken p (h.kind == .raise) = true ∧
        (s.holdOffEnd im).pc p = (s.pc p).raisedIn (h.kind == .raise) := by
  unfold State.holdOffEnd
  split
  · split_ifs with passes
    · rcases s.grant_pc im _ p with same | ⟨kind, pan, taken, raised⟩
      · exact .inl same
      · exact .inr ⟨_, ‹_›, kind, pan, passes, taken, raised⟩
    · left
      cases p <;> simp
  · exact .inl rfl

theorem State.rampBoth_pc (s : State) (p : Pan) :
    (s.rampBoth).pc p = s.pc p ∨ ∃ im, s.cl.image = some im ∧ (s.rampBoth).pc p = (s.pc p).ramp im := by
  unfold State.rampBoth State.ifGood
  split
  · exact .inr ⟨_, ‹_›, by cases p <;> rfl⟩
  · exact .inl (by cases p <;> rfl)

/-- What the direct effect of a command can do to a pantograph in FAULT (R45, R28). -/
theorem direct_fault {c : Instr} {s : State} {p : Pan} (runs : resets c = false) (k : (s.pc p).state = .fault) :
    ((direct c s).pc p).state = .fault ∨
      (((direct c s).pc p).state = .down ∧
        ((∃ h b, c = .demandReceived h b ∧ (s.demandToggles h b).restore = true ∧ s.downSensor p = true) ∨
          ∃ record pins, c = .configReadEnd record pins ∧ (direct c s).present p = false)) := by
  cases steers : steersPantographs c
  case false => exact .inl ((direct_drifts steers s p).fault k).1
  have d := direct_acts c s
  generalize direct c s = t at d ⊢
  induction d
  case none => exact .inl k
  case release => cases runs
  case goodRecord r pins h good =>
    have on := goodVerdict_drifts s r pins p
    unfold goodPan at on
    cases present : ((clampImage (rawImage r)).pan p).present
    case true => exact .inl (on.fault (by simpa [present] using k)).1
    case false =>
      refine .inr ⟨on.down (by simp [present, PC.reset]), .inr ⟨r, pins, rfl, ?_⟩⟩
      simp [State.present, goodVerdict_image, present]
  case badRecord => exact .inl (by cases p <;> simpa using k)
  case lowerTimeout q h =>
    by_cases e : p = q
    · subst e
      exact .inl (by simp [State.lowerTimeout, State.enterFault_pc, PC.faultedBy])
    · exact .inl (by rw [State.lowerTimeout, State.enterFault_pc_ne _ _ e, k])
  case ramp =>
    rcases s.rampBoth_pc p with same | ⟨im, -, ramped⟩
    · exact .inl (same ▸ k)
    · exact .inl (by rw [ramped]; exact k)
  case clash => exact .inl (by simpa using k)
  case error => exact .inl (by cases p <;> simpa using k)
  case demand h b im _ _ _ =>
    rcases State.takeDemand_fault (im := im) (h := h) (b := b) k with stays | ⟨acts, sensor, down⟩
    · exact .inl stays
    · refine .inr ⟨down, .inl ⟨h, b, rfl, ?_, sensor⟩⟩
      rw [State.demandToggles_of_takes (State.takes_of ‹_› ‹_› ‹_›)]
      exact acts
  case holdOff im i h =>
    rcases s.holdOffEnd_pc im p with same | ⟨_, -, -, -, -, taken, -⟩
    · exact .inl (same ▸ k)
    · simp [State.grantTaken, k] at taken
  all_goals cases steers

/-- Settles O28: the reactions keep a pantograph in FAULT, so that only the direct effect of a command takes it out. -/
theorem faultIsLeftOnlyByRestore : Obligations.FaultIsLeftOnlyByRestore := by
  intro c rest s t p queue stepped released live fault left
  rw [stepRunsTheFrontCommand c rest s queue] at stepped
  cases exec_answer stepped with
  | idle => exact absurd fault left
  | reset => cases live
  | event runs =>
    have kind : resets c = false := by
      rcases runs with ⟨-, h⟩ | ⟨h, -⟩
      · exact h
      · cases released.symm.trans h
    have on := drifts_eventEnd c { s with pending := rest } p
    rcases direct_fault (s := { s with pending := rest }) kind fault with stays | ⟨down, why⟩
    · exact absurd (on.fault stays).1 left
    · refine ⟨on.down down, ?_⟩
      rcases why with ⟨h, b, rfl, acts, sensor⟩ | ⟨r, pins, rfl, absent⟩
      · exact .inl ⟨h, b, rfl, acts, sensor⟩
      · refine .inr ⟨r, pins, rfl, ?_⟩
        unfold State.present
        rw [(moves_eventEnd _ _).cl]
        exact absent

end Sys2Proof.Machine
end

section
/-! PROOFS. The breaker: its permit, its open-confirm timer and its stuck flag (R48 to R52); the laws of R32 and R34. -/

namespace Sys2Proof.Machine

/-! ### What the levels of the inputs can change -/

theorem State.sampleInput_keeps {Law : State → Prop}
    (runs : ∀ (s : State) r, Law s → Law { s with ioc := { s.ioc with runs := r } })
    (accept : ∀ s i b, Law s → Law (s.accept i b)) (s : State) (i : LevelInput) (b : Bool) (law : Law s) :
    Law (s.sampleInput i b) := by
  unfold State.sampleInput
  split_ifs
  · exact runs s _ law
  · exact accept s i _ law
  · exact runs s _ law

/-- A law that an acceptance keeps, and that does not read the run counts, is kept by a sample of the inputs. -/
theorem State.sampleAll_keeps {Law : State → Prop}
    (runs : ∀ (s : State) r, Law s → Law { s with ioc := { s.ioc with runs := r } })
    (accept : ∀ s i b, Law s → Law (s.accept i b)) (s : State) (l : Levels) (law : Law s) : Law (s.sampleAll l) := by
  unfold State.sampleAll
  generalize levelInputs = is
  induction is generalizing s with
  | nil => exact law
  | cons i is ih => exact ih _ (State.sampleInput_keeps runs accept s i _ law)

/-- A law that an acceptance keeps, and that does not read the IOC otherwise, is kept where the levels are formed afresh. -/
theorem State.reformLevels_keeps {Law : State → Prop}
    (ioc : ∀ (s : State) o, Law s → Law { s with ioc := o }) (accept : ∀ s i b, Law s → Law (s.accept i b))
    (view : ∀ s d, Law s → Law (s.setView d)) (s : State) (l : Levels) (law : Law s) : Law (s.reformLevels l) := by
  unfold State.reformLevels
  refine view _ _ (ioc _ _ ?_)
  generalize levelInputs.filter _ = is
  induction is generalizing s with
  | nil => exact law
  | cons i is ih =>
    refine ih _ ?_
    dsimp only
    split_ifs
    · exact law
    · exact accept s i _ law

/-! ### The configuration-good event -/

/-- The configuration-good event up to the levels: the image, the hold-open set and the absent pantographs (R204, R28). -/
def State.goodStart (s : State) (record : Vector Byte 128) : State :=
  let im := clampImage (rawImage record)
  (((({ s with
      cl := { s.cl with image := some im, clamped := im ≠ rawImage record, read := none, retryT := none },
      lau := { s.lau with faultMode := false },
      pv := { s.pv with learningT := .started } } : State).markClamped).holdCL false).holdAbsent .a).holdAbsent .b

theorem State.goodVerdict_eq (s : State) (record : Vector Byte 128) (pins : Levels) :
    s.goodVerdict record pins =
      (((s.goodStart record).reformLevels
        (logical (clampImage (rawImage record)).polarities.levels pins)).verdict.startLower .a).startLower .b := rfl

@[simp] theorem State.goodStart_frame (s : State) (record : Vector Byte 128) :
    (s.goodStart record).lq = s.lq ∧ (s.goodStart record).bi.hold.cc = s.bi.hold.cc ∧
    (s.goodStart record).bi.hold.ds = s.bi.hold.ds ∧ (s.goodStart record).bi.hold.cl = false ∧
    (s.goodStart record).bi.permit = s.bi.permit ∧ (s.goodStart record).bi.closed = s.bi.closed ∧
    (s.goodStart record).bi.openConfirm = s.bi.openConfirm ∧ (s.goodStart record).bi.stuck = s.bi.stuck ∧
    (s.goodStart record).pv = { s.pv with learningT := .started } ∧ (s.goodStart record).au = s.au ∧
    (s.goodStart record).cc = s.cc ∧ (s.goodStart record).icu = s.icu ∧ (s.goodStart record).ds = s.ds ∧
    (s.goodStart record).ioc = s.ioc ∧ (s.goodStart record).released = s.released ∧
    (s.goodStart record).lau = { s.lau with faultMode := false } ∧
    (s.goodStart record).cl.image = some (clampImage (rawImage record)) := by
  simp [State.goodStart]

/-! ### The stuck flag -/

/-- The stuck flag stands only on a closed breaker (R52). -/
def State.StuckClosed (s : State) : Prop := s.bi.stuck = true → s.bi.closed = true

theorem State.StuckClosed.of_bi {s t : State} (h : s.StuckClosed) (c : t.bi.closed = s.bi.closed)
    (k : t.bi.stuck = s.bi.stuck) : t.StuckClosed := by
  intro x
  rw [c]
  exact h (k ▸ x)

theorem State.StuckClosed.accept (s : State) (i : LevelInput) (b : Bool) (h : s.StuckClosed) :
    (s.accept i b).StuckClosed := by
  unfold State.accept
  cases i
  case brkFb =>
    intro x
    have : s.bi.stuck = true ∧ b = true := by simpa [State.readers, State.breakerLevel] using x
    simpa [State.readers, State.breakerLevel] using this.2
  all_goals exact h.of_bi (by simp [State.readers]) (by simp [State.readers])

theorem direct_stuck {c : Instr} {s : State} (held : s.HeldLaw) (law : s.BreakerLaw) (runs : Runs c s) :
    (direct c s).StuckClosed := by
  have h : s.StuckClosed := law.stuck
  have d := direct_acts c s
  generalize direct c s = t at d ⊢
  induction d
  case release pins straps =>
    rcases runs with ⟨-, x⟩ | ⟨x, -⟩
    · cases x
    · intro k
      have : s.bi.stuck = false := by rw [held x]; rfl
      simp [State.release, State.releaseLoop, State.eloopOpens] at k
      split_ifs at k <;> simp_all
  case goodRecord r pins _ _ =>
    rw [State.goodVerdict_eq]
    refine .of_bi (s := (s.goodStart r).reformLevels (logical (clampImage (rawImage r)).polarities.levels pins)) ?_
      (by simp) (by simp)
    exact State.reformLevels_keeps (Law := State.StuckClosed) (fun _ _ x => x) State.StuckClosed.accept
      (fun v d x => x.of_bi (by simp) (by simp)) _ _ (h.of_bi (by simp) (by simp))
  case accept i b _ => exact .accept s i b h
  case stuck x => exact fun _ => by simpa [State.breakerStuck] using (law.timer x).2.2
  case levels pins =>
    exact State.sampleAll_keeps (Law := State.StuckClosed) (fun _ _ x => x) State.StuckClosed.accept s _ h
  all_goals exact h.of_bi (by simp) (by simp)

theorem State.closedWithoutPermit_iff (s : State) :
    s.closedWithoutPermit = true ↔ s.good = true ∧ s.bi.permit = false ∧ s.bi.closed = true := by
  simp [State.closedWithoutPermit, and_assoc]

/-- Settles O19. -/
theorem stuckBreakerIsReported : Obligations.StuckBreakerIsReported := by
  refine ⟨fun s released runs => ?_, ?_⟩
  · have effect : direct .openConfirmTimerExpiry s = s.breakerStuck := if_pos runs
    have reacts := reacts_eventEnd (c := .openConfirmTimerExpiry) (by simp) s
    rw [effect] at reacts
    refine ⟨_, exec_eq_event released rfl, reacts.flags .breakerStuck (by simp [State.breakerStuck]), ?_⟩
    refine .trans ?_ reacts
    refine .trans ?_ (.request { s with bi := { s.bi with openConfirm := none, stuck := true } } .breakerStuck)
    exact .beside rfl rfl rfl rfl rfl
  · refine step_keeps_of_held (Law := State.BreakerLaw) (fun s q h => ⟨h.timer, h.stuck⟩) (fun cause => ?_) ?_ ?_
    · exact ⟨by simp [State.held, BI.reset], by simp [State.held, BI.reset]⟩
    · intro s _ h
      exact ⟨fun k => h.timer (by simpa [State.older, Machine.older] using k), h.stuck⟩
    · intro c s held h runs
      refine ⟨fun k => ?_, ?_⟩
      · rw [eventEnd, finish_openConfirm] at k
        split_ifs at k with open'
        · exact (State.closedWithoutPermit_iff _).mp open'
        · exact (State.closedWithoutPermit_iff _).mp open'
        · cases k
      · exact (direct_stuck held h runs).of_bi (by simp [eventEnd, settled]) (by simp [eventEnd, settled])

/-! ### The permit -/

theorem State.feeds_iff (s : State) (im : Image) (p : Pan) :
    s.feeds im p = true ↔ (s.pc p).state = .up ∧ (s.pc p).disc = true ∧
      ∃ set, (im.pan p).set = some set ∧ s.lq.q.live = true ∧ set.contains s.lq.q = true := by
  have live : ∀ set : SystemSet, set.contains s.lq.q = true → s.lq.q.live = true := by
    intro set
    cases set <;> cases s.lq.q <;> decide
  cases k : (im.pan p).set <;> simp [State.feeds, PC.upCollecting, k]
  rename_i set
  rw [and_assoc]
  exact and_congr_right fun _ => and_congr_right fun _ => ⟨fun h => ⟨live set h, h⟩, fun h => h.2⟩

theorem HoldOpen.isEmpty_iff (h : HoldOpen) : h.isEmpty = true ↔ h = ⟨false, false, false, false, false⟩ := by
  cases h
  simp [HoldOpen.isEmpty, and_assoc]

theorem State.permitGiven_iff (s : State) : s.permitGiven = true ↔ s.PermitConditions := by
  have fed : ∀ im, s.Fed im ↔ s.feeds im .a = true ∨ s.feeds im .b = true := by
    intro im
    simp only [State.feeds_iff, State.Fed]
    constructor
    · rintro ⟨p, set, up, disc, k, live, c⟩
      cases p
      · exact .inl ⟨up, disc, set, k, live, c⟩
      · exact .inr ⟨up, disc, set, k, live, c⟩
    · rintro (⟨up, disc, set, k, live, c⟩ | ⟨up, disc, set, k, live, c⟩)
      · exact ⟨.a, set, up, disc, k, live, c⟩
      · exact ⟨.b, set, up, disc, k, live, c⟩
  constructor
  · intro h
    cases i : s.cl.image with
    | none => simp [State.permitGiven, State.readyToClose, i] at h
    | some im =>
      simp only [State.permitGiven, State.readyToClose, i, Bool.and_eq_true, Bool.or_eq_true, decide_eq_true_eq,
        HoldOpen.isEmpty_iff] at h
      exact ⟨h.1.1, ⟨im, i, (fed im).mpr h.1.2⟩, h.2⟩
  · rintro ⟨hold, ⟨im, i, f⟩, phase⟩
    simp only [State.permitGiven, State.readyToClose, i, Bool.and_eq_true, Bool.or_eq_true, decide_eq_true_eq,
      HoldOpen.isEmpty_iff]
    exact ⟨⟨hold, (fed im).mp f⟩, phase⟩

theorem State.PermitLaw_iff (s : State) : s.PermitLaw ↔ s.bi.permit = s.permitGiven := by
  rw [State.PermitLaw, ← State.permitGiven_iff]
  exact Bool.eq_iff_iff.symm

theorem State.older_permitGiven (s : State) : s.older.permitGiven = s.permitGiven := rfl

theorem direct_openConfirm {c : Instr} (h : c ≠ .openConfirmTimerExpiry) {s : State} (runs : resets c = false) :
    (direct c s).bi.openConfirm = s.bi.openConfirm := by
  have d := direct_acts c s
  generalize direct c s = t at d ⊢
  induction d
  case release => cases runs
  case stuck => exact absurd rfl h
  all_goals simp

/-- Settles O20. -/
theorem permitOnlyUnderItsFiveConditions : Obligations.PermitOnlyUnderItsFiveConditions := by
  refine ⟨?_, ?_⟩
  · refine step_keeps (Law := State.PermitLaw) (fun s q h => ?_) (fun cause => ?_) (fun s _ h => ?_) fun c s _ _ => ?_
    all_goals rw [State.PermitLaw_iff] at *
    · exact h
    · cases cause <;> rfl
    · rw [State.older_permitGiven, ← h]; rfl
    · exact finish_permit _ _ _ _
  · intro c rest s t queue stepped released live
    rw [stepRunsTheFrontCommand c rest s queue] at stepped
    dsimp only
    have judged : ∀ u : State, (u.cl.image.isSome = true ∧ u.bi.permit = false ∧ u.bi.closed = true) ↔
        u.closedWithoutPermit = true := fun u => (u.closedWithoutPermit_iff).symm
    rw [judged, judged]
    cases exec_answer stepped with
    | idle => exact ⟨fun a b => absurd a b, fun _ _ _ => rfl⟩
    | reset => cases live
    | event runs =>
      have kind : resets c = false := by
        rcases runs with ⟨-, h⟩ | ⟨h, -⟩
        · exact h
        · cases released.symm.trans h
      have before : ({ s with pending := rest } : State).closedWithoutPermit = s.closedWithoutPermit := rfl
      refine ⟨fun now was => ?_, fun now was other => ?_⟩
      · rw [eventEnd] at now ⊢
        rw [finish_openConfirm, if_pos now, before, if_neg was]
      · rw [eventEnd] at now ⊢
        rw [finish_openConfirm, if_pos now, before, if_pos was]
        simpa [settled] using direct_openConfirm other kind

/-! ### The laws of R32 and R34 -/

theorem PC.Drift.raisedCollecting {c d : PC} (h : c.Drift d) (k : d.raisedCollecting = true) :
    c.raisedCollecting = true := by
  simp only [PC.raisedCollecting, Bool.and_eq_true] at k ⊢
  refine ⟨?_, h.disc k.2⟩
  cases state : c.state
  case down => rw [h.down state] at k; exact k.1
  case fault => rw [(h.fault state).1] at k; exact k.1
  all_goals rfl

/-- No pantograph comes to be raised in COLLECTING connection. -/
def NoneCollects (s t : State) : Prop := ∀ p, (t.pc p).raisedCollecting = true → (s.pc p).raisedCollecting = true

theorem Drifts.noneCollects {s t : State} (h : Drifts s t) : NoneCollects s t := fun p => (h p).raisedCollecting

theorem NoneCollects.trans {s t u : State} (h : NoneCollects s t) (k : NoneCollects t u) : NoneCollects s u :=
  fun p x => h p (k p x)

theorem NoneCollects.one {s t : State} (h : NoneCollects s t) (one : s.OneCollecting) : t.OneCollecting :=
  fun x => one ⟨h .a x.1, h .b x.2⟩

theorem noneCollects_restoreAll (s : State) (b : Bool) : NoneCollects s (s.restoreAll b) := by
  intro p h
  rcases s.pc_restoreAll b p with same | ⟨-, -, -, restored⟩
  · exact same ▸ h
  · rw [restored] at h
    cases h

theorem noneCollects_takeDemand (s : State) (im : Image) (h : RxHeader) (b : Vector Byte 10) :
    NoneCollects s (s.takeDemand im h b) := by
  unfold State.takeDemand
  dsimp only
  have entered : Drifts s (s.enterDemand h b) := .of_same (by simp) (by simp)
  split_ifs
  · have judged := (entered.trans (State.Reacts.judgeForced _).drifts).noneCollects
    exact (judged.trans (noneCollects_restoreAll _ _)).trans (drifts_handOn _ im _ _).noneCollects
  · exact entered.noneCollects

theorem direct_noneCollects {c : Instr} (h : c ≠ .holdOffExpiry) {s : State} :
    NoneCollects s (direct c s) := by
  cases steers : steersPantographs c
  case false => exact (direct_drifts steers s).noneCollects
  have d := direct_acts c s
  generalize direct c s = t at d ⊢
  induction d
  case holdOff => exact absurd rfl h
  case demand => exact noneCollects_takeDemand s _ _ _
  case release pins straps =>
    have away : ∀ p, ((s.release pins straps).pc p).raisedCollecting = false := by
      intro p
      have start : ∀ u : State, (u.pc p).disc = false → (u.releaseLoop.pc p).raisedCollecting = false := by
        intro u off
        have on : Drifts u u.releaseLoop := .ite (State.Reacts.eloopOpens u).drifts (.refl u)
        rw [Bool.eq_false_iff]
        intro x
        have := (on p).raisedCollecting x
        simp [PC.raisedCollecting, off] at this
      refine start _ ?_
      cases p <;> rfl
    intro p x
    rw [away] at x
    cases x
  case goodRecord r pins _ _ =>
    intro p x
    have start := (goodVerdict_drifts s r pins p).raisedCollecting x
    unfold goodPan at start
    split_ifs at start
    · exact start
    · cases start
  case lowerTimeout q _ =>
    intro p x
    by_cases e : p = q
    · subst e
      rw [State.lowerTimeout, State.enterFault_pc] at x
      simp [PC.raisedCollecting, PC.faultedBy, PanState.raised] at x
    · rwa [State.lowerTimeout, State.enterFault_pc_ne _ _ e] at x
  case ramp =>
    intro p x
    rcases s.rampBoth_pc p with same | ⟨im, -, ramped⟩
    · exact same ▸ x
    · rw [ramped] at x; exact x
  case error | badRecord | clash | none => exact Drifts.noneCollects (.of_same (by simp) (by simp))
  all_goals cases steers

theorem Pan.eq_other_of_ne {p q : Pan} (h : p ≠ q) : p = q.other := by
  cases p <;> cases q <;> first | rfl | exact absurd rfl h

theorem State.OneCollecting.of_pan {s : State} {p : Pan}
    (h : ¬((s.pc p).raisedCollecting = true ∧ (s.pc p.other).raisedCollecting = true)) : s.OneCollecting := by
  cases p
  · exact h
  · exact fun x => h x.symm

theorem holdOffEnd_oneCollecting {s : State} (im : Image) (h : s.OneCollecting) : (s.holdOffEnd im).OneCollecting := by
  by_cases raised : ∃ p, (s.holdOffEnd im).pc p ≠ s.pc p
  case neg =>
    have same : NoneCollects s (s.holdOffEnd im) := by
      intro p x
      rwa [not_not.mp (not_exists.mp raised p)] at x
    exact same.one h
  obtain ⟨p, changed⟩ := raised
  have done : ∀ q, ¬(s.holdOffEnd im).pc q = s.pc q → q = p ∨ q = p.other := by
    intro q _
    by_cases e : q = p
    · exact .inl e
    · exact .inr (Pan.eq_other_of_ne e)
  rcases s.holdOffEnd_pc im p with same | ⟨x, head, -, pan, -, taken, now⟩
  · exact absurd same changed
  have beside : (s.holdOffEnd im).pc p.other = s.pc p.other := by
    rcases s.holdOffEnd_pc im p.other with same | ⟨y, head', -, pan', -⟩
    · exact same
    · rw [head] at head'
      cases head'
      rw [pan] at pan'
      cases p <;> cases pan'
  refine .of_pan (p := p) fun both => ?_
  rw [now, beside] at both
  cases k : (x.kind == .raise)
  · simp [k, PC.raisedCollecting, PC.raisedIn] at both
  · simp only [State.grantTaken, k, if_true, Bool.and_eq_true, Bool.not_eq_true'] at taken
    have bars := taken.2.2
    have : (s.pc p.other).disc = true ∧ (s.pc p.other).state.raised = true := by
      simpa [PC.raisedCollecting, and_comm] using both.2
    simp [PC.barsCollecting, this] at bars

theorem State.older_pc (s : State) (p : Pan) : s.older.pc p = (s.pc p).older := by cases p <;> rfl

theorem State.watchIsolated_keeps (s : State) (p q : Pan) (h : (s.pc q).upCollecting = true) :
    ((s.watchIsolated p).pc q).upCollecting = true := by
  by_cases e : q = p
  · subst e
    rw [State.watchIsolated_pc]
    split_ifs with w
    · simp only [State.watched, PC.upCollecting, Bool.and_eq_true, Bool.not_eq_true', decide_eq_true_eq] at w h
      simp [w.1.2] at h
    · exact h
  · rwa [State.watchIsolated_pc_ne s e]

/-- After the watch on a pantograph an isolated one that is raised stands beside a collecting one in NORMAL (R34). -/
theorem State.watchIsolated_law (s : State) (p : Pan) (acts : s.acts p = true)
    (up : ((s.watchIsolated p).pc p).risingOrUp = true) (isolated : ((s.watchIsolated p).pc p).disc = false) :
    (s.pc p.other).upCollecting = true ∧ s.cc.phase = .normal := by
  rw [State.watchIsolated_pc] at up isolated
  split_ifs at up isolated with w
  · simp at up
  · simpa [State.watched, acts, up, isolated] using w

theorem State.guard_pc (s : State) (p : Pan) :
    s.guard.pc p =
      { ((s.watchIsolated .a).watchIsolated .b).pc p with target := (s.guard.pc p).target } := by
  unfold State.guard State.ifGood
  split <;> cases p <;> simp [State.formTargets]

theorem State.guard_isolatedLaw (s : State) : s.guard.IsolatedLaw := by
  intro p acts up isolated
  have same : ∀ q, (s.guard.pc q).upCollecting = (((s.watchIsolated .a).watchIsolated .b).pc q).upCollecting := by
    intro q
    rw [s.guard_pc q]
    rfl
  rw [s.guard_pc p] at up isolated
  rw [same, (s.guard_frame).2.2.2.2.1]
  have acts' : s.acts p = true := by simpa [State.acts] using acts
  cases p
  case a =>
    have at' : ((s.watchIsolated .a).watchIsolated .b).pc .a = (s.watchIsolated .a).pc .a :=
      State.watchIsolated_pc_ne _ (by decide)
    rw [at'] at up isolated
    obtain ⟨beside, phase⟩ := s.watchIsolated_law .a acts' up isolated
    exact ⟨State.watchIsolated_keeps _ .b .b (State.watchIsolated_keeps _ .a .b beside), phase⟩
  case b =>
    obtain ⟨beside, phase⟩ := (s.watchIsolated .a).watchIsolated_law .b (by simpa [State.acts] using acts') up isolated
    exact ⟨State.watchIsolated_keeps _ .b .a beside, by simpa using phase⟩

theorem State.IsolatedLaw.congr {s t : State} (h : s.IsolatedLaw) (cl : t.cl = s.cl) (cc : t.cc.phase = s.cc.phase)
    (pc : ∀ p, (t.pc p).state = (s.pc p).state ∧ (t.pc p).disc = (s.pc p).disc) : t.IsolatedLaw := by
  intro p acts up isolated
  have := h p (State.acts_congr cl p ▸ acts) (by simpa [PC.risingOrUp, (pc p).1] using up) ((pc p).2 ▸ isolated)
  simpa [PC.upCollecting, (pc p.other).1, (pc p.other).2, cc] using this

/-- Settles O26: a grant is taken only beside no collecting pantograph, and nothing else raises one (R32); the watch at
the end of each event keeps the law of R34. -/
theorem raisedPantographsStandByTheirLaws : Obligations.RaisedPantographsStandByTheirLaws := by
  constructor
  · refine step_keeps (Law := State.OneCollecting) (fun s q h => h) (fun cause => ?_) (fun s _ h => h) fun c s h runs => ?_
    · simp [State.OneCollecting, State.held, PC.reset, PC.raisedCollecting]
    · refine (drifts_eventEnd c s).noneCollects.one ?_
      by_cases e : c = .holdOffExpiry
      · subst e
        have d := direct_acts .holdOffExpiry s
        generalize direct .holdOffExpiry s = t at d ⊢
        cases d
        case none => exact h
        case holdOff im _ _ => exact holdOffEnd_oneCollecting im h
        all_goals exact (Drifts.of_same (by simp) (by simp)).noneCollects.one h
      · exact (direct_noneCollects e).one h
  · refine step_keeps (Law := State.IsolatedLaw) (fun s q h => h) (fun cause => ?_) (fun s _ h => ?_) fun c s _ _ => ?_
    · intro p _ up
      cases p <;> simp [State.held, PC.reset, PC.risingOrUp] at up
    · refine fun p acts up isolated => ?_
      rw [State.older_pc] at up isolated ⊢
      exact h p (by simpa [State.acts, State.older] using acts) up isolated
    · exact (settled c s).guard_isolatedLaw.congr (by simp [eventEnd]) (by simp [eventEnd])
        (fun p => by simp [eventEnd])

end Sys2Proof.Machine
end

section
/-! PROOFS. The Peer View: its table, the demand in force, and what each frame leaves in it (chapter 3). -/

namespace Sys2Proof.Machine

/-! ### The entry of an address -/

theorem findEntry_addr {l : List Entry} {a : Addr} {e : Entry} (h : findEntry l a = some e) : e.addr = a := by
  simpa using List.find?_some h

theorem findEntry_mem {l : List Entry} {a : Addr} {e : Entry} (h : findEntry l a = some e) : e ∈ l :=
  List.mem_of_find?_eq_some h

theorem findEntry_cons (x : Entry) (l : List Entry) (a : Addr) :
    findEntry (x :: l) a = if x.addr = a then some x else findEntry l a := by
  unfold findEntry
  rw [List.find?_cons]
  by_cases h : x.addr = a
  · simp [h]
  · rw [beq_eq_false_iff_ne.mpr h, if_neg h]

theorem findEntry_putEntry_self (e : Entry) (l : List Entry) : findEntry (putEntry e l) e.addr = some e := by
  induction l with
  | nil => simp [putEntry, findEntry_cons]
  | cons x l ih =>
    unfold putEntry
    split_ifs with below same
    · simp [findEntry_cons]
    · simp [findEntry_cons]
    · rw [findEntry_cons, if_neg (Ne.symm same), ih]

theorem findEntry_putEntry_ne (e : Entry) (l : List Entry) {a : Addr} (h : a ≠ e.addr) :
    findEntry (putEntry e l) a = findEntry l a := by
  induction l with
  | nil => simp [putEntry, findEntry_cons, Ne.symm h]
  | cons x l ih =>
    unfold putEntry
    split_ifs with below same
    · rw [findEntry_cons, if_neg (Ne.symm h)]
    · rw [findEntry_cons, findEntry_cons, if_neg (Ne.symm h), if_neg (same ▸ Ne.symm h)]
    · rw [findEntry_cons, findEntry_cons, ih]

theorem findEntry_dropEntry_self (l : List Entry) (a : Addr) : findEntry (dropEntry l a) a = none := by
  simp [findEntry, dropEntry]

theorem findEntry_dropEntry_ne (l : List Entry) {a b : Addr} (h : b ≠ a) :
    findEntry (dropEntry l a) b = findEntry l b := by
  unfold dropEntry
  induction l with
  | nil => rfl
  | cons x l ih =>
    by_cases k : x.addr = a
    · have : x.addr ≠ b := fun c => h (c.symm.trans k)
      simpa [List.filter_cons, k, findEntry_cons, k ▸ this] using ih
    · simp [k, findEntry_cons, ih]

theorem mem_putEntry {e x : Entry} {l : List Entry} (h : x ∈ putEntry e l) : x = e ∨ x ∈ l := by
  induction l with
  | nil => simpa [putEntry] using h
  | cons y l ih =>
    unfold putEntry at h
    split_ifs at h
    · simpa using h
    · simp only [List.mem_cons] at h ⊢
      exact h.imp id .inr
    · simp only [List.mem_cons] at h ⊢
      rcases h with h | h
      · exact .inr (.inl h)
      · exact (ih h).imp id .inr

theorem putEntry_rising {e : Entry} {l : List Entry} (h : (tableAddrs l).Pairwise (· < ·)) :
    (tableAddrs (putEntry e l)).Pairwise (· < ·) := by
  induction l with
  | nil => simp [putEntry, tableAddrs]
  | cons x l ih =>
    simp only [tableAddrs, List.map_cons, List.pairwise_cons] at h
    unfold putEntry
    split_ifs with below same
    · simp only [tableAddrs, List.map_cons, List.pairwise_cons, List.mem_cons]
      refine ⟨?_, h⟩
      rintro a (rfl | k)
      · exact below
      · exact below.trans (h.1 a k)
    · simp only [tableAddrs, List.map_cons, List.pairwise_cons]
      rwa [same]
    · simp only [tableAddrs, List.map_cons, List.pairwise_cons]
      refine ⟨fun a k => ?_, ih h.2⟩
      obtain ⟨y, mem, rfl⟩ := List.mem_map.mp k
      rcases mem_putEntry mem with rfl | mem
      · have : y.addr.toNat ≠ x.addr.toNat := fun c => same (BitVec.eq_of_toNat_eq c)
        omega
      · exact h.1 _ (List.mem_map_of_mem mem)

theorem dropEntry_rising {l : List Entry} (a : Addr) (h : (tableAddrs l).Pairwise (· < ·)) :
    (tableAddrs (dropEntry l a)).Pairwise (· < ·) :=
  List.Pairwise.sublist (List.filter_sublist.map _) h

@[simp] theorem Entry.refresh_frame (e : Entry) (h : RxHeader) :
    (e.refresh h).addr = e.addr ∧ (e.refresh h).lastSeq = h.seq.toNat ∧ (e.refresh h).age = 0 ∧
      (e.refresh h).state = .valid ∧ (e.refresh h).body = e.body := ⟨rfl, rfl, rfl, rfl, rfl⟩

@[simp] theorem newEntry_frame (h : RxHeader) :
    (newEntry h).addr = h.src ∧ (newEntry h).lastSeq = h.seq.toNat ∧ (newEntry h).age = 0 ∧
      (newEntry h).state = .learning ∧ (newEntry h).body = freshBody h.kind := ⟨rfl, rfl, rfl, rfl, rfl⟩

theorem freshBody_kind (k : NodeKind) : (freshBody k).kind = k := by cases k <;> rfl

@[simp] theorem entryFor_frame (l : List Entry) (h : RxHeader) :
    (entryFor l h).addr = h.src ∧ (entryFor l h).lastSeq = h.seq.toNat ∧ (entryFor l h).age = 0 ∧
      (entryFor l h).body.kind = h.kind := by
  unfold entryFor
  split
  · split_ifs with k
    · simp [findEntry_addr ‹_›, k]
    · simp [freshBody_kind]
  · simp [freshBody_kind]

@[simp] theorem Entry.mapRoof_frame (e : Entry) (f : RoofData → RoofData) :
    (e.mapRoof f).addr = e.addr ∧ (e.mapRoof f).lastSeq = e.lastSeq ∧ (e.mapRoof f).age = e.age ∧
      (e.mapRoof f).state = e.state ∧ (e.mapRoof f).lostAge = e.lostAge := by
  unfold Entry.mapRoof
  split <;> exact ⟨rfl, rfl, rfl, rfl, rfl⟩

@[simp] theorem demandEntry_addr (l : List Entry) (h : RxHeader) (b : Vector Byte 10) :
    (demandEntry l h b).addr = h.src := by
  simp [demandEntry]

/-! ### The demand in force -/

/-- Forming the demand in force changes nothing else of the Peer View. -/
theorem PV.form_eq (v : PV) :
    v.form = { v with force := v.form.force, governing := v.form.governing, heldIce := v.form.heldIce } := by
  unfold PV.form
  split <;> rfl

@[simp] theorem PV.form_table (v : PV) : v.form.table = v.table := by rw [v.form_eq]

/-- A Peer View whose demand in force is the one that its active entries form. -/
def PV.Formed (v : PV) : Prop := v.form = v

theorem PV.form_formed (v : PV) : v.form.Formed := by
  unfold PV.Formed
  match k : activeEntries v.table with
  | [] => simp [PV.form, k]
  | [(a, d)] => simp [PV.form, k]
  | x :: y :: l => simp [PV.form, k, PV.held, mergedDemand]

/-- Whether the demand in force is formed depends on the active entries and on the demand itself alone. -/
theorem PV.Formed.congr {v w : PV} (h : v.Formed) (active : activeEntries w.table = activeEntries v.table)
    (force : w.force = v.force) (governing : w.governing = v.governing) (held : w.heldIce = v.heldIce) : w.Formed := by
  unfold PV.Formed at *
  have parts : v.form.force = v.force ∧ v.form.governing = v.governing ∧ v.form.heldIce = v.heldIce := by
    rw [h]; exact ⟨rfl, rfl, rfl⟩
  have same : w.form.force = v.form.force ∧ w.form.governing = v.form.governing ∧ w.form.heldIce = v.form.heldIce := by
    unfold PV.form
    rw [active]
    split <;> simp [PV.held, force, held]
  rw [w.form_eq, same.1, same.2.1, same.2.2, parts.1, parts.2.1, parts.2.2, ← force, ← governing, ← held]

@[simp] theorem State.formDemand_pv (s : State) : s.formDemand.pv = s.pv.form := by
  unfold State.formDemand
  dsimp only
  split_ifs <;> rfl

@[simp] theorem State.tableChanged_pv (s : State) (im : Image) (l : List Entry) :
    (s.tableChanged im l).pv = ({ s.pv with table := l } : PV).form := by
  unfold State.tableChanged
  dsimp only
  split_ifs <;> simp

theorem State.takeRoof_pv (s : State) (im : Image) (h : RxHeader) (f : RoofData → RoofData) :
    (s.takeRoof im h f).pv = ({ s.pv with table := putEntry ((entryFor s.pv.table h).mapRoof f) s.pv.table } : PV).form := by
  unfold State.takeRoof
  dsimp only
  split_ifs <;> simp

theorem State.enterDemand_pv (s : State) (h : RxHeader) (b : Vector Byte 10) :
    (s.enterDemand h b).pv =
      (let v := ({ s.pv with table := putEntry (demandEntry s.pv.table h b) s.pv.table } : PV).form
      if (demandEntry s.pv.table h b).active.isSome then v.hear else v) := by
  unfold State.enterDemand
  dsimp only
  split_ifs <;> simp

theorem State.takeDemand_pv (s : State) (im : Image) (h : RxHeader) (b : Vector Byte 10) :
    (s.takeDemand im h b).pv = (s.enterDemand h b).pv := by
  unfold State.takeDemand
  dsimp only
  split_ifs <;> simp

end Sys2Proof.Machine
end

section
/-! PROOFS. The laws of the peer table and of the demand in force through every step (R54, R65). -/

namespace Sys2Proof.Machine

/-! ### The Peer View through an event -/

/-- The reactions and the end of an event leave the Peer View, but for the missed-sequence counter at a clear toggle. -/
theorem eventEnd_pv (c : Instr) (s : State) :
    (eventEnd c s).pv = { (direct c s).pv with missedSeq := (eventEnd c s).pv.missedSeq } := by
  have : (eventEnd c s).pv = ((settle rounds s (direct c s)).reportAndClear (acting c s)).pv := by
    simp [eventEnd, settled]
  rw [this]
  unfold State.reportAndClear
  dsimp only
  split_ifs <;> simp [State.clearToggle, State.placeRecord]

/-- A Peer View with its table and its demand in force as they are, whatever its timers and counters. -/
theorem PV.Formed.beside {v w : PV} (h : v.Formed) (table : w.table = v.table) (force : w.force = v.force)
    (governing : w.governing = v.governing) (held : w.heldIce = v.heldIce) : w.Formed :=
  h.congr (by rw [table]) force governing held

theorem Entry.older_active (e : Entry) : e.older.active = e.active := by
  obtain ⟨addr, state, seq, age, lost, body⟩ := e
  cases state <;> cases body <;> rfl

theorem Entry.older_addr (e : Entry) : e.older.addr = e.addr := by
  unfold Entry.older Entry.mapRoof
  cases e.body <;> rfl

theorem activeEntries_older (l : List Entry) : activeEntries (l.map Entry.older) = activeEntries l := by
  unfold activeEntries
  rw [List.filterMap_map]
  congr 1
  funext e
  simp [Entry.older_active, Entry.older_addr]

theorem State.goodVerdict_pv (s : State) (r : Vector Byte 128) (pins : Levels) :
    (s.goodVerdict r pins).pv = { s.pv with learningT := .started } := by
  simp [State.goodVerdict_eq]

theorem State.takeStatus_pv (s : State) (im : Image) (h : RxHeader) (b : Vector Byte 28) :
    (s.takeStatus im h b).pv =
      { ({ s.pv with table := putEntry ((entryFor s.pv.table h).mapRoof fun r =>
          r.takeStatus (statusContent im.trainLength b)) s.pv.table } : PV).form with
        missedSeq := min 65535 (s.pv.missedSeq +
          missed (findEntry s.pv.table h.src) h (statusContent im.trainLength b).learning) } := by
  have roof := State.takeRoof_pv s im h fun r => r.takeStatus (statusContent im.trainLength b)
  unfold State.takeStatus
  dsimp only
  rw [roof]
  congr 3
  rw [PV.form_eq]

theorem State.hear_formed {v : PV} (h : v.Formed) : v.hear.Formed := by
  unfold PV.hear
  split_ifs
  · exact h
  · exact h.beside rfl rfl rfl rfl

theorem direct_formed {c : Instr} {s : State} (h : s.pv.Formed) : (direct c s).pv.Formed := by
  have d := direct_acts c s
  generalize direct c s = t at d ⊢
  have changed : ∀ (im : Image) (l : List Entry), (s.tableChanged im l).pv.Formed := fun im l =>
    (s.tableChanged_pv im l).symm ▸ PV.form_formed _
  induction d
  case goodRecord =>
    rw [State.goodVerdict_pv]
    exact h.beside rfl rfl rfl rfl
  case demand x b _ _ _ _ =>
    rw [State.takeDemand_pv, State.enterDemand_pv]
    dsimp only
    split_ifs
    · exact State.hear_formed (PV.form_formed _)
    · exact PV.form_formed _
  case status x b im _ _ _ =>
    rw [State.takeStatus_pv]
    exact (PV.form_formed _).beside rfl rfl rfl rfl
  case claim | withdraw | record =>
    first | unfold State.takeClaim | unfold State.takeWithdraw | unfold State.takeRecordFrame
    rw [State.takeRoof_pv]
    exact PV.form_formed _
  case removeLearning | removeLost =>
    first | unfold State.removeLearning | unfold State.removeLost
    split_ifs
    · exact changed _ _
    · exact h
  case lose | ageOut =>
    first | unfold State.loseEntry | unfold State.ageOutClaim
    split
    · split_ifs
      · exact changed _ _
      · exact h
    · exact h
  case silence =>
    unfold State.silenceEnds
    split
    · exact h.beside rfl rfl rfl rfl
    · exact h
  case endLearning => exact h.beside rfl rfl rfl rfl
  case none => exact h
  all_goals
    have same : ∀ v : PV, v = s.pv → v.Formed := fun v e => e ▸ h
    exact same _ (by simp)

/-! ### The table -/

/-- A table in rising order of addresses, without a given one. -/
def Ordered (own : Addr) (l : List Entry) : Prop :=
  (tableAddrs l).Pairwise (· < ·) ∧ ∀ e ∈ l, e.addr ≠ own

theorem Ordered.put {own : Addr} {l : List Entry} (h : Ordered own l) {e : Entry} (k : e.addr ≠ own) :
    Ordered own (putEntry e l) := by
  refine ⟨putEntry_rising h.1, fun x mem => ?_⟩
  rcases mem_putEntry mem with rfl | mem
  · exact k
  · exact h.2 x mem

theorem Ordered.drop {own : Addr} {l : List Entry} (h : Ordered own l) (a : Addr) : Ordered own (dropEntry l a) :=
  ⟨dropEntry_rising a h.1, fun x mem => h.2 x (List.mem_of_mem_filter mem)⟩

theorem direct_ordered {c : Instr} {s : State} (h : Ordered s.cl.address s.pv.table) :
    Ordered s.cl.address (direct c s).pv.table := by
  have d := direct_acts c s
  generalize direct c s = t at d ⊢
  have found : ∀ {a : Addr} {e : Entry}, findEntry s.pv.table a = some e → e.addr ≠ s.cl.address := fun k =>
    h.2 _ (findEntry_mem k)
  induction d
  case demand x b _ _ _ _ =>
    rw [State.takeDemand_pv, State.enterDemand_pv]
    dsimp only
    have put : Ordered s.cl.address (putEntry (demandEntry s.pv.table x b) s.pv.table) := h.put (by simpa using ‹_›)
    split_ifs
    · unfold PV.hear
      split_ifs <;> simpa using put
    · simpa using put
  case status x b im _ _ _ =>
    rw [State.takeStatus_pv]
    simpa using h.put (by simpa using ‹_›)
  case claim | withdraw | record =>
    first | unfold State.takeClaim | unfold State.takeWithdraw | unfold State.takeRecordFrame
    rw [State.takeRoof_pv, PV.form_table]
    exact h.put (by simpa using ‹_›)
  case removeLearning | removeLost =>
    first | unfold State.removeLearning | unfold State.removeLost
    split_ifs
    · rw [State.tableChanged_pv, PV.form_table]
      exact h.drop _
    · exact h
  case lose | ageOut =>
    first | unfold State.loseEntry | unfold State.ageOutClaim
    split
    · split_ifs
      · rw [State.tableChanged_pv, PV.form_table]
        exact h.put (by simpa using found ‹_›)
      · exact h
    · exact h
  case silence =>
    unfold State.silenceEnds
    split <;> exact h
  case endLearning => exact h
  case goodRecord => simpa [State.goodVerdict_pv] using h
  all_goals simpa using h

theorem State.verdict_cl (s : State) : s.verdict.cl = { s.cl with verdictGiven := true } := by
  unfold State.verdict
  split_ifs with h
  · rw [← h]
  · rfl

theorem State.badVerdict_cl (s : State) :
    s.badVerdict.cl = { s.cl with read := none, retryT := .started, verdictGiven := true } := by
  simp [State.badVerdict, State.verdict_cl]

theorem State.goodVerdict_cl (s : State) (r : Vector Byte 128) (pins : Levels) :
    (s.goodVerdict r pins).cl = { s.cl with
      image := some (clampImage (rawImage r)), clamped := clampImage (rawImage r) ≠ rawImage r, read := none,
      retryT := none, verdictGiven := true } := by
  simp [State.goodVerdict_eq, State.verdict_cl, State.goodStart]

theorem direct_address {c : Instr} (h : resets c = false) (s : State) : (direct c s).cl.address = s.cl.address := by
  have d := direct_acts c s
  generalize direct c s = t at d ⊢
  induction d
  case release => cases h
  case goodRecord r pins _ _ => rw [State.goodVerdict_cl]
  case badRecord | readTimeout => rw [State.badVerdict_cl]
  all_goals simp

/-- Settles O37. -/
theorem peerTableAndDemandInForceStand : Obligations.PeerTableAndDemandInForceStand := by
  constructor
  · refine step_keeps (Law := State.TableLaw) (fun s q h => ⟨h.rising, h.notOwn, h.held⟩) (fun cause => ?_)
      (fun s live h => ?_) fun c s h runs => ?_
    · exact ⟨by simp [State.held, PV.reset, tableAddrs], by simp [State.held, PV.reset], fun _ => rfl⟩
    · have addrs : tableAddrs s.older.pv.table = tableAddrs s.pv.table := by
        simp [State.older, tableAddrs, Entry.older_addr]
      refine ⟨addrs ▸ h.rising, fun e mem => ?_, fun k => ?_⟩
      · obtain ⟨x, was, rfl⟩ := List.mem_map.mp mem
        rw [Entry.older_addr]
        exact h.notOwn x was
      · exact absurd (live.symm.trans k) (by simp)
    · have table : (eventEnd c s).pv.table = (direct c s).pv.table := by rw [eventEnd_pv]
      have ordered : Ordered (eventEnd c s).cl.address (eventEnd c s).pv.table := by
        rw [table, (moves_eventEnd c s).cl]
        rcases runs with ⟨-, kind⟩ | ⟨out, pins, straps, rfl⟩
        · rw [direct_address kind]
          exact direct_ordered ⟨h.rising, h.notOwn⟩
        · have : (direct (.resetRelease pins straps) s).pv.table = [] := by simpa [direct] using h.held out
          rw [this]
          exact ⟨by simp [tableAddrs], by simp⟩
      exact ⟨ordered.1, ordered.2, fun k => absurd ((eventEnd_released runs).symm.trans k) (by simp)⟩
  · refine step_keeps (Law := State.DemandLaw) (fun s q h => h) (fun cause => ?_) (fun s _ h => ?_) fun c s h _ => ?_
    · cases cause <;> rfl
    · exact PV.Formed.congr (v := s.pv) h (activeEntries_older _) rfl rfl rfl
    · refine PV.Formed.beside (v := (direct c s).pv) (direct_formed h) ?_ ?_ ?_ ?_
      all_goals rw [eventEnd_pv c s]

end Sys2Proof.Machine
end

section
/-! PROOFS. What each frame of a peer leaves in its entry, and the times of the Peer View (sections 3.2 to 3.7). -/

namespace Sys2Proof.Machine

/-! ### What the reactions of an event leave -/

theorem State.Reacts.kept_pv {s t : State} (h : s.Reacts t) : t.pv = s.pv := congrArg Kept.pv h.kept

theorem State.Reacts.kept_ioc {s t : State} (h : s.Reacts t) : t.ioc = s.ioc := congrArg Kept.ioc h.kept

theorem State.Reacts.kept_cl {s t : State} (h : s.Reacts t) : t.cl = s.cl := congrArg Kept.cl h.kept

theorem State.Reacts.kept_closed {s t : State} (h : s.Reacts t) : t.bi.closed = s.bi.closed :=
  congrArg Kept.closed h.kept

theorem State.Reacts.kept_stuck {s t : State} (h : s.Reacts t) : t.bi.stuck = s.bi.stuck := congrArg Kept.stuck h.kept

theorem State.Reacts.kept_arcCount {s t : State} (h : s.Reacts t) : t.icu.arcCount = s.icu.arcCount :=
  congrArg Kept.arcCount h.kept

theorem State.Reacts.kept_arcFields {s t : State} (h : s.Reacts t) : t.icu.arcFields = s.icu.arcFields :=
  congrArg Kept.arcFields h.kept

/-- The part of the Link Access Unit that no reaction changes. -/
theorem State.Reacts.kept_lau {s t : State} (h : s.Reacts t) :
    t.lau.rcSlot = s.lau.rcSlot ∧ t.lau.onLine = s.lau.onLine ∧ t.lau.seq = s.lau.seq ∧
      t.lau.rxErrors = s.lau.rxErrors ∧ t.lau.collisions = s.lau.collisions ∧ t.lau.txDrops = s.lau.txDrops ∧
      t.lau.periodErrors = s.lau.periodErrors ∧ t.lau.periodDrop = s.lau.periodDrop ∧
      t.lau.periodClock = s.lau.periodClock ∧ t.lau.degraded = s.lau.degraded ∧ t.lau.gapT = s.lau.gapT ∧
      t.lau.faultMode = s.lau.faultMode := by
  have lau := congrArg Kept.lau h.kept
  simp only [State.kept, LAU.mk.injEq] at lau
  obtain ⟨-, -, -, a, b, c, d, e, f, g, i, j, k, -, l, -, m⟩ := lau
  exact ⟨a, b, c, d, e, f, g, i, j, k, l, m⟩

/-! ### Frames that are turned away -/

theorem State.countError_reacts (s : State) : State.Reacts { s with lau := s.lau.withError } s.countError := by
  have sat : ∀ n, satInc 65535 n = min 65535 (n + 1) := fun n => by unfold satInc; split_ifs <;> omega
  have sat16 : ∀ n, satInc 16 n = min 16 (n + 1) := fun n => by unfold satInc; split_ifs <;> omega
  have limit : Config.errorLimit = 16 := rfl
  unfold State.countError
  simp only [limit, sat, sat16]
  split_ifs with h
  · have : s.lau.periodErrors = 15 := by omega
    unfold State.degrade
    refine State.Reacts.trans ?_ (State.Reacts.request _ .linkDegraded)
    exact .beside (by simp [State.kept, LAU.withError, this]) rfl rfl rfl rfl
  · have : s.lau.periodErrors ≠ 15 := by omega
    exact .beside (by simp [State.kept, LAU.withError, this]) rfl rfl rfl rfl

theorem State.countError_sixteenth {s : State} (h : s.lau.periodErrors = 15) :
    s.countError.al.requested .linkDegraded = true ∧ s.countError.lau.degraded = true := by
  have : s.lau.periodErrors < Config.errorLimit ∧ satInc Config.errorLimit s.lau.periodErrors = Config.errorLimit := by
    rw [h]; decide
  unfold State.countError
  dsimp only
  rw [if_pos this]
  exact ⟨State.request_self _ _, rfl⟩

/-- The frames of the five types, by the kind of node that sends them. -/
theorem direct_frame {c : Instr} {h : RxHeader} {kind : NodeKind}
    (k : (∃ b, c = .demandReceived h b ∧ kind = .control) ∨ (∃ b, c = .statusReceived h b ∧ kind = .roof) ∨
      (∃ b, c = .claimReceived h b ∧ kind = .roof) ∨ (∃ n, c = .withdrawReceived h n ∧ kind = .roof) ∨
      (∃ l : List Byte, l.length ≤ 28 ∧ c = .recordReceived h l ∧ kind = .roof)) :
    resets c = false ∧ ∃ ty l f, ∀ s, direct c s = s.receive ty kind h l f := by
  rcases k with ⟨b, rfl, rfl⟩ | ⟨b, rfl, rfl⟩ | ⟨b, rfl, rfl⟩ | ⟨n, rfl, rfl⟩ | ⟨l, short, rfl, rfl⟩
  · exact ⟨rfl, _, _, _, fun s => rfl⟩
  · exact ⟨rfl, _, _, _, fun s => rfl⟩
  · exact ⟨rfl, _, _, _, fun s => rfl⟩
  · exact ⟨rfl, _, _, _, fun s => rfl⟩
  · exact ⟨rfl, _, _, _, fun s => if_pos short⟩

theorem takes_of_frame {s : State} {h : RxHeader} {b : Vector Byte 10} {r : Bool}
    (k : s.takes .control h = false) : settled (.demandReceived h b) s =
      (settle rounds s (direct (.demandReceived h b) s)).reportAndClear ⟨r, false, false⟩ := by
  simp [settled, acting, State.demandToggles, k]

/-- An event that takes no DEMAND leads from its direct effect on by reactions. -/
theorem reacts_of_not_taken {c : Instr} {s : State}
    (h : ∀ x b, c = .demandReceived x b → s.takes .control x = false) : (direct c s).Reacts (eventEnd c s) := by
  by_cases e : ∃ x b, c = .demandReceived x b
  · obtain ⟨x, b, rfl⟩ := e
    rw [eventEnd, takes_of_frame (r := false) (h x b rfl), State.reportAndClear_none]
    exact (State.Reacts.settle rounds s _).trans (.finish s _ _ _)
  · exact reacts_eventEnd (fun x b k => e ⟨x, b, k⟩) s

theorem LAU.echo_of_idle {l : LAU} (h : l.onLine = none) (ty : Byte) (x : RxHeader) (p : List Byte) :
    l.echo ty x p = false := by
  simp [LAU.echo, h]

/-- Settles O34. -/
theorem framesAreTurnedAway : Obligations.FramesAreTurnedAway := by
  constructor
  · intro s h c kind released frame
    obtain ⟨event, ty, l, f, effect⟩ := direct_frame frame
    have control : ∀ x b, c = .demandReceived x b → x = h ∧ kind = .control := by
      rintro x b rfl
      rcases frame with ⟨_, e, k⟩ | ⟨_, e, _⟩ | ⟨_, e, _⟩ | ⟨_, e, _⟩ | ⟨_, _, e, _⟩ <;> cases e
      exact ⟨rfl, k⟩
    have untaken : (h.src = s.cl.address ∨ h.kind ≠ kind ∨ s.cl.image = none) →
        (s.receive ty kind h l f).Reacts (eventEnd c s) := by
      intro why
      rw [← effect]
      refine reacts_of_not_taken fun x b e => ?_
      obtain ⟨rfl, rfl⟩ := control x b e
      rcases why with k | k | k <;> simp [State.takes, State.good, k]
    refine ⟨fun own idle => ?_, fun other wrong => ?_, fun other right start => ?_⟩
    · have on := untaken (.inl own)
      rw [State.receive, if_pos own, LAU.echo_of_idle idle, if_neg (by simp)] at on
      exact ⟨_, exec_eq_event released event, (State.Reacts.request s .addressClash).trans on,
        on.flags .addressClash (State.request_self _ _)⟩
    · have on := untaken (.inr (.inl wrong))
      rw [State.receive, if_neg other, if_pos wrong] at on
      exact ⟨_, exec_eq_event released event, s.countError_reacts.trans on⟩
    · have on := untaken (.inr (.inr start))
      rw [State.receive, if_neg other, if_neg (not_not.mpr right), State.ifGood_of_none start] at on
      exact ⟨_, exec_eq_event released event, on⟩
  · intro s f released
    have on : s.countError.Reacts (eventEnd (.receiveError f) s) :=
      reacts_eventEnd (c := .receiveError f) (by simp) s
    refine ⟨_, exec_eq_event released rfl, s.countError_reacts.trans on, fun last => ?_⟩
    obtain ⟨request, degraded⟩ := State.countError_sixteenth last
    exact ⟨on.flags _ request, on.kept_lau.2.2.2.2.2.2.2.2.2.1.trans degraded⟩

/-! ### STATUS, CLAIM, WITHDRAW and RECORD -/

/-- A roof frame that is taken: its direct effect. -/
theorem State.receive_of_takes {s : State} {im : Image} {ty : Byte} {want : NodeKind} {h : RxHeader} {l : List Byte}
    {f : Image → State → State} (i : s.cl.image = some im) (o : h.src ≠ s.cl.address) (k : h.kind = want) :
    s.receive ty want h l f = f im s := by
  rw [State.receive, if_neg o, if_neg (not_not.mpr k), State.ifGood_of_some i]

theorem kindChanges_iff (l : List Entry) (h : RxHeader) :
    kindChanges l h = true ↔ ∃ x, findEntry l h.src = some x ∧ x.body.kind ≠ h.kind := by
  simp [kindChanges, Option.any_eq_true]

theorem State.takeRoof_clash {s : State} {im : Image} {h : RxHeader} {f : RoofData → RoofData}
    (k : kindChanges s.pv.table h = true) : (s.takeRoof im h f).al.requested .addressClash = true := by
  rw [State.takeRoof, if_pos k]
  exact State.request_self _ _

/-- The roof data of the entry that a roof frame is taken into: those of the roof entry before, else fresh ones. -/
theorem entryFor_roof {l : List Entry} {h : RxHeader} (k : h.kind = .roof) :
    (∀ x q, findEntry l h.src = some x → x.body = .roof q →
      (entryFor l h).state = .valid ∧ (entryFor l h).body = .roof q) ∧
    ((∀ x q, findEntry l h.src = some x → x.body ≠ .roof q) →
      (entryFor l h).state = .learning ∧ (entryFor l h).body = .roof .fresh) := by
  constructor
  · intro x q found body
    have same : (EntryBody.roof q).kind = h.kind := k.symm
    simp [entryFor, found, same, body]
  · intro none
    have fresh : entryFor l h = newEntry h := by
      unfold entryFor
      split
      · rename_i e found
        rw [if_neg]
        intro same
        cases body : e.body with
        | roof q => exact none e q found body
        | control c => rw [body, k] at same; cases same
      · rfl
    rw [fresh]
    exact ⟨rfl, by simp [freshBody, k]⟩

theorem Entry.mapRoof_body {e : Entry} {q : RoofData} (h : e.body = .roof q) (f : RoofData → RoofData) :
    (e.mapRoof f).body = .roof (f q) := by
  simp [Entry.mapRoof, h]

/-- The roof data of the entry that a roof frame is taken into, as they were before. -/
theorem entryFor_roof_body {l : List Entry} {h : RxHeader} (k : h.kind = .roof) :
    ∃ q, (entryFor l h).body = .roof q := by
  have kind := (entryFor_frame l h).2.2.2
  cases body : (entryFor l h).body with
  | roof q => exact ⟨q, rfl⟩
  | control c => rw [body, k] at kind; cases kind

/-- The table after the event of a roof frame that is taken. -/
theorem takeRoof_table {s t : State} {im : Image} {h : RxHeader} {f : RoofData → RoofData}
    (on : (s.takeRoof im h f).Reacts t) :
    findEntry t.pv.table h.src = some ((entryFor s.pv.table h).mapRoof f) ∧
      (∀ a, a ≠ h.src → findEntry t.pv.table a = findEntry s.pv.table a) ∧ t.pv.missedSeq = s.pv.missedSeq := by
  rw [on.kept_pv, State.takeRoof_pv, PV.form_table]
  refine ⟨?_, fun a k => findEntry_putEntry_ne _ _ (by simpa using k), ?_⟩
  · have := findEntry_putEntry_self ((entryFor s.pv.table h).mapRoof f) s.pv.table
    simpa using this
  · rw [PV.form_eq]

/-- The heard claim of a CLAIM payload is mended by R62. -/
theorem claimContent_heardFrom (trainLength : Nat) (b : Vector Byte 8) :
    HeardFrom trainLength b (claimContent trainLength b) := by
  have kinds : ∀ n, (claimKindOfCode n = none ↔ ¬(1 ≤ n ∧ n ≤ 3)) ∧
      ∀ k, claimKindOfCode n = some k → k = if n = 1 then .raise else if n = 2 then .scrape else .heat := by
    rintro (_ | _ | _ | _ | n) <;> simp [claimKindOfCode, eq_comm]
  have pans : ∀ n, (panOfCode n = none ↔ 2 ≤ n) ∧ ∀ p, panOfCode n = some p → p = if n = 0 then .a else .b := by
    rintro (_ | _ | n) <;> simp [panOfCode, eq_comm]
  obtain ⟨noKind, kind⟩ := kinds b[1].toNat
  obtain ⟨noPan, pan⟩ := pans b[2].toNat
  unfold claimContent
  split
  case h_1 k p hk hp =>
    refine ⟨?_, ?_⟩
    · rw [← noKind, ← noPan, hk, hp]; simp
    · rintro c ⟨⟩
      exact ⟨rfl, rfl, kind k hk, pan p hp, rfl, rfl, rfl⟩
  case h_2 other =>
    refine ⟨?_, by simp⟩
    rw [← noKind, ← noPan]
    refine ⟨fun _ => ?_, fun _ => rfl⟩
    cases hk : claimKindOfCode b[1].toNat with
    | none => exact .inl rfl
    | some k =>
      cases hp : panOfCode b[2].toNat with
      | none => exact .inr rfl
      | some p => exact absurd hp (other k p hk)

/-- Settles O33. -/
theorem claimsAreHeardAndWithdrawn : Obligations.ClaimsAreHeardAndWithdrawn := by
  refine ⟨claimContent_heardFrom, fun s im h released i other roof c change frame => ?_⟩
  obtain ⟨event, plain, f, effect, claims⟩ : resets c = false ∧ (∀ x b, c ≠ .demandReceived x b) ∧
      ∃ f : RoofData → RoofData, direct c s = s.takeRoof im h f ∧
        ∀ q, f q = { q with claim := change q.claim } := by
    rcases frame with ⟨b, rfl, rfl⟩ | ⟨n, rfl, rfl⟩ | ⟨l, short, rfl, rfl⟩
    · refine ⟨rfl, by simp, _, State.receive_of_takes i other roof, fun q => ?_⟩
      cases claimContent im.trainLength b <;> rfl
    · refine ⟨rfl, by simp, _, State.receive_of_takes i other roof, fun q => ?_⟩
      have same : ∀ k : HeardClaim, (k.serial != n.toNat) = decide (k.serial ≠ n.toNat) := fun k => by
        simp [bne, BEq.beq]
      simp [same]
    · exact ⟨rfl, by simp, _, (if_pos short).trans (State.receive_of_takes i other roof), fun q => rfl⟩
  have on := reacts_eventEnd plain s
  rw [effect] at on
  obtain ⟨found, others, missed⟩ := takeRoof_table on
  obtain ⟨q, body⟩ := entryFor_roof_body (l := s.pv.table) roof
  obtain ⟨old, fresh⟩ := entryFor_roof (l := s.pv.table) roof
  refine ⟨_, _, f q, exec_eq_event released event, found, Entry.mapRoof_body body f, by simp, by simp, by simp,
    fun x r was has => ?_, fun none => ?_, others, missed, on.kept_ioc.trans (by simp), on.kept_cl.trans (by simp), ?_⟩
  · obtain ⟨valid, same⟩ := old x r was has
    rw [body] at same
    cases same
    exact ⟨by simpa using valid, claims q⟩
  · obtain ⟨learning, same⟩ := fresh none
    rw [body] at same
    cases same
    rw [claims]
    exact ⟨by simpa using learning, rfl, rfl, rfl, rfl, rfl⟩
  · exact on.kept_lau.2.2.2.1.trans (by simp)

/-! ### What a handing-on leaves in the Ice-Clearing Unit -/

@[simp] theorem State.takeIceMode_arcs (s : State) :
    s.takeIceMode.icu.arcCount = s.icu.arcCount ∧ s.takeIceMode.icu.arcFields = s.icu.arcFields ∧
      s.takeIceMode.icu.state = s.icu.state ∧ s.takeIceMode.icu.arcSum = s.icu.arcSum ∧
      s.takeIceMode.icu.arcPan = s.icu.arcPan ∧ s.takeIceMode.icu.ringA = s.icu.ringA ∧
      s.takeIceMode.icu.ringB = s.icu.ringB ∧ s.takeIceMode.icu.winA = s.icu.winA ∧
      s.takeIceMode.icu.winB = s.icu.winB ∧ s.takeIceMode.icu.heaterA = s.icu.heaterA ∧
      s.takeIceMode.icu.heaterB = s.icu.heaterB ∧ s.takeIceMode.icu.draw = s.icu.draw ∧
      s.takeIceMode.icu.scrape = s.icu.scrape ∧ s.takeIceMode.icu.severe = s.icu.severe := by
  unfold State.takeIceMode
  split
  · simp
  · split_ifs <;> simp

theorem State.takeIceMode_congr {s t : State} (h : t.pv.force.ice = s.pv.force.ice) (k : t.icu = s.icu) :
    t.takeIceMode.icu = s.takeIceMode.icu := by
  unfold State.takeIceMode
  rw [h, k]
  split
  · exact k
  · split_ifs
    case pos => exact k
    all_goals rfl

theorem State.handOn_icu (s : State) (im : Image) (old : DemandInForce) (b : Bool) :
    (s.handOn im old b).icu = s.takeIceMode.icu := by
  unfold State.handOn
  exact State.takeIceMode_congr (by simp) (by simp)

/-- A change of the table leaves the Ice-Clearing Unit, or gives it the ice mode of the demand in force. -/
theorem State.tableChanged_icu (s : State) (im : Image) (l : List Entry) :
    (s.tableChanged im l).icu = s.icu ∨
      (s.tableChanged im l).icu = ({ s with pv := (s.tableChanged im l).pv } : State).takeIceMode.icu := by
  rw [State.tableChanged_pv]
  unfold State.tableChanged
  dsimp only
  split_ifs
  · rw [State.handOn_icu]
    exact .inr (State.takeIceMode_congr (by simp) (by simp))
  · exact .inl (by simp)

theorem State.takeRoof_icu (s : State) (im : Image) (h : RxHeader) (f : RoofData → RoofData) :
    ∃ l, (s.takeRoof im h f).icu = (s.tableChanged im l).icu := by
  unfold State.takeRoof
  dsimp only
  split_ifs <;> exact ⟨_, rfl⟩

theorem State.takeStatus_arcCount (s : State) (im : Image) (h : RxHeader) (b : Vector Byte 28) :
    (s.takeStatus im h b).icu.arcCount = s.icu.arcCount := by
  obtain ⟨l, e⟩ := s.takeRoof_icu im h fun r => r.takeStatus (statusContent im.trainLength b)
  have same : (s.takeStatus im h b).icu = (s.tableChanged im l).icu := e
  rw [same]
  rcases s.tableChanged_icu im l with k | k <;> simp [k]

/-! ### STATUS -/

theorem panRecordOf_mends (trainLength : Nat) (flags hi lo : Byte) :
    (panRecordOf trainLength flags hi lo).Mends trainLength flags hi lo where
  bits := ⟨rfl, rfl⟩
  state := rfl
  connection := by
    rw [show (panRecordOf trainLength flags hi lo).coll = decide (flags.toNat / 32 % 4 ≠ 0) from rfl,
      decide_eq_false_iff_not, not_not]
  position := rfl
  set := by
    have code : word16 hi lo / 4096 % 4 = hi.toNat / 16 % 4 := by
      have := lo.isLt
      unfold word16
      omega
    have small : hi.toNat / 16 % 4 < 4 := Nat.mod_lt _ (by omega)
    simp only [panRecordOf, code]
    generalize hi.toNat / 16 % 4 = n at small ⊢
    interval_cases n <;> rfl

/-- The data of an entry that has taken a STATUS (R60). -/
theorem RoofData.takeStatus_mended (q : RoofData) (n : Nat) (b : Vector Byte 28) :
    let r := q.takeStatus (statusContent n b)
    r.interval = max 50 (min 500 (b[0].toNat * 10)) ∧ r.configFault = b[1].getLsbD 0 ∧
      (r.configFault = true → r.recA = none ∧ r.recB = none ∧ r.draw = 0) ∧
      (r.configFault = false → r.draw = b[17].toNat ∧
        r.recA = some (panRecordOf n b[2] b[3] b[4]) ∧ r.recB = some (panRecordOf n b[5] b[6] b[7])) := by
  refine ⟨?_, rfl, fun k => ?_, fun k => ?_⟩
  · change clamp 50 500 (b[0].toNat * 10) = _
    unfold clamp
    split_ifs <;> omega
  · have k : (statusContent n b).configFault = true := k
    simp [RoofData.takeStatus, k]
  · have k : (statusContent n b).configFault = false := k
    simp only [RoofData.takeStatus, k]
    exact ⟨rfl, rfl, rfl⟩

/-- A heard claim stands exactly while the STATUS carries its serial (R63). -/
theorem RoofData.takeStatus_claim (q : RoofData) (n : Nat) (b : Vector Byte 28) (c : HeardClaim) :
    (q.takeStatus (statusContent n b)).claim = some c ↔
      q.claim = some c ∧ b[23].toNat % 4 ≠ 0 ∧ c.serial = b[24].toNat := by
  rw [RoofData.takeStatus, Option.filter_eq_some_iff, statusContent]
  refine and_congr_right fun _ => ?_
  have kind : field b[23] 0 2 = b[23].toNat % 4 := by simp [field]
  rw [kind]
  by_cases none : b[23].toNat % 4 = 0
  · simp [none]
  · simpa [none] using eq_comm

/-- What lies between the two sequence numbers is missed only on a VALID roof entry, without the learning flag. -/
theorem missed_eq {e : Entry} {r : RoofData} (body : e.body = .roof r) (h : RxHeader) (learning : Bool) :
    missed (some e) h learning =
      if e.state = .valid ∧ learning = false then (h.seq.toNat + 256 - e.lastSeq) % 256 - 1 else 0 := by
  have kind : e.body.kind = .roof := by rw [body]; rfl
  simp [missed, kind]

theorem missed_of_no_roof {old : Option Entry} (no : ∀ x p, old = some x → x.body ≠ .roof p) (h : RxHeader)
    (learning : Bool) : missed old h learning = 0 := by
  cases old with
  | none => rfl
  | some e =>
    rw [missed, if_neg]
    rintro ⟨-, kind, -⟩
    cases l : e.body with
    | roof p => exact no e p rfl l
    | control c => rw [l] at kind; cases kind

theorem filter_roof_of_roof {old : Option Entry} {x : Entry} {p : RoofData} (was : old = some x) (has : x.body = .roof p) :
    old.filter (fun x => decide (x.body.kind = .roof)) = some x := by
  simp [was, has, EntryBody.kind, Option.filter_some]

theorem filter_roof_of_no_roof {old : Option Entry} (no : ∀ x p, old = some x → x.body ≠ .roof p) :
    old.filter (fun x => decide (x.body.kind = .roof)) = none := by
  rw [Option.filter_eq_none_iff]
  intro x k
  cases l : x.body with
  | roof p => exact absurd l (no x p k)
  | control c => simp [EntryBody.kind]

/-- Settles O32. -/
theorem statusRefreshesItsEntry : Obligations.StatusRefreshesItsEntry := by
  refine ⟨panRecordOf_mends, fun s im h b released i other roof => ?_⟩
  have effect : direct (.statusReceived h b) s = s.takeStatus im h b := State.receive_of_takes i other roof
  have on := reacts_eventEnd (c := .statusReceived h b) (by simp) s
  rw [effect] at on
  set f : RoofData → RoofData := fun r => r.takeStatus (statusContent im.trainLength b) with hf
  have table : (eventEnd (.statusReceived h b) s).pv.table =
      putEntry ((entryFor s.pv.table h).mapRoof f) s.pv.table := by
    rw [on.kept_pv, State.takeStatus_pv]
    exact PV.form_table _
  have counter : (eventEnd (.statusReceived h b) s).pv.missedSeq =
      min 65535 (s.pv.missedSeq + missed (findEntry s.pv.table h.src) h (b[1].getLsbD 1)) := by
    rw [on.kept_pv, State.takeStatus_pv]
    rfl
  have found : findEntry (eventEnd (.statusReceived h b) s).pv.table h.src =
      some ((entryFor s.pv.table h).mapRoof f) := by
    rw [table]
    simpa using findEntry_putEntry_self ((entryFor s.pv.table h).mapRoof f) s.pv.table
  obtain ⟨q, body⟩ := entryFor_roof_body (l := s.pv.table) roof
  obtain ⟨old, fresh⟩ := entryFor_roof (l := s.pv.table) roof
  have kept := on.kept_lau
  obtain ⟨-, -, -, closed, -, stuck, -, lau, -, -, ioc, cl, -⟩ := s.takeStatus_frame im h b
  have icu := s.takeStatus_arcCount im h b
  obtain ⟨interval, configFault, faulty, sound⟩ := q.takeStatus_mended im.trainLength b
  have claims := q.takeStatus_claim im.trainLength b
  refine ⟨_, _, f q, exec_eq_event released rfl, found, Entry.mapRoof_body body f, by simp, by simp, by simp, ?_, ?_, ?_,
    on.kept_ioc.trans ioc, on.kept_cl.trans cl, kept.2.2.2.1.trans (congrArg LAU.rxErrors lau),
    kept.2.1.trans (congrArg LAU.onLine lau), kept.2.2.1.trans (congrArg LAU.seq lau), on.kept_closed.trans closed,
    on.kept_stuck.trans stuck, on.kept_arcCount.trans icu⟩
  · dsimp only
    by_cases was : ∃ x p, findEntry s.pv.table h.src = some x ∧ x.body = .roof p
    · obtain ⟨x, p, was, has⟩ := was
      obtain ⟨valid, same⟩ := old x p was has
      obtain rfl : q = p := EntryBody.roof.inj (body.symm.trans same)
      rw [filter_roof_of_roof was has]
      rw [was, missed_eq has] at counter
      refine ⟨by simpa using valid, interval, configFault, faulty, sound, fun c k => ((claims c).mp k).2, ?_,
        by simp, ?_, ?_⟩
      · rintro y p c ⟨⟩ body' claim kind serial
        obtain rfl : q = p := EntryBody.roof.inj (has.symm.trans body')
        exact (claims c).mpr ⟨claim, kind, serial⟩
      · rintro y ⟨⟩ state learning
        rw [counter, if_pos ⟨state, learning⟩]
      · rintro y ⟨⟩ why
        rw [counter, if_neg, Nat.add_zero]
        rintro ⟨state, off⟩
        rcases why with k | k
        · exact k state
        · exact absurd (off.symm.trans k) (by simp)
    · have no : ∀ x p, findEntry s.pv.table h.src = some x → x.body ≠ .roof p := fun x p k l => was ⟨x, p, k, l⟩
      obtain ⟨learning, same⟩ := fresh no
      obtain rfl := EntryBody.roof.inj (body.symm.trans same)
      rw [filter_roof_of_no_roof no]
      refine ⟨by simpa using learning, interval, configFault, faulty, sound, fun c k => ((claims c).mp k).2,
        by simp, fun _ => ?_, by simp, by simp⟩
      rw [counter, missed_of_no_roof no, Nat.add_zero]
  · intro a away
    rw [table]
    exact findEntry_putEntry_ne _ _ (by simpa using away)
  · rintro ⟨x, was, control⟩
    refine on.flags _ ?_
    have clash := State.takeRoof_clash (im := im) (f := f)
      ((kindChanges_iff s.pv.table h).mpr ⟨x, was, by rw [control, roof]; simp⟩)
    exact clash

end Sys2Proof.Machine
end

section
/-! PROOFS. The ends of an entry's times (R56, R57, R63), the demand in force that the active entries form (R65, R67, R68)
and the two ranks (R76, R77). -/

namespace Sys2Proof.Machine

/-! ### The ends of an entry's times -/

theorem direct_expiry {s : State} {im : Image} (i : s.cl.image = some im) (a : Addr) :
    direct (.learningEntryRemoval a) s = s.removeLearning im a ∧ direct (.entryLost a) s = s.loseEntry im a ∧
      direct (.lostHoldEnd a) s = s.removeLost im a ∧ direct (.heardClaimAgeOut a) s = s.ageOutClaim im a :=
  ⟨State.ifGood_of_some i fun im t => t.removeLearning im a, State.ifGood_of_some i fun im t => t.loseEntry im a,
    State.ifGood_of_some i fun im t => t.removeLost im a, State.ifGood_of_some i fun im t => t.ageOutClaim im a⟩

/-- The table after a change of it, at the address changed and at the others. -/
theorem State.tableChanged_drop (s : State) (im : Image) (a : Addr) :
    findEntry (s.tableChanged im (dropEntry s.pv.table a)).pv.table a = none ∧
      ∀ b, b ≠ a → findEntry (s.tableChanged im (dropEntry s.pv.table a)).pv.table b = findEntry s.pv.table b := by
  rw [State.tableChanged_pv, PV.form_table]
  exact ⟨findEntry_dropEntry_self _ _, fun b h => findEntry_dropEntry_ne _ h⟩

theorem State.tableChanged_put (s : State) (im : Image) {e : Entry} {a : Addr} (h : e.addr = a) :
    findEntry (s.tableChanged im (putEntry e s.pv.table)).pv.table a = some e ∧
      ∀ b, b ≠ a → findEntry (s.tableChanged im (putEntry e s.pv.table)).pv.table b = findEntry s.pv.table b := by
  subst h
  rw [State.tableChanged_pv, PV.form_table]
  exact ⟨findEntry_putEntry_self _ _, fun b h => findEntry_putEntry_ne _ _ h⟩

theorem State.removeLearning_table {s : State} {im : Image} {a : Addr} {e : Entry}
    (h : findEntry s.pv.table a = some e) :
    findEntry (s.removeLearning im a).pv.table a = (if e.windowOver im then none else some e) ∧
      ∀ b, b ≠ a → findEntry (s.removeLearning im a).pv.table b = findEntry s.pv.table b := by
  unfold State.removeLearning
  rw [h]
  by_cases past : e.windowOver im
  · simpa [past] using s.tableChanged_drop im a
  · simpa [past] using h

theorem State.loseEntry_table {s : State} {im : Image} {a : Addr} {e : Entry} (h : findEntry s.pv.table a = some e) :
    findEntry (s.loseEntry im a).pv.table a =
        some (if e.lostOver im then { e with state := .lost, lostAge := .started } else e) ∧
      ∀ b, b ≠ a → findEntry (s.loseEntry im a).pv.table b = findEntry s.pv.table b := by
  unfold State.loseEntry
  rw [h]
  by_cases past : e.lostOver im
  · simpa [past] using s.tableChanged_put im (e := { e with state := .lost, lostAge := .started })
      (show e.addr = a from findEntry_addr h)
  · simpa [past] using h

theorem State.removeLost_table {s : State} {im : Image} {a : Addr} {e : Entry} (h : findEntry s.pv.table a = some e) :
    findEntry (s.removeLost im a).pv.table a = (if e.holdOver then none else some e) ∧
      ∀ b, b ≠ a → findEntry (s.removeLost im a).pv.table b = findEntry s.pv.table b := by
  unfold State.removeLost
  rw [h]
  by_cases past : e.holdOver
  · simpa [past] using s.tableChanged_drop im a
  · simpa [past] using h

theorem State.ageOutClaim_table {s : State} {im : Image} {a : Addr} {e : Entry} (h : findEntry s.pv.table a = some e) :
    findEntry (s.ageOutClaim im a).pv.table a =
        some (if e.claimOver then e.mapRoof fun r => { r with claim := none } else e) ∧
      ∀ b, b ≠ a → findEntry (s.ageOutClaim im a).pv.table b = findEntry s.pv.table b := by
  unfold State.ageOutClaim
  rw [h]
  by_cases past : e.claimOver
  · simpa [past] using s.tableChanged_put im (e := e.mapRoof fun r => { r with claim := none })
      (by simpa using findEntry_addr h)
  · simpa [past] using h

theorem Entry.holdOver_iff (e : Entry) : e.holdOver = true ↔ e.state = .lost ∧ ∃ n, e.lostAge = some n ∧ 2000 ≤ n := by
  simp only [Entry.holdOver, Machine.due, Bool.and_eq_true, Option.any_eq_true, decide_eq_true_eq]
  rfl

/-- Settles O35. -/
theorem entriesEndByTheirAges : Obligations.EntriesEndByTheirAges := by
  intro s im a e released i found
  obtain ⟨learning, lose, lost, ages⟩ := direct_expiry i a
  have table : ∀ c, resets c = false → (∀ x b, c ≠ .demandReceived x b) →
      exec c s = .next (eventEnd c s) ∧ (eventEnd c s).pv.table = (direct c s).pv.table := fun c event plain =>
    ⟨exec_eq_event released event, congrArg PV.table (reacts_eventEnd plain s).kept_pv⟩
  dsimp only
  refine ⟨?_, ?_, ?_, ?_⟩
  · obtain ⟨step, same⟩ := table (.learningEntryRemoval a) rfl (by simp)
    rw [learning] at same
    obtain ⟨at', others⟩ := State.removeLearning_table (im := im) found
    refine ⟨_, step, ?_, fun b away => by rw [same, others b away]⟩
    rw [same, at']
    cases body : e.body <;> simp [Entry.windowOver, Entry.windowMs, body, Image.tctlMs]
  · obtain ⟨step, same⟩ := table (.entryLost a) rfl (by simp)
    rw [lose] at same
    obtain ⟨at', others⟩ := State.loseEntry_table (im := im) found
    refine ⟨_, step, ?_, fun b away => by rw [same, others b away]⟩
    rw [same, at']
    cases body : e.body <;> simp [Entry.lostOver, Entry.lostMs, body, Image.tctlMs]
  · obtain ⟨step, same⟩ := table (.lostHoldEnd a) rfl (by simp)
    rw [lost] at same
    obtain ⟨at', others⟩ := State.removeLost_table (im := im) found
    refine ⟨_, step, fun state limit => ?_, fun not => ?_, fun b away => by rw [same, others b away]⟩
    · rw [same, at', if_pos (e.holdOver_iff.mpr ⟨state, limit⟩)]
    · rw [same, at', if_neg (fun k => not (e.holdOver_iff.mp k))]
  · obtain ⟨step, same⟩ := table (.heardClaimAgeOut a) rfl (by simp)
    rw [ages] at same
    obtain ⟨at', others⟩ := State.ageOutClaim_table (im := im) found
    refine ⟨_, step, fun r c body claim => ?_, fun r body claim => ?_, fun k body => ?_,
      fun b away => by rw [same, others b away]⟩
    · rw [same, at']
      simp only [Entry.claimOver, Entry.mapRoof, body, claim, Option.any_some, decide_eq_true_eq]
      rfl
    · rw [same, at', if_neg (by simp [Entry.claimOver, body, claim])]
    · rw [same, at', if_neg (by simp [Entry.claimOver, body])]

/-! ### The demand in force -/

theorem nearest_eq_none {l : List SectionRecord} : nearest l = none ↔ l = [] := by
  cases l with
  | nil => simp [nearest]
  | cons r l =>
    cases k : nearest l with
    | none => simp [nearest, k]
    | some m =>
      simp only [nearest, k]
      split_ifs <;> simp

/-- The nearest section record of the active entries is that of one of them, no farther than any, and of equally near ones
that of the lower address (R68). -/
theorem nearest_active {l : List (Addr × DemandRecord)} {q : SectionRecord}
    (h : nearest (l.filterMap fun x => x.2.sect) = some q) :
    ∃ y ∈ l, y.2.sect = some q ∧ ∀ x ∈ l, ∀ r, x.2.sect = some r → q.dist ≤ r.dist ∧
      (l.Pairwise (fun x y => x.1.toNat < y.1.toNat) → r.dist = q.dist → y.1.toNat ≤ x.1.toNat) := by
  induction l generalizing q with
  | nil => cases h
  | cons z l ih =>
    have later : ∀ {m}, nearest (l.filterMap fun x => x.2.sect) = some m →
        (∀ r, z.2.sect = some r → m.dist < r.dist) → ∃ y ∈ z :: l, y.2.sect = some m ∧
          ∀ x ∈ z :: l, ∀ r, x.2.sect = some r → m.dist ≤ r.dist ∧
            ((z :: l).Pairwise (fun x y => x.1.toNat < y.1.toNat) → r.dist = m.dist → y.1.toNat ≤ x.1.toNat) := by
      intro m found farther
      obtain ⟨y, hy, sect, least⟩ := ih found
      refine ⟨y, List.mem_cons_of_mem _ hy, sect, fun x mem r k => ?_⟩
      rcases List.mem_cons.mp mem with rfl | mem
      · have := farther r k
        exact ⟨this.le, fun _ e => by omega⟩
      · exact ⟨(least x mem r k).1, fun p => (least x mem r k).2 (List.pairwise_cons.mp p).2⟩
    have first : ∀ r, z.2.sect = some r → (∀ x ∈ l, ∀ r', x.2.sect = some r' → r.dist ≤ r'.dist) →
        ∃ y ∈ z :: l, y.2.sect = some r ∧ ∀ x ∈ z :: l, ∀ r', x.2.sect = some r' → r.dist ≤ r'.dist ∧
          ((z :: l).Pairwise (fun x y => x.1.toNat < y.1.toNat) → r'.dist = r.dist → y.1.toNat ≤ x.1.toNat) := by
      intro r sect least
      refine ⟨z, List.mem_cons_self, sect, fun x mem r' k => ?_⟩
      rcases List.mem_cons.mp mem with rfl | mem
      · rw [sect] at k
        cases k
        exact ⟨le_rfl, fun _ _ => le_rfl⟩
      · exact ⟨least x mem r' k, fun p _ => ((List.pairwise_cons.mp p).1 x mem).le⟩
    cases k : z.2.sect with
    | none =>
      rw [List.filterMap_cons_none (f := fun x : Addr × DemandRecord => x.2.sect) k] at h
      exact later h (by simp [k])
    | some r =>
      rw [List.filterMap_cons_some (f := fun x : Addr × DemandRecord => x.2.sect) k] at h
      cases rest : nearest (l.filterMap fun x => x.2.sect) with
      | none =>
        have empty := nearest_eq_none.mp rest
        simp only [nearest, rest, Option.some.injEq] at h
        subst h
        refine first r k fun x mem r' k' => ?_
        have : r' ∈ l.filterMap fun x => x.2.sect := List.mem_filterMap.mpr ⟨x, mem, k'⟩
        rw [empty] at this
        cases this
      | some m =>
        simp only [nearest, rest] at h
        split_ifs at h with near
        · cases h
          exact later rest fun r' k' => by rw [k] at k'; cases k'; exact near
        · cases h
          obtain ⟨y, -, -, least⟩ := ih rest
          refine first q k fun x mem r' k' => ?_
          have := (least x mem r' k').1
          omega

theorem nearest_mem {l : List SectionRecord} {q : SectionRecord} (h : nearest l = some q) : q ∈ l := by
  induction l generalizing q with
  | nil => cases h
  | cons r l ih =>
    cases k : nearest l with
    | none =>
      simp only [nearest, k, Option.some.injEq] at h
      simp [h]
    | some m =>
      simp only [nearest, k] at h
      split_ifs at h <;> cases h
      · exact List.mem_cons_of_mem _ (ih k)
      · exact List.mem_cons_self

theorem mergedExpected_of_same {l : List DemandRecord} {e : Expected} (some : l ≠ [])
    (h : ∀ d ∈ l, d.expected = e) : mergedExpected l = e := by
  cases l with
  | nil => exact absurd rfl some
  | cons d ds =>
    have first := h d (by simp)
    rw [mergedExpected, if_pos]
    · exact first
    · simp only [List.all_eq_true, beq_iff_eq]
      intro x mem
      rw [h x (by simp [mem]), first]

theorem mergedExpected_of_different {l : List DemandRecord} {x y : DemandRecord} (hx : x ∈ l) (hy : y ∈ l)
    (h : x.expected ≠ y.expected) : mergedExpected l = .any := by
  cases l with
  | nil => cases hx
  | cons d ds =>
    rw [mergedExpected, if_neg]
    simp only [List.all_eq_true, beq_iff_eq]
    intro all
    have same : ∀ z ∈ d :: ds, z.expected = d.expected := by
      intro z mem
      rcases List.mem_cons.mp mem with rfl | mem
      · rfl
      · exact all z mem
    exact h ((same x hx).trans (same y hy).symm)

/-- The merged section record is the nearest but for its next system, which is UNKNOWN unless all agree (R68). -/
theorem mergedSection_spec (l : List SectionRecord) :
    (mergedSection l = none ↔ l = []) ∧
      ∀ m, mergedSection l = some m → ∃ q, nearest l = some q ∧ m.id = q.id ∧ m.dist = q.dist ∧ m.len = q.len ∧
        (∀ n, (∀ r ∈ l, r.next = n) → m.next = n) ∧
        ((∃ r ∈ l, ∃ r' ∈ l, r.next ≠ r'.next) → m.next = .unknown) := by
  unfold mergedSection
  refine ⟨by simp [nearest_eq_none], fun m h => ?_⟩
  obtain ⟨q, near, rfl⟩ := Option.map_eq_some_iff.mp h
  refine ⟨q, near, ?_⟩
  have mem : q ∈ l := nearest_mem near
  split_ifs with same
  · simp only [List.all_eq_true, beq_iff_eq] at same
    refine ⟨rfl, rfl, rfl, fun n all => all q mem, ?_⟩
    rintro ⟨r, hr, r', hr', differ⟩
    exact absurd ((same r hr).trans (same r' hr').symm) differ
  · refine ⟨rfl, rfl, rfl, fun n all => ?_, fun _ => rfl⟩
    refine absurd ?_ same
    simp only [List.all_eq_true, beq_iff_eq]
    intro r hr
    rw [all r hr, all q mem]

/-- Settles O31. -/
theorem demandInForceIsFormedFromActiveEntries : Obligations.DemandInForceIsFormedFromActiveEntries := by
  intro v active
  have act : activeEntries v.table = active := rfl
  refine ⟨fun h => ?_, fun a d h => ?_, fun h => ?_⟩
  · rw [h] at act
    simp [PV.form, act, DemandInForce.absent]
  · rw [h] at act
    simp [PV.form, act, governingDemand]
  · have formed : v.form =
        { v with force := mergedDemand v.held (active.map (·.2)), governing := none, heldIce := v.held } := by
      unfold PV.form
      rw [act]
      match k : active with
      | [] => simp at h
      | [x] => simp at h
      | x :: y :: l => rfl
    have nonempty : active ≠ [] := by
      intro k
      rw [k] at h
      simp at h
    have sects : ∀ r, r ∈ (active.map (·.2)).filterMap (fun d => d.sect) ↔ ∃ x ∈ active, x.2.sect = some r := by
      intro r
      simp [List.mem_filterMap]
    obtain ⟨none, some⟩ := mergedSection_spec ((active.map (·.2)).filterMap fun d => d.sect)
    rw [formed]
    refine ⟨rfl, rfl, ?_, ?_, fun e all => ?_, ?_, rfl, fun all => ?_, ?_⟩
    · have down : ((active.map (·.2)).any fun d => !d.up) = true ↔ ∃ x ∈ active, x.2.up = false := by simp
      simp only [mergedDemand, down]
    · simp [mergedDemand]
    · have same : mergedExpected (active.map (·.2)) = e :=
        mergedExpected_of_same (by simpa using nonempty) fun d mem => by
          obtain ⟨x, hx, rfl⟩ := List.mem_map.mp mem
          exact all x hx
      simp [mergedDemand, same]
    · rintro ⟨x, hx, y, hy, differ⟩
      simp [mergedDemand,
        mergedExpected_of_different (List.mem_map_of_mem (f := (·.2)) hx) (List.mem_map_of_mem hy) differ]
    · refine none.mpr ?_
      rw [List.eq_nil_iff_forall_not_mem]
      intro r mem
      obtain ⟨x, hx, k⟩ := (sects r).mp mem
      rw [all x hx] at k
      cases k
    · rintro ⟨x, hx, k⟩
      obtain ⟨r, hr⟩ := Option.ne_none_iff_exists'.mp k
      obtain ⟨m, hm⟩ : ∃ m, mergedSection ((active.map (·.2)).filterMap fun d => d.sect) = .some m := by
        refine Option.ne_none_iff_exists'.mp fun e => ?_
        have := (sects r).mpr ⟨x, hx, hr⟩
        rw [none.mp e] at this
        cases this
      obtain ⟨q, near, id, dist, len, agree, unknown⟩ := some m hm
      refine ⟨m, hm, ?_, fun n all => agree n fun r mem => ?_, ?_⟩
      · have rising : (tableAddrs v.table).Pairwise (· < ·) →
            active.Pairwise fun x y => x.1.toNat < y.1.toNat := by
          intro p
          rw [List.pairwise_filterMap]
          refine (List.pairwise_map.mp p).imp fun below x hx y hy => ?_
          obtain ⟨_, -, rfl⟩ := Option.map_eq_some_iff.mp hx
          obtain ⟨_, -, rfl⟩ := Option.map_eq_some_iff.mp hy
          exact below
        rw [List.filterMap_map] at near
        obtain ⟨y, hy, sect, least⟩ := nearest_active near
        exact ⟨y, hy, q, sect, id, dist, len, fun x hx r k =>
          ⟨(least x hx r k).1, fun p => (least x hx r k).2 (rising p)⟩⟩
      · obtain ⟨x, hx, k⟩ := (sects r).mp mem
        exact all x hx r k
      · rintro ⟨x, hx, y, hy, r, r', kx, ky, differ⟩
        exact unknown ⟨r, (sects r).mpr ⟨x, hx, kx⟩, r', (sects r').mpr ⟨y, hy, ky⟩, differ⟩

/-! ### The ranks -/

/-- An order by connection, then by an order of the lead distances, then by address and letter. -/
def rankBy (nearer : Nat → Nat → Bool) (x y : Seen) : Bool :=
  if x.coll ≠ y.coll then x.coll
  else if x.e ≠ y.e then nearer x.e y.e
  else if x.addr ≠ y.addr then x.addr < y.addr
  else panBefore x.pan y.pan

/-- The rank as a disjunction of its four cases. -/
theorem rankBy_iff (nearer : Nat → Nat → Bool) (x y : Seen) :
    rankBy nearer x y = true ↔
      (x.coll = true ∧ y.coll = false) ∨
        (x.coll = y.coll ∧ ((x.e ≠ y.e ∧ nearer x.e y.e = true) ∨
          (x.e = y.e ∧ (x.addr < y.addr ∨ (x.addr = y.addr ∧ x.pan = .a ∧ y.pan = .b))))) := by
  have before : panBefore x.pan y.pan = true ↔ x.pan = .a ∧ y.pan = .b := by
    cases x.pan <;> cases y.pan <;> simp [panBefore]
  unfold rankBy
  split_ifs with coll e addr
  · cases cx : x.coll <;> cases cy : y.coll <;> simp_all
  · rw [ne_eq, not_not] at coll
    simp [coll, e]
  · rw [ne_eq, not_not] at coll e
    simp [coll, e, addr]
  · rw [ne_eq, not_not] at coll e addr
    simp [coll, e, addr, before]

/-- The order of the lead distances: strict and total. -/
structure StrictOrder (nearer : Nat → Nat → Bool) : Prop where
  asymm : ∀ m n, ¬(nearer m n = true ∧ nearer n m = true)
  trans : ∀ l m n, nearer l m = true → nearer m n = true → nearer l n = true
  total : ∀ m n, m ≠ n → nearer m n = true ∨ nearer n m = true

theorem rankBy_orders {nearer : Nat → Nat → Bool} (h : StrictOrder nearer) (x y z : Seen) :
    ¬(rankBy nearer x y = true ∧ rankBy nearer y x = true) ∧
      (rankBy nearer x y = true → rankBy nearer y z = true → rankBy nearer x z = true) ∧
      ((x.addr ≠ y.addr ∨ x.pan ≠ y.pan) → rankBy nearer x y = true ∨ rankBy nearer y x = true) := by
  simp only [rankBy_iff, BitVec.lt_def, ← BitVec.toNat_inj, ne_eq]
  have asymm := h.asymm x.e y.e
  have trans := h.trans x.e y.e z.e
  have total := h.total x.e y.e
  refine ⟨?_, ?_, ?_⟩
  · rintro ⟨⟨a, b⟩ | ⟨a, ⟨b, b'⟩ | ⟨b, c | ⟨c, d, e⟩⟩⟩, k⟩
    all_goals grind
  · rintro (⟨a, b⟩ | ⟨a, ⟨b, b'⟩ | ⟨b, c | ⟨c, d, e⟩⟩⟩) k
    all_goals grind [h.asymm]
  · intro differ
    have letters : x.pan = y.pan ∨ (x.pan = .a ∧ y.pan = .b) ∨ (x.pan = .b ∧ y.pan = .a) := by
      cases x.pan <;> cases y.pan <;> simp
    grind

/-- Settles O38. -/
theorem ranksOrderDifferentPantographs : Obligations.RanksOrderDifferentPantographs := by
  have rule : ∀ (rank : Seen → Seen → Bool) (larger : Bool) (nearer : Nat → Nat → Bool), rank = rankBy nearer →
      StrictOrder nearer → (∀ m n, nearer m n = true ↔ if larger then n < m else m < n) → ∀ x y z : Seen,
      ¬(rank x y = true ∧ rank y x = true) ∧ (rank x y = true → rank y z = true → rank x z = true) ∧
      ((x.addr ≠ y.addr ∨ x.pan ≠ y.pan) → rank x y = true ∨ rank y x = true) ∧
      (x.coll = true → y.coll = false → rank x y = true) ∧
      (x.coll = y.coll → x.e ≠ y.e → (rank x y = true ↔ if larger then y.e < x.e else x.e < y.e)) ∧
      (x.coll = y.coll → x.e = y.e → x.addr ≠ y.addr → (rank x y = true ↔ x.addr < y.addr)) ∧
      (x.coll = y.coll → x.e = y.e → x.addr = y.addr → (rank x y = true ↔ x.pan = .a ∧ y.pan = .b)) := by
    rintro rank larger nearer rfl order meaning x y z
    obtain ⟨asymm, trans, total⟩ := rankBy_orders order x y z
    refine ⟨asymm, trans, total, fun a b => ?_, fun a b => ?_, fun a b c => ?_, fun a b c => ?_⟩
    · simp [rankBy, a, b]
    · simp [rankBy, a, b, meaning]
    · simp [rankBy, a, b, c]
    · rw [rankBy_iff]
      simp [a, b, c]
  rintro rank larger (⟨rfl, rfl⟩ | ⟨rfl, rfl⟩)
  · refine rule panAhead true (fun m n => n < m) rfl ⟨?_, ?_, ?_⟩ (by simp)
    all_goals simp only [decide_eq_true_eq]; omega
  · refine rule heatAhead false (fun m n => m < n) rfl ⟨?_, ?_, ?_⟩ (by simp)
    all_goals simp only [decide_eq_true_eq]; omega

end Sys2Proof.Machine
end

section
/-! PROOFS. Events whose effect stands beside their reactions: the loader's verdicts, samples and window ends, lower
requests, the start of an attempt, and the periods of the odometry. -/

namespace Sys2Proof.Machine

/-! ### The record (R202) -/

theorem State.badVerdict_reacts (s : State) :
    State.Reacts { s with
      cl := { s.cl with read := none, retryT := Timer.started, verdictGiven := true },
      lau := { s.lau with faultMode := true } } s.badVerdict := by
  have kept : s.badVerdict.kept = State.kept { s with
      cl := { s.cl with read := none, retryT := Timer.started, verdictGiven := true },
      lau := { s.lau with faultMode := true } } := by
    unfold State.badVerdict State.verdict
    dsimp only
    split_ifs with given
    · have given : s.cl.verdictGiven = true := given
      simp [State.kept, ← given]
    · rfl
  refine ⟨kept, ?_, ?_, ?_, fun k h => ?_⟩
  · rw [(s.badVerdict_frame).2.1]; exact .refl _
  · rw [(s.badVerdict_frame).2.2.1]; exact .refl _
  · exact .inl (by simp)
  · have : s.badVerdict.al.flags = (s.request .configFault).al.flags := by
      unfold State.badVerdict State.verdict
      dsimp only
      split_ifs <;> rfl
    unfold AL.requested
    rw [this]
    exact s.request_mono .configFault k h

theorem State.badVerdict_request (s : State) : s.badVerdict.al.requested .configFault = true := by
  have : s.badVerdict.al.flags = (s.request .configFault).al.flags := by
    unfold State.badVerdict State.verdict
    dsimp only
    split_ifs <;> rfl
  unfold AL.requested
  rw [this]
  exact s.request_self .configFault

/-- Settles O7. -/
theorem badRecordIsRetried : Obligations.BadRecordIsRetried := by
  refine ⟨fun s released reading c bad => ?_, fun s released retry => ?_⟩
  · obtain ⟨event, plain, effect⟩ : resets c = false ∧ (∀ x b, c ≠ .demandReceived x b) ∧ direct c s = s.badVerdict := by
      have reads : s.reading = true := reading
      rcases bad with rfl | ⟨record, pins, wrong, rfl⟩
      · exact ⟨rfl, by simp, if_pos reads⟩
      · exact ⟨rfl, by simp, by simp [direct, reads, State.readEnds, wrong]⟩
    have on := reacts_eventEnd plain s
    rw [effect] at on
    exact ⟨_, exec_eq_event released event, on.flags _ s.badVerdict_request, s.badVerdict_reacts.trans on⟩
  · have on := reacts_eventEnd (c := .configRetryTimerExpiry) (by simp) s
    have effect : direct .configRetryTimerExpiry s = { s with cl := { s.cl with retryT := none, read := .started } } :=
      if_pos retry
    rw [effect] at on
    exact ⟨_, exec_eq_event released rfl, on⟩

/-! ### Lower requests (R38) -/

/-- Settles O24. -/
theorem lowerRequestsFollowTheState : Obligations.LowerRequestsFollowTheState := by
  intro s p acts
  refine ⟨fun h => ?_, fun up free => ⟨fun off => ?_, fun on closed => ?_, fun on open' force => ?_⟩, fun up => ?_,
    fun low => ?_, fun rest => ?_⟩
  · have none : ((s.pc p).risingOrUp && (s.pc p).lowering.isNone) = false := by
      rcases h with h | h <;> simp [h]
    simp [State.softLower, acts, none]
  · simp [State.softLower, acts, up, free, off, PC.vent]
  · simp [State.softLower, acts, up, free, on, closed, PC.advance]
  · have up' : (s.pc p).state = .rising ∨ (s.pc p).state = .up := by simpa [PC.risingOrUp] using up
    simp [State.softLower, acts, free, on, open', PC.advance, PC.risingOrUp, up', force]
  · simp [State.fastDrop, acts, up, PC.vent, PC.zeroForce]
  · simp [State.fastDrop, acts, low, PC.risingOrUp, PC.zeroForce]
  · rcases rest with h | h <;> simp [State.fastDrop, acts, h, PC.risingOrUp]

/-! ### A sample of the level inputs (R190) -/

theorem levelOf_withLevel (l : Levels) (i j : LevelInput) (v : Bool) :
    levelOf (withLevel l i v) j = if j = i then v else levelOf l j := by
  cases i <;> cases j <;> rfl

theorem RunCounts.get_set (r : RunCounts) (i j : LevelInput) (n : Nat) :
    (r.set i n).get j = if j = i then n else r.get j := by
  cases i <;> cases j <;> rfl

theorem State.readers_levels (s : State) (i : LevelInput) (b : Bool) :
    (s.readers i b).ioc.levels = s.ioc.levels ∧ (s.readers i b).ioc.runs = s.ioc.runs := by
  cases i
  case dir =>
    unfold State.readers State.dirAccepted State.setView State.ifGood
    dsimp only
    split_ifs
    · exact ⟨rfl, rfl⟩
    · split <;> simp
    · exact ⟨rfl, rfl⟩
    · exact ⟨rfl, rfl⟩
  case eloop => cases b <;> simp [State.readers, State.eloopLevel]
  all_goals simp [State.readers]

/-- What a sample of one input leaves in it and in the others (R190). -/
theorem State.sampleInput_levels (s : State) (i j : LevelInput) (b : Bool) :
    levelOf (s.sampleInput i b).ioc.levels j =
        (if j = i ∧ b ≠ levelOf s.ioc.levels i ∧ classTime i ≤ s.ioc.runs.get i + 1 then b else levelOf s.ioc.levels j) ∧
      (s.sampleInput i b).ioc.runs.get j =
        if j = i then
          (if b ≠ levelOf s.ioc.levels i ∧ s.ioc.runs.get i + 1 < classTime i then s.ioc.runs.get i + 1 else 0)
        else s.ioc.runs.get j := by
  unfold State.sampleInput
  by_cases same : levelOf s.ioc.levels i = b
  · rw [if_pos same]
    simp [same, RunCounts.get_set]
  rw [if_neg same]
  by_cases limit : classTime i ≤ s.ioc.runs.get i + 1
  · have : ¬s.ioc.runs.get i + 1 < classTime i := by omega
    rw [if_pos limit, State.accept, (State.readers_levels _ i b).1, (State.readers_levels _ i b).2]
    simp [levelOf_withLevel, RunCounts.get_set, Ne.symm same, limit, this]
  · have : s.ioc.runs.get i + 1 < classTime i := by omega
    rw [if_neg limit]
    simp [RunCounts.get_set, Ne.symm same, this, limit]

theorem sampleFold_levels (l : Levels) (is : List LevelInput) (once : is.Nodup) (s : State) (j : LevelInput) :
    let t := is.foldl (fun t i => t.sampleInput i (levelOf l i)) s
    levelOf t.ioc.levels j =
        (if j ∈ is ∧ levelOf l j ≠ levelOf s.ioc.levels j ∧ classTime j ≤ s.ioc.runs.get j + 1 then levelOf l j
          else levelOf s.ioc.levels j) ∧
      t.ioc.runs.get j =
        if j ∈ is then
          (if levelOf l j ≠ levelOf s.ioc.levels j ∧ s.ioc.runs.get j + 1 < classTime j then s.ioc.runs.get j + 1 else 0)
        else s.ioc.runs.get j := by
  induction is generalizing s with
  | nil => simp
  | cons i is ih =>
    obtain ⟨fresh, once⟩ := List.nodup_cons.mp once
    obtain ⟨level, run⟩ := s.sampleInput_levels i j (levelOf l i)
    obtain ⟨level', run'⟩ := ih once (s.sampleInput i (levelOf l i))
    dsimp only at level' run' ⊢
    rw [List.foldl_cons, level', run', level, run]
    by_cases e : j = i
    · subst e
      simp [fresh]
    · simp [e]

/-- Settles O18: each input is sampled once, and no reader of a level changes a level or a run count. -/
theorem levelSamplesCountToTheClassTime : Obligations.LevelSamplesCountToTheClassTime := by
  intro s pins released
  have on := reacts_eventEnd (c := .levelInputSample pins) (by simp) s
  refine ⟨_, exec_eq_event released rfl, fun i => ?_, by decide⟩
  obtain ⟨level, run⟩ := sampleFold_levels (logical s.levelPolarity pins) levelInputs (by decide) s i
  have mem : i ∈ levelInputs := by cases i <;> decide
  have ioc : (eventEnd (.levelInputSample pins) s).ioc = (s.sampleAll (logical s.levelPolarity pins)).ioc := on.kept_ioc
  simp only [mem, true_and, if_true] at level run
  dsimp only
  rw [ioc]
  unfold State.sampleAll
  rw [level, run]
  refine ⟨fun same => ?_, fun other few => ?_, fun other many => ?_⟩
  · simp [same]
  · simp [other, few, Nat.not_le.mpr few]
  · simp [other, many, Nat.not_lt.mpr many]

/-! ### Samples and window ends (R1 to R15) -/

theorem PC.Drift.between {c d e : PC} (h : c.Drift d) (k : d.Drift e) (state : e.state = c.state)
    (disc : e.disc = c.disc) : d.state = c.state ∧ d.disc = c.disc := by
  constructor
  · cases x : c.state with
    | down => exact h.down x
    | fault => exact (h.fault x).1
    | rising => exact k.rising (state.trans x)
    | up =>
      rcases k.up (state.trans x) with y | y
      · rw [h.rising y] at x; cases x
      · exact y
    | lowering =>
      rcases h.lowering x with y | y | y
      · exact y
      · rw [← state, k.down y] at x; cases x
      · rw [← state, (k.fault y).1] at x; cases x
  · cases x : c.disc with
    | false =>
      rw [Bool.eq_false_iff]
      exact fun y => by simp [h.disc y] at x
    | true => exact k.disc (disc.trans x)

/-- The state and the DISC of both pantographs are the same. -/
def SameWiring (s t : State) : Prop := ∀ p, (t.pc p).state = (s.pc p).state ∧ (t.pc p).disc = (s.pc p).disc

theorem Drifts.between {s t u : State} (h : Drifts s t) (k : Drifts t u) (same : SameWiring s u) : SameWiring s t :=
  fun p => (h p).between (k p) (same p).1 (same p).2

theorem SameWiring.wiringChanged {s t : State} (h : SameWiring s t) : wiringChanged s t = false := by
  obtain ⟨a, a'⟩ := h .a
  obtain ⟨b, b'⟩ := h .b
  simp only [State.pc_a, State.pc_b] at a a' b b'
  simp [Machine.wiringChanged, PC.upCollecting, a, a', b, b']

/-- The rounds of an event after which the wiring is what it was leave the Line Qualifier. -/
theorem settle_lq_of_same {n : Nat} {ref s : State} (start : SameWiring ref s)
    (h : SameWiring ref (settle n ref s)) : (settle n ref s).lq = s.lq := by
  induction n generalizing ref s with
  | zero => rfl
  | succ n ih =>
    have first : Drifts s s.pantographs := (State.Reacts.pantographs s).drifts
    have rest : Drifts s.pantographs (ref.round s).2 :=
      ((State.Reacts.wiring ref s.pantographs).trans (.others _)).drifts
    have last : Drifts (ref.round s).2 (settle (n + 1) ref s) := (State.Reacts.settle n _ _).drifts
    have whole : SameWiring s (settle (n + 1) ref s) := fun p =>
      ⟨(h p).1.trans (start p).1.symm, (h p).2.trans (start p).2.symm⟩
    have now : SameWiring s s.pantographs := first.between (rest.trans last) whole
    have next : SameWiring s (ref.round s).2 := (first.trans rest).between last whole
    have quiet : Machine.wiringChanged ref s.pantographs = false :=
      SameWiring.wiringChanged fun p => ⟨(now p).1.trans (start p).1, (now p).2.trans (start p).2⟩
    have lq : (ref.round s).2.lq = s.lq := by
      simp only [State.round, State.wiring, quiet]
      simp
    refine (ih (ref := s.pantographs) (fun p => ?_) fun p => ?_).trans lq
    · exact ⟨(next p).1.trans (now p).1.symm, (next p).2.trans (now p).2.symm⟩
    · exact ⟨(whole p).1.trans (now p).1.symm, (whole p).2.trans (now p).2.symm⟩

/-- An event whose direct effect leaves the wiring, and which itself leaves it, keeps the Line Qualifier as the direct
effect left it. -/
theorem eventEnd_lq_of_same {c : Instr} {s : State} (start : SameWiring s (direct c s))
    (h : SameWiring s (eventEnd c s)) : (eventEnd c s).lq = (direct c s).lq := by
  have rounds' : Drifts (direct c s) (settle rounds s (direct c s)) := (State.Reacts.settle rounds s _).drifts
  have last : Drifts (settle rounds s (direct c s)) (eventEnd c s) :=
    .trans (.of_same (by simp [settled]) (by simp [settled])) (State.Reacts.finish s (settled c s) _ _).drifts
  have whole : SameWiring (direct c s) (eventEnd c s) := fun p =>
    ⟨(h p).1.trans (start p).1.symm, (h p).2.trans (start p).2.symm⟩
  have settled' := rounds'.between last whole
  have lq : (eventEnd c s).lq = (settle rounds s (direct c s)).lq := by simp [eventEnd, settled]
  rw [lq]
  exact settle_lq_of_same start fun p => ⟨(settled' p).1.trans (start p).1, (settled' p).2.trans (start p).2⟩

theorem SameWiring.of_same {s t : State} (a : t.pcA = s.pcA) (b : t.pcB = s.pcB) : SameWiring s t := by
  intro p
  cases p
  · exact ⟨congrArg PC.state a, congrArg PC.disc a⟩
  · exact ⟨congrArg PC.state b, congrArg PC.disc b⟩

theorem direct_sample {s : State} {im : Image} (i : s.cl.image = some im) (code : BitVec 14) (valid : Bool) :
    direct (.sampleEvent code valid) s = s.takeSample im code valid :=
  State.ifGood_of_some i fun im t => t.takeSample im code valid

theorem LQ.take_index (q : LQ) (h : Nat) (code : BitVec 14) (valid : Bool) : (q.take h code valid).index = q.index + 1 := rfl

/-- Settles O12. -/
theorem sampleIsTakenIntoTheWindow : Obligations.SampleIsTakenIntoTheWindow := by
  refine ⟨fun s im code valid released i inside => ?_, fun s code valid released start => ?_⟩
  · have effect : direct (.sampleEvent code valid) s = { s with lq := s.lq.take im.h code valid } := by
      rw [direct_sample i]
      have : (s.lq.take im.h code valid).index < Config.windowSamples := by
        rw [LQ.take_index]
        exact Nat.succ_lt_succ inside
      exact if_pos this
    have on := reacts_eventEnd (c := .sampleEvent code valid) (by simp) s
    rw [effect] at on
    refine ⟨_, s.lq.take im.h code valid, exec_eq_event released rfl, on, ?_, fun same => ?_⟩
    · have square : ∀ u : Int, ((u.natAbs * u.natAbs : Nat) : Int) = u * u := fun u => by
        rw [Nat.cast_mul, Int.natAbs_mul_self' u]
      have used : s.lq.used code valid = if valid then code.toInt else if s.lq.index = 0 then 0 else s.lq.lastUsed := rfl
      dsimp only
      rw [← used]
      refine ⟨rfl, ?_, rfl, rfl, ?_, ?_, fun low => ?_, fun _ high was => ?_, fun _ high was => ?_, fun low high => ?_, ?_⟩
      · have : (s.lq.take im.h code valid).s2 = s.lq.s2 + (s.lq.used code valid).natAbs * (s.lq.used code valid).natAbs :=
          rfl
        rw [this, Nat.cast_add, square]
      · cases valid <;> rfl
      · cases valid <;> simp [LQ.take, clips, bit]
      · simp [LQ.take, LQ.track, low]
      · have : ¬s.lq.used code valid ≤ -(im.h : Int) := by omega
        simp [LQ.take, LQ.track, this, high, was]
      · have : ¬s.lq.used code valid ≤ -(im.h : Int) := by omega
        simp [LQ.take, LQ.track, this, high, was]
      · have : ¬s.lq.used code valid ≤ -(im.h : Int) := by omega
        simp [LQ.take, LQ.track, this, Int.not_le.mpr high]
      · simp [LQ.take_frame]
    · rw [eventEnd_lq_of_same (by rw [effect]; exact .of_same rfl rfl) same, effect]
  · have on := reacts_eventEnd (c := .sampleEvent code valid) (by simp) s
    have effect : direct (.sampleEvent code valid) s = s := State.ifGood_of_none start fun im t => t.takeSample im code valid
    rw [effect] at on
    exact ⟨_, exec_eq_event released rfl, on⟩

theorem State.windowEnd_reacts (s : State) (im : Image) (q : LQ) :
    State.Reacts { s with lq := q.close im.kq } (s.windowEnd im q) := by
  unfold State.windowEnd
  dsimp only
  refine State.Reacts.trans ?_ (State.Reacts.judgeWindow _ im)
  have advanced : State.Reacts { s with lq := q.close im.kq }
      { s with lq := q.close im.kq, icu := s.icu.advance im.tClear } := by
    refine .beside ?_ rfl rfl rfl rfl
    unfold ICU.advance ICU.stepStreak
    split_ifs <;> rfl
  split_ifs
  · exact advanced.trans (.request _ .sensorFault)
  · exact advanced

/-- The sample of index 2303 ends its window (R4). -/
theorem direct_windowEnd {s : State} {im : Image} {code : BitVec 14} {valid : Bool} (i : s.cl.image = some im)
    (last : s.lq.index = 2303) :
    direct (.sampleEvent code valid) s = s.windowEnd im (s.lq.take im.h code valid) := by
  rw [direct_sample i]
  have : ¬(s.lq.take im.h code valid).index < Config.windowSamples := by
    rw [LQ.take_index, last]
    decide
  exact if_neg this

/-- Settles O13. -/
theorem windowEndReplacesTheResult : Obligations.WindowEndReplacesTheResult := by
  intro s im code valid released i last
  have effect := direct_windowEnd i last (code := code) (valid := valid)
  have on := reacts_eventEnd (c := .sampleEvent code valid) (by simp) s
  rw [effect] at on
  refine ⟨_, exec_eq_event released rfl, (s.windowEnd_reacts im _).trans on, ?_⟩
  have fault : 32 < (s.lq.take im.h code valid).invalid →
      (eventEnd (.sampleEvent code valid) s).al.requested .sensorFault = true := by
    intro many
    refine on.flags _ ?_
    unfold State.windowEnd
    dsimp only
    refine (State.Reacts.judgeWindow _ im).flags _ ?_
    have many : ((s.lq.take im.h code valid).close im.kq).sensorFault = true := by
      simpa [LQ.sensorFault, LQ.close, LQ.resultOf, Config.invalidLimit] using many
    rw [if_pos many]
    exact State.request_self _ _
  have lq : (eventEnd (.sampleEvent code valid) s).lq = (s.lq.take im.h code valid).close im.kq ∨
      (eventEnd (.sampleEvent code valid) s).lq = ((s.lq.take im.h code valid).close im.kq).abandon := by
    have := on.lq
    rwa [State.windowEnd_lq] at this
  have result : (eventEnd (.sampleEvent code valid) s).lq.result = (s.lq.take im.h code valid).resultOf := by
    rcases lq with lq | lq <;> rw [lq] <;> rfl
  have reason : (s.lq.take im.h code valid).resultOf.reason =
      if 0 < (s.lq.take im.h code valid).clipped then .clip
      else if 32 < (s.lq.take im.h code valid).invalid then .samples else .ok := by
    unfold LQ.resultOf reasonOf
    dsimp only
    split_ifs <;> first | rfl | contradiction
  refine ⟨result.trans ?_, ?_, ?_, ?_, ?_, ?_, ?_, ?_, ?_, ?_, ?_, fault⟩
  case refine_1 =>
    have counter : (s.lq.take im.h code valid).resultCounter = s.lq.resultCounter := by simp
    rw [← reason, ← counter]
    rfl
  all_goals rcases lq with lq | lq <;> rw [lq] <;> rfl

end Sys2Proof.Machine
end

section
/-! PROOFS. The start of an attempt (R169, R170), the periods of the odometry and the temperature (R196 to R199). -/

namespace Sys2Proof.Machine

/-! ### The start of an attempt -/

theorem LAU.start_of_idle {l : LAU} (a : Addr) (n : Nat) (h : l.onLine.isSome = true ∨ l.chosen = none) :
    l.start a n = l := by
  unfold LAU.start
  split
  next c line chosen => simp [line, chosen] at h
  next => rfl

theorem LAU.start_of_chosen {l : LAU} {c : Chosen} (a : Addr) (n : Nat) (line : l.onLine = none)
    (chosen : l.chosen = some c) :
    l.start a n = if 16 + accessDelay a c.cls c.fails ≤ n then
      { l.leaveSlot c.frame with
        onLine := some ⟨c.frame, c.fails, c.seq.getD l.seq⟩
        seq := if c.seq.isSome then l.seq else wrapInc 255 l.seq }
      else l := by
  unfold LAU.start
  rw [line, chosen]
  dsimp only
  refine if_congr Iff.rfl ?_ rfl
  obtain ⟨f, fails, seq, cls⟩ := c
  cases seq with
  | none => rfl
  | some m => cases f <;> rfl

theorem LAU.chosen_cls {l : LAU} {c : Chosen} (h : l.chosen = some c) :
    c.cls = match c.frame with | .withdraw _ => 0 | .claim _ => 0 | .status _ => 1 | .record _ => 2 := by
  unfold LAU.chosen at h
  split at h
  case h_5 => cases h
  all_goals
    cases h
    rfl

theorem LAU.leaveSlot_gapT (l : LAU) (f : Frame) :
    (l.leaveSlot f).gapT = match f with | .status _ => Timer.started | _ => l.gapT := by
  cases f <;> rfl

theorem LAU.leaveSlot_rcSlot (l : LAU) (f : Frame) :
    (l.leaveSlot f).rcSlot = match f with | .record _ => none | _ => l.rcSlot := by
  cases f <;> rfl

theorem LAU.leaveSlot_counts (l : LAU) (f : Frame) :
    (l.leaveSlot f).collisions = l.collisions ∧ (l.leaveSlot f).rxErrors = l.rxErrors := by
  cases f <;> exact ⟨rfl, rfl⟩

/-- Settles O55. -/
theorem attemptStartsAfterItsDelay : Obligations.AttemptStartsAfterItsDelay := by
  intro s idle released
  have on := reacts_eventEnd (c := .transmitStart idle) (by simp) s
  have effect : direct (.transmitStart idle) s = { s with lau := s.lau.start s.cl.address idle } := rfl
  rw [effect] at on
  have stays (h : s.lau.start s.cl.address idle = s.lau) :
      ∃ t, exec (.transmitStart idle) s = .next t ∧ State.Reacts s t := by
    rw [h] at on
    exact ⟨_, exec_eq_event released rfl, on⟩
  refine ⟨fun w a => ?_, fun a => ⟨fun c b => ?_, fun b => ⟨fun f c => ?_, fun c => ⟨fun r d => ?_, fun d => ?_⟩⟩⟩,
    fun none => stays (LAU.start_of_idle _ _ none), fun c line chosen => ⟨LAU.chosen_cls chosen, ?_⟩⟩
  · simp [LAU.chosen, a]
  · simp [LAU.chosen, a, b]
  · simp [LAU.chosen, a, b, c]
  · simp [LAU.chosen, a, b, c, d]
  · simp [LAU.chosen, a, b, c, d]
  · have start := LAU.start_of_chosen s.cl.address idle line chosen
    refine ⟨fun short => stays (start.trans (if_neg (by unfold accessDelay; omega))), fun long => ?_⟩
    rw [start, if_pos (by unfold accessDelay; omega)] at on
    refine ⟨_, exec_eq_event released rfl, ?_⟩
    obtain ⟨rc, onLine, seq, errors, collisions, -, -, -, -, -, gap, -⟩ := on.kept_lau
    dsimp only at rc onLine seq errors collisions gap
    rw [rc, onLine, seq, errors, collisions, gap, (s.lau.leaveSlot_counts c.frame).1, (s.lau.leaveSlot_counts c.frame).2,
      LAU.leaveSlot_gapT, LAU.leaveSlot_rcSlot]
    refine ⟨rfl, rfl, fun f e => by rw [e], fun other => ?_, fun f e => by rw [e], fun other => ?_, on.kept_pv, on.kept_ioc, rfl, rfl⟩
    · cases e : c.frame with
      | status f => exact absurd e (other f)
      | _ => rfl
    · cases e : c.frame with
      | record f => exact absurd e (other f)
      | _ => rfl

/-! ### Odometry and temperature -/

theorem State.Reacts.ccDirection (s : State) (im : Image) : s.Reacts (s.ccDirection im) := by
  unfold State.ccDirection
  dsimp only
  split
  · exact .cc _ _
  · exact .cc _ _
  · exact (State.Reacts.cc s _).trans (.returnToNormal _ im)
  · exact (State.Reacts.cc s _).trans (.abort _)

theorem State.Reacts.setView (s : State) (d : Direction) :
    State.Reacts { s with ioc := { s.ioc with view := d } } (s.setView d) := by
  unfold State.setView
  split_ifs with same
  · subst same
    exact .refl _
  · exact .ifGood _ _ fun im t => .ccDirection t im

/-- Settles O58. -/
theorem odometryPeriodsAndTemperature : Obligations.OdometryPeriodsAndTemperature := by
  refine ⟨fun s released => ?_, fun s n released timer => ?_, fun s r released => ?_⟩
  · exact ⟨_, exec_eq_event released rfl, reacts_eventEnd (c := .bucketClose) (by simp) s⟩
  · have on := reacts_eventEnd (c := .stationaryTimerExpiry) (by simp) s
    refine ⟨_, exec_eq_event released rfl, fun long => ?_, fun short => ?_⟩
    · have effect : direct .stationaryTimerExpiry s = s.becomeStationary :=
        if_pos (by rw [timer]; exact decide_eq_true long)
      rw [effect] at on
      exact (State.Reacts.setView { s with ioc := { s.ioc with stationary := true, stationaryT := none } } _).trans on
    · have effect : direct .stationaryTimerExpiry s = s :=
        if_neg (by rw [timer]; exact fun h => Nat.not_le.mpr short (of_decide_eq_true h))
      rw [effect] at on
      exact on
  · have on := reacts_eventEnd (c := .ambientConversion r) (by simp) s
    have effect : direct (.ambientConversion r) s = s.convert r := rfl
    have valid : validReading r = decide (-100 ≤ r ∧ r ≤ 160) := by
      rw [Bool.decide_and]
      rfl
    refine ⟨_, exec_eq_event released rfl, ?_, fun bad fresh => on.flags _ ?_⟩
    · refine State.Reacts.trans ?_ on
      rw [effect, State.convert, valid]
      by_cases ok : -100 ≤ r ∧ r ≤ 160
      · simp only [ok, and_self, decide_true, if_true, not_true, decide_false]
        exact .refl _
      · simp only [ok, if_false, decide_false, not_false_eq_true, decide_true, Bool.false_eq_true]
        split_ifs
        · exact .refl _
        · exact .request _ _
    · rw [effect, State.convert, valid]
      simp [bad, fresh]

end Sys2Proof.Machine
end

section
/-! PROOFS. The passing of a millisecond (log 2): which expiries it queues. -/

namespace Sys2Proof.Machine

theorem mem_dueCommand {b : Bool} {c x : Instr} : x ∈ dueCommand b c ↔ b = true ∧ x = c := by
  unfold dueCommand
  split_ifs with h <;> simp [h]

theorem due_older {t : Timer} {limit : Nat} : due (older t) limit = true ↔ DueNext t limit := by
  cases t <;> simp [due, older, DueNext]

theorem Silence.due_older {x : Silence} {limit : Nat} :
    x.older.due limit = true ↔ ∃ n, x = .running n ∧ limit ≤ n + 1 := by
  cases x <;> simp [Silence.due, Silence.older]

theorem Entry.older_frame (e : Entry) :
    e.older.addr = e.addr ∧ e.older.state = e.state ∧ e.older.age = e.age + 1 ∧
      e.older.lostAge = Machine.older e.lostAge ∧ (∀ im, e.older.windowMs im = e.windowMs im) ∧
      ∀ im, e.older.lostMs im = e.lostMs im := by
  obtain ⟨_, _, _, _, _, r | k⟩ := e <;> exact ⟨rfl, rfl, rfl, rfl, fun _ => rfl, fun _ => rfl⟩

theorem Entry.older_windowOver {e : Entry} {im : Image} :
    e.older.windowOver im = true ↔ e.state = .learning ∧ e.windowMs im ≤ e.age + 1 := by
  obtain ⟨-, state, age, -, window, -⟩ := e.older_frame
  simp [Entry.windowOver, state, age, window]

theorem Entry.older_lostOver {e : Entry} {im : Image} :
    e.older.lostOver im = true ↔ e.state = .valid ∧ e.lostMs im ≤ e.age + 1 := by
  obtain ⟨-, state, age, -, -, lost⟩ := e.older_frame
  simp [Entry.lostOver, state, age, lost]

theorem Entry.older_holdOver {e : Entry} : e.older.holdOver = true ↔ e.state = .lost ∧ DueNext e.lostAge 2000 := by
  obtain ⟨-, state, -, lostAge, -⟩ := e.older_frame
  simp [Entry.holdOver, state, lostAge, due_older, Config.lostHoldMs]

theorem Entry.older_claimOver {e : Entry} :
    e.older.claimOver = true ↔ ∃ r c, e.body = .roof r ∧ r.claim = some c ∧ c.holdOff + 500 < c.age + 1 := by
  obtain ⟨_, _, _, _, _, r | k⟩ := e
  · cases h : r.claim <;> simp [Entry.claimOver, Entry.older, Entry.mapRoof, Config.claimGraceMs, h]
  · simp [Entry.claimOver, Entry.older, Entry.mapRoof]

theorem Entry.older_eq (e : Entry) :
    e.older = { e with
      age := e.age + 1, lostAge := e.lostAge.map (· + 1)
      body := match e.body with
        | .roof r => .roof { r with claim := r.claim.map fun c => { c with age := c.age + 1 } }
        | .control k => .control k } := by
  obtain ⟨_, _, _, _, _, r | k⟩ := e <;> rfl

theorem Silence.older_eq (x : Silence) :
    x.older = match x with | .running n => .running (n + 1) | x => x := by
  cases x <;> rfl

theorem exists_mem_older {s : State} {a : Addr} {P : Entry → Bool} {Q : Entry → Prop}
    (h : ∀ e : Entry, P e.older = true ↔ Q e) :
    (∃ e ∈ s.older.pv.table, P e = true ∧ a = e.addr) ↔ ∃ e ∈ s.pv.table, e.addr = a ∧ Q e := by
  have table : s.older.pv.table = s.pv.table.map Entry.older := rfl
  rw [table]
  constructor
  · rintro ⟨_, mem, past, same⟩
    obtain ⟨e, mem', rfl⟩ := List.mem_map.mp mem
    exact ⟨e, mem', (same.trans e.older_frame.1).symm, (h e).mp past⟩
  · rintro ⟨e, mem, same, past⟩
    exact ⟨e.older, List.mem_map_of_mem mem, (h e).mpr past, (e.older_frame.1.trans same).symm⟩

/-- A millisecond on a good configuration queues what is due always and what is due by the image. -/
theorem mem_tick_pending {s : State} {im : Image} (released : s.released = true) (i : s.cl.image = some im)
    (empty : s.pending = []) (c : Instr) :
    c ∈ s.tick.pending ↔ c ∈ s.older.dueAlways ∨ c ∈ s.older.dueGood im := by
  have i' : s.older.cl.image = some im := i
  simp [State.tick, released, empty, State.dueCommands, i']

/-- The expiry has reached its limit. -/
def State.expires (s : State) (im : Image) : Instr → Prop
  | .configRetryTimerExpiry => due s.cl.retryT Config.configRetryMs = true
  | .rampTick => Config.rampMs ≤ s.rampClock
  | .raiseTimerExpiry p => due (s.pc p).raiseT (im.tRaise * 1000) = true
  | .lowerTimerExpiry p => due (s.pc p).lowerT (im.tLower * 1000) = true
  | .heightTimerExpiry p => due (s.pc p).heightT Config.heightMs = true
  | .graceTimerExpiry p => due (s.au.grace p) (3 * im.tsMs) = true
  | .reTestTimerExpiry => due s.au.retestT Config.retestMs = true
  | .retryHoldEnd => due s.au.retryT Config.retestMs = true
  | .errorPeriodEnd => Config.errorPeriodMs ≤ s.lau.periodClock
  | .statusCountdownExpiry => due s.lau.statusT s.statusMs = true
  | .statusGapEnd => due s.lau.gapT Config.statusGapMs = true
  | .bucketClose => Config.bucketMs ≤ s.ioc.bucketClock
  | .stationaryTimerExpiry => due s.ioc.stationaryT Config.stationaryMs = true
  | .openConfirmTimerExpiry => due s.bi.openConfirm im.tBrk = true
  | .silenceTimerExpiry => s.pv.silence.due im.tctlMs = true
  | .learningPeriodEnd => due s.pv.learningT (3 * im.tsMs) = true
  | .holdOffExpiry => due s.au.holdOffT im.thMs = true
  | .requalifyTimerExpiry => due s.cc.rqTimer (im.tRq * 1000) = true
  | .restoreTimerExpiry => due s.ds.restoreT im.restoreMs = true
  | .learningEntryRemoval a => ∃ e ∈ s.pv.table, e.windowOver im = true ∧ a = e.addr
  | .entryLost a => ∃ e ∈ s.pv.table, e.lostOver im = true ∧ a = e.addr
  | .lostHoldEnd a => ∃ e ∈ s.pv.table, e.holdOver = true ∧ a = e.addr
  | .heardClaimAgeOut a => ∃ e ∈ s.pv.table, e.claimOver = true ∧ a = e.addr
  | _ => False

theorem mem_dueCommand_self {b : Bool} {c : Instr} (h : b = true) : c ∈ dueCommand b c := mem_dueCommand.mpr ⟨h, rfl⟩

theorem forall_mem_dueCommand {P : Instr → Prop} {b : Bool} {c : Instr} :
    (∀ x ∈ dueCommand b c, P x) ↔ (b = true → P c) := by
  simp only [mem_dueCommand]
  exact ⟨fun h on => h c ⟨on, rfl⟩, fun h x k => k.2 ▸ h k.1⟩

theorem State.expires_of_due {s : State} {im : Image} {c : Instr} (h : c ∈ s.dueAlways ∨ c ∈ s.dueGood im) :
    s.expires im c := by
  have always : ∀ x ∈ s.dueAlways, s.expires im x := by
    simp only [State.dueAlways, List.forall_mem_append, forall_mem_dueCommand, decide_eq_true_eq]
    and_intros <;> exact id
  have entries : ∀ x ∈ s.pv.table.flatMap fun e => e.due im, s.expires im x := by
    simp only [List.mem_flatMap, forall_exists_index, and_imp]
    intro x e mem due
    revert x
    simp only [Entry.due, List.forall_mem_append, forall_mem_dueCommand]
    and_intros <;> exact fun on => ⟨e, mem, on, rfl⟩
  have good : ∀ x ∈ s.dueGood im, s.expires im x := by
    simp only [State.dueGood, List.forall_mem_append, forall_mem_dueCommand]
    and_intros
    case refine_1.refine_1.refine_1.refine_1.refine_1.refine_1.refine_1.refine_2 => exact entries
    all_goals exact id
  exact h.elim (always c) (good c)

theorem State.due_of_expires {s : State} {im : Image} {c : Instr} (h : s.expires im c) :
    c ∈ s.dueAlways ∨ c ∈ s.dueGood im := by
  have entry : ∀ e ∈ s.pv.table, ∀ x ∈ e.due im, x ∈ s.dueGood im := fun e mem x due => by
    have all : x ∈ s.pv.table.flatMap fun e => e.due im := List.mem_flatMap.mpr ⟨e, mem, due⟩
    unfold State.dueGood
    simp only [List.mem_append, all, or_true, true_or]
  cases c
  case rampTick | errorPeriodEnd | bucketClose =>
    left
    unfold State.dueAlways
    repeat first
      | exact List.mem_append_right _ (mem_dueCommand_self (decide_eq_true h))
      | refine List.mem_append_left _ ?_
  case configRetryTimerExpiry | reTestTimerExpiry | retryHoldEnd | statusCountdownExpiry | statusGapEnd |
      stationaryTimerExpiry =>
    left
    unfold State.dueAlways
    repeat first
      | (refine List.mem_append_right _ (mem_dueCommand_self ?_); exact h)
      | refine List.mem_append_left _ ?_
      | (refine mem_dueCommand_self ?_; exact h)
  case heightTimerExpiry p =>
    left
    unfold State.dueAlways
    cases p
    all_goals
      repeat first
        | (refine List.mem_append_right _ (mem_dueCommand_self ?_); exact h)
        | refine List.mem_append_left _ ?_
  case openConfirmTimerExpiry | silenceTimerExpiry | learningPeriodEnd | holdOffExpiry | requalifyTimerExpiry |
      restoreTimerExpiry =>
    right
    unfold State.dueGood
    repeat first
      | (refine List.mem_append_right _ (mem_dueCommand_self ?_); exact h)
      | refine List.mem_append_left _ ?_
      | (refine mem_dueCommand_self ?_; exact h)
  case raiseTimerExpiry p | lowerTimerExpiry p | graceTimerExpiry p =>
    right
    unfold State.dueGood
    cases p
    all_goals
      repeat first
        | (refine List.mem_append_right _ (mem_dueCommand_self ?_); exact h)
        | refine List.mem_append_left _ ?_
  case learningEntryRemoval | entryLost | lostHoldEnd | heardClaimAgeOut =>
    obtain ⟨e, mem, h, rfl⟩ := h
    refine .inr (entry e mem _ ?_)
    unfold Entry.due
    repeat first
      | (refine List.mem_append_right _ (mem_dueCommand_self ?_); exact h)
      | refine List.mem_append_left _ ?_
      | (refine mem_dueCommand_self ?_; exact h)
  all_goals exact h.elim

theorem mem_due_iff {s : State} {im : Image} {c : Instr} : c ∈ s.dueAlways ∨ c ∈ s.dueGood im ↔ s.expires im c :=
  ⟨State.expires_of_due, State.due_of_expires⟩

/-- Settles O2. -/
theorem emptyQueueQueuesDueExpiries : Obligations.EmptyQueueQueuesDueExpiries := by
  intro s im released i empty
  have mem : ∀ c, c ∈ s.tick.pending ↔ s.older.expires im c := fun c =>
    (mem_tick_pending released i empty c).trans mem_due_iff
  have statusMs : s.older.statusMs = im.ts * 10 := by
    show State.statusMs _ = _
    unfold State.statusMs
    rw [show s.older.cl.image = some im from i]
    rfl
  refine ⟨s.tick, by simp [step, empty], ?_, ?_, ?_, ?_⟩
  · have table : s.pv.table.map Entry.older = s.pv.table.map fun e => { e with
        age := e.age + 1, lostAge := e.lostAge.map (· + 1)
        body := match e.body with
          | .roof r => .roof { r with claim := r.claim.map fun c => { c with age := c.age + 1 } }
          | .control k => .control k } := List.map_congr_left fun e _ => e.older_eq
    simp only [State.tick, released, if_true, State.older, table, Silence.older_eq]
    rfl
  · intro p
    refine ⟨(mem _).trans ?_, (mem _).trans ?_, (mem _).trans ?_, (mem _).trans ?_⟩ <;> cases p <;> exact due_older
  · intro a
    refine ⟨(mem _).trans (exists_mem_older fun e => Entry.older_windowOver),
      (mem _).trans (exists_mem_older fun e => Entry.older_lostOver),
      (mem _).trans (exists_mem_older fun e => Entry.older_holdOver),
      (mem _).trans ((exists_mem_older fun e => Entry.older_claimOver).trans ?_)⟩
    simp only [exists_and_left]
  · have status : s.older.expires im .statusCountdownExpiry ↔ DueNext s.lau.statusT (im.ts * 10) := by
      change due s.older.lau.statusT s.older.statusMs = true ↔ _
      rw [statusMs]
      exact due_older
    exact ⟨mem _, (mem _).trans due_older, (mem _).trans Silence.due_older,
      (mem _).trans due_older, (mem _).trans due_older, (mem _).trans due_older, (mem _).trans due_older,
      (mem _).trans due_older, (mem _).trans due_older, (mem _).trans status, (mem _).trans due_older,
      mem _, mem _, (mem _).trans due_older, (mem _).trans due_older⟩

end Sys2Proof.Machine
end

section
/-! PROOFS. The release of a reset (R192, R198, R201), whose event asks no reaction, and the state of the reset. -/

namespace Sys2Proof.Machine

/-- Before the configuration is good: both controllers isolated and at rest, DOWN or LOWERING above a negated DOWN sensor. -/
structure State.AtRest (s : State) : Prop where
  start : s.cl.image = none
  still : ∀ p, (s.pc p).state = .down ∨ (s.pc p).state = .lowering ∧ s.downSensor p = false
  isolated : ∀ p, (s.pc p).disc = false

theorem State.AtRest.notRaised {s : State} (h : s.AtRest) (p : Pan) : (s.pc p).risingOrUp = false := by
  rcases h.still p with state | ⟨state, -⟩ <;> simp [PC.risingOrUp, state]

theorem State.AtRest.sense {s : State} (h : s.AtRest) (p : Pan) : s.sense p = s := by
  rcases h.still p with state | ⟨state, off⟩ <;> simp [State.sense, *]

theorem State.AtRest.advancePan {s : State} (h : s.AtRest) (p : Pan) : s.advancePan p = s := by
  simp [State.advancePan, PC.advance, h.notRaised]

theorem State.AtRest.watchIsolated {s : State} (h : s.AtRest) (p : Pan) : s.watchIsolated p = s := by
  simp [State.watchIsolated, h.notRaised]

theorem State.AtRest.pantographs {s : State} (h : s.AtRest) : s.pantographs = s := by
  simp [State.pantographs, h.sense, h.advancePan, h.watchIsolated]

theorem State.AtRest.wiring {s ref : State} (h : s.AtRest) (i : ∀ p, (ref.pc p).disc = false) : ref.wiring s = s := by
  have a := h.isolated .a
  have b := h.isolated .b
  have a' := i .a
  have b' := i .b
  simp only [State.pc_a, State.pc_b] at a b a' b'
  simp [State.wiring, State.takeArcPan, wiringChanged, PC.upCollecting, a, b, a', b']

theorem State.AtRest.others {s : State} (h : s.AtRest) : s.others = s := by
  simp [State.others, State.ifGood, h.start]

/-- Rounds of reactions leave a part at rest. -/
theorem State.AtRest.settle {s ref : State} (h : s.AtRest) (i : ∀ p, (ref.pc p).disc = false) (n : Nat) :
    settle n ref s = s := by
  induction n generalizing ref with
  | zero => rfl
  | succ n ih =>
    have round : ref.round s = (s, s) := by simp [State.round, h.pantographs, h.wiring i, h.others]
    simp only [Machine.settle, round]
    exact ih h.isolated

theorem State.AtRest.guard {s : State} (h : s.AtRest) : s.guard = s.formTargets := by
  simp [State.guard, h.watchIsolated, State.ifGood, h.start]

theorem formTargets_of_start {s : State} (start : s.cl.image = none) (a : s.pcA.target = 0) (b : s.pcB.target = 0) :
    s.formTargets = s := by
  have fa : s.forceTarget .a = s.pcA.target := by simp [State.forceTarget, start, a]
  have fb : s.forceTarget .b = s.pcB.target := by simp [State.forceTarget, start, b]
  rw [State.formTargets, fa, fb]

/-- The end of an event of a part at rest forms the permit, the open-confirm timer, the alerts and the STATUS alone. -/
theorem State.AtRest.finish {s before : State} (h : s.AtRest) (a : s.pcA.target = 0) (b : s.pcB.target = 0)
    (test ask : Bool) :
    finish before test ask s = before.report ask (before.formOpenConfirm s.formPermit).formAlerts := by
  unfold Machine.finish
  simp [h.guard, formTargets_of_start h.start a b, State.formHeatWant, State.admission, State.ifGood, h.start]

/-- The part after the direct effect of the release. -/
def State.started (cause : ResetCause) (queue : List Instr) (pins : Levels) (straps : Addr) : State :=
  { State.held cause with
    released := true, pending := queue
    cl := { CL.reset with address := straps, cause := cause.restart, read := .started }
    ioc := { IOC.reset with
      levels := logical .negated pins, runs := .zero, view := directionOf pins.dir, stationaryT := .started }
    pcA := PC.reset pins.downA, pcB := PC.reset pins.downB
    bi := { BI.reset with closed := pins.brkFb } }

theorem logical_negated (pins : Levels) : logical .negated pins = pins := by simp [logical, Levels.negated]

theorem PC.reset_zeroForce (down : Bool) : (PC.reset down).zeroForce = PC.reset down := rfl

theorem State.fastDrop_of_reset {s : State} {p : Pan} {down : Bool} (h : s.pc p = PC.reset down) : s.fastDrop p = s := by
  have self : s.setPc p (PC.reset down) = s := h ▸ s.setPc_self p
  have low : (PC.reset down).risingOrUp = false := by cases down <;> rfl
  unfold State.fastDrop
  simp only [h, low, PC.reset_zeroForce, self]
  simp

/-- What the direct effect of the release is. -/
theorem release_held (cause : ResetCause) (queue : List Instr) (pins : Levels) (straps : Addr) :
    ({ State.held cause with pending := queue } : State).release pins straps =
      if pins.eloop then State.started cause queue pins straps
      else (((State.started cause queue pins straps).setCause .emergency true).setLatch .emergency).request .emergency := by
  show (State.started cause queue pins straps).releaseLoop = _
  have loop : (State.started cause queue pins straps).eloopOpen = !pins.eloop := by
    simp [State.eloopOpen, State.started, logical_negated]
  have first : ((State.started cause queue pins straps).setCause .emergency true).latchEmergency =
      ((State.started cause queue pins straps).setCause .emergency true).setLatch .emergency := by
    have a := State.fastDrop_of_reset (s := (State.started cause queue pins straps).setCause .emergency true)
      (p := .a) (down := pins.downA) rfl
    have b := State.fastDrop_of_reset (s := (State.started cause queue pins straps).setCause .emergency true)
      (p := .b) (down := pins.downB) rfl
    rw [State.latchEmergency, a, b]
    rfl
  rw [State.releaseLoop, loop, State.eloopOpens, first]
  cases pins.eloop <;> rfl

theorem State.started_atRest (cause : ResetCause) (queue : List Instr) (pins : Levels) (straps : Addr) :
    (State.started cause queue pins straps).AtRest where
  start := rfl
  still p := by
    cases p
    · cases h : pins.downA <;> simp [State.started, PC.reset, State.downSensor, logical_negated, h]
    · cases h : pins.downB <;> simp [State.started, PC.reset, State.downSensor, logical_negated, h]
  isolated p := by cases p <;> rfl

theorem report_of_reset {u : State} (h : u.lau = LAU.reset) (before : State) (ask : Bool) : before.report ask u = u := by
  have none : u.lau.statusT.isNone = true := by rw [h]; rfl
  unfold State.report State.askStatus
  simp [none]

/-- Settles O5. -/
theorem releaseTakesPinsAndStraps : Obligations.ReleaseTakesPinsAndStraps := by
  intro cause queue pins straps
  obtain ⟨d, direct', rest, frames⟩ : ∃ d : State,
      direct (.resetRelease pins straps) { State.held cause with pending := queue } = d ∧ d.AtRest ∧
      d.released = true ∧ d.pending = queue ∧ d.cl = { CL.reset with address := straps, cause := cause.restart, read := .started } ∧
      d.ioc = { IOC.reset with
        levels := pins, view := directionOf pins.dir, stationaryT := .started } ∧
      d.pcA = PC.reset pins.downA ∧ d.pcB = PC.reset pins.downB ∧
      d.bi = ⟨⟨false, false, false, !pins.eloop, true⟩, false, pins.brkFb, none, false⟩ ∧
      d.ds.latch = { DropSet.empty with emergency := !pins.eloop } ∧
      d.al.requested .emergency = !pins.eloop ∧
      d.lq = LQ.reset ∧ d.pv = PV.reset ∧ d.cc = CC.reset ∧ d.au = AU.reset ∧ d.icu = ICU.reset ∧ d.lau = LAU.reset := by
    have rest := State.started_atRest cause queue pins straps
    refine ⟨_, release_held cause queue pins straps, ?_⟩
    cases loop : pins.eloop
    · simp only [Bool.false_eq_true, if_false]
      refine ⟨⟨rest.start, rest.still, rest.isolated⟩, rfl, rfl, rfl, ?_, rfl, rfl, rfl, rfl, ?_, rfl, rfl, rfl, rfl, rfl, rfl⟩
      · simp [State.started, logical_negated]
        rfl
      · simp
    · simp only [if_true]
      refine ⟨rest, rfl, rfl, rfl, ?_, rfl, rfl, rfl, rfl, ?_, rfl, rfl, rfl, rfl, rfl, rfl⟩
      · simp [State.started, logical_negated]
        rfl
      · exact show AL.reset.requested .emergency = false by decide
  obtain ⟨released, pending, cl, ioc, a, b, bi, latch, request, lq, pv, cc, au, icu, lau⟩ := frames
  have quiet (before : State) (h : ∀ p, (before.pc p).disc = false) (test ask : Bool) :
      finish before test ask (settle rounds before d) = (before.formOpenConfirm d.formPermit).formAlerts := by
    rw [rest.settle h, rest.finish (by rw [a]; rfl) (by rw [b]; rfl)]
    exact report_of_reset (u := (before.formOpenConfirm d.formPermit).formAlerts) lau _ _
  have permit : d.permitGiven = false := by simp [State.permitGiven, State.readyToClose, rest.start]
  have good : d.formPermit.closedWithoutPermit = false := by
    simp [State.closedWithoutPermit, State.good, State.formPermit, rest.start]
  refine ⟨_, exec_release rfl pins straps, ?_⟩
  rw [eventEnd, settled_eq (by simp), direct', quiet _ (by intro p; cases p <;> rfl), State.formOpenConfirm, good]
  refine ⟨released, pending, congrArg CL.address cl, congrArg CL.image cl, congrArg CL.read cl, ?_, ioc, fun p => ?_, ?_,
    latch, request, lq, pv, cc, au, icu⟩
  · refine (congrArg CL.cause cl).trans ?_
    cases cause <;> rfl
  · have pc : d.pc p = PC.reset (levelOf pins (match p with | .a => .downA | .b => .downB)) := by
      cases p
      · exact a
      · exact b
    exact ⟨congrArg PC.state pc, congrArg PC.valve pc, congrArg PC.disc pc, congrArg PC.fset pc, congrArg PC.duty pc,
      congrArg PC.lowerT pc⟩
  · simp [State.formAlerts, State.formPermit, permit, bi]

/-! ### The state of a reset -/

theorem LQ.reset_inRange : LQ.reset.InRange := by constructor <;> decide

theorem LQ.reset_tracked : LQ.reset.Tracked where
  index := by decide
  none _ := ⟨rfl, rfl⟩
  some h := absurd h (by decide)
  neg h := by cases h

theorem State.held_permitLaw (cause : ResetCause) : (State.held cause).PermitLaw :=
  ⟨(by cases ·), fun h => nomatch h.holdOpen⟩

theorem State.held_tableLaw (cause : ResetCause) : (State.held cause).TableLaw where
  rising := .nil
  notOwn e h := by cases h
  held _ := rfl

theorem State.held_holdOpenLaw (cause : ResetCause) : (State.held cause).HoldOpenLaw where
  lowered p _ h := by cases p <;> cases h
  down p _ _ := by cases p <;> rfl
  fault p _ h _ := by cases p <;> cases h
  member p _ h := by cases p <;> cases h
  cc := by cases cause <;> decide
  ds := by cases cause <;> decide
  cl := ⟨fun _ => rfl, fun _ => rfl⟩
  loader h := by cases h

theorem State.held_phaseLaw (cause : ResetCause) : (State.held cause).PhaseLaw where
  start _ := rfl
  rest _ := rfl
  normal _ := rfl
  executing h := absurd rfl h
  armed h := by cases h
  opening h := by cases h
  stowing h := by cases h
  busy h := by cases h
  coasting h := by cases h
  ended h := by rcases h with h | h <;> cases h
  asked _ := ⟨rfl, rfl⟩
  raise h := by cases h
  closing h := by cases h
  waits h := by cases h

theorem State.held_iceLaw (cause : ResetCause) : (State.held cause).IceLaw where
  off im h := by cases h
  suspended im h := by cases h
  watch im h := by cases h
  clearing im h := by cases h
  sum := rfl
  severe im h := by cases h
  streak _ := rfl
  limit := Nat.zero_le _

theorem State.held_counterLaw (cause : ResetCause) : (State.held cause).CounterLaw where
  result := Nat.zero_le _
  candidate := Nat.zero_le _
  unknown := Nat.zero_le _
  dead := Nat.zero_le _
  missed := Nat.zero_le _
  rxErrors := Nat.zero_le _
  collisions := Nat.zero_le _
  txDrops := Nat.zero_le _
  period := Nat.zero_le _
  sequence := Nat.zero_le _
  serial := Nat.zero_le _
  arcs := Nat.zero_le _
  windowA := Nat.zero_le _
  windowB := Nat.zero_le _
  ringA := by cases cause <;> decide
  ringB := by cases cause <;> decide
  distance := Nat.zero_le _
  remainder := rfl
  requalify := Nat.zero_le _
  runs i := by cases cause <;> cases i <;> decide
  waiting := ⟨fun _ h => by (cases h), fun _ h => by (cases h), fun _ h => by (cases h), fun _ h => by (cases h)⟩
  attempt _ h := by cases h

theorem State.reset_causeLaw : State.reset.CauseLaw where
  emergency h := by cases h
  forced := rfl
  forcedLatch := rfl
  wrong im h := by cases h
  silent h := by cases h
  lost im h := by cases h
  severe h := by cases h

theorem State.held_restoreLaw (cause : ResetCause) : (State.held cause).RestoreLaw := by
  constructor
  · intro h
    cases h
  · intro h
    obtain ⟨im, i, -⟩ := h.auto
    cases i

theorem PC.reset_table {down : Bool} : (PC.reset down).Table where
  valve := by cases down <;> rfl
  target _ := rfl
  rest _ := ⟨rfl, rfl⟩

theorem State.held_outputTable (cause : ResetCause) : (State.held cause).OutputTable :=
  ⟨PC.reset_table, PC.reset_table, fun im h => (nomatch h), fun _ p => by cases p <;> rfl⟩

/-- Settles O60. -/
theorem resetMeetsEveryLaw : Obligations.ResetMeetsEveryLaw := by
  refine ⟨fun _ => rfl, State.held_outputTable _, (nomatch ·.1), fun p _ up => (by cases p <;> cases up), State.held_permitLaw _,
    State.held_holdOpenLaw _, ⟨(nomatch ·), (nomatch ·)⟩, State.held_tableLaw _, rfl, ?_, ?_, ?_, ?_,
    State.held_phaseLaw _, ⟨rfl, rfl, rfl⟩, State.held_iceLaw _, State.reset_causeLaw, State.held_restoreLaw _,
    fun im h => (nomatch h), LQ.reset_inRange, LQ.reset_tracked, State.held_counterLaw _⟩
  · exact ⟨rfl, (by decide), fun b h => (nomatch h), fun w h => nomatch h⟩
  · exact fun p => ⟨fun h => (by cases p <;> cases h), fun ⟨im, i, _⟩ => nomatch i⟩
  · exact ⟨fun im h => (nomatch h), fun im h => (nomatch h), fun im h => nomatch h⟩
  · exact ⟨rfl, rfl⟩

end Sys2Proof.Machine
end

section
/-! PROOFS. The elementary turns of a controller and its hold-open entry (R32 to R44), and the chains of them that the
operations of the part make. -/

namespace Sys2Proof.Machine

/-! ### Turns -/

/-- One turn of a controller with its hold-open entry. -/
inductive Turn : PC × Bool → PC × Bool → Prop
  | wait (c : PC) (h : Bool) (up : c.risingOrUp = true) (l : c.lowering = none) (d : c.disc = true) :
    Turn (c, h) ({ c with lowering := some .softWait, raiseT := none }, true)
  | ramp (c : PC) (h : Bool) (up : c.risingOrUp = true) (l : c.lowering.isSome = true) :
    Turn (c, h) ({ c with lowering := some .softRamp }, h)
  | vent (c : PC) (h : Bool) (up : c.risingOrUp = true) (l : c.disc = false ∨ c.lowering.isSome = true) :
    Turn (c, h) (c.vent, h)
  | drop (c : PC) (h : Bool) (up : c.risingOrUp = true) : Turn (c, h) (c.vent.zeroForce, h || c.disc)
  | zero (c : PC) (h : Bool) (low : c.state = .lowering) : Turn (c, h) (c.zeroForce, h)
  | cause (c : PC) (h : Bool) (k : Option FaultCause) : Turn (c, h) ({ c with pendingFault := k }, h)
  | arrive (c : PC) (h : Bool) (rising : c.state = .rising) :
    Turn (c, h) ({ c with state := .up, raiseT := none }, h)
  | fault (c : PC) (h : Bool) (down : Bool) (k : FaultCause) :
    Turn (c, h) (c.faultedBy down k, !down && (h || c.disc))
  | rest (c : PC) (h : Bool) (low : c.state = .lowering) :
    Turn (c, h) ({ c.zeroForce with state := .down, lowerT := none }, false)
  | off (c : PC) (h : Bool) (fault : c.state = .fault) : Turn (c, h) ({ c with disc := false }, false)
  | target (c : PC) (h : Bool) (n : Nat) : Turn (c, h) ({ c with target := n }, h)
  | times (c : PC) (h : Bool) (a b d : Timer) : Turn (c, h) ({ c with raiseT := a, lowerT := b, heightT := d }, h)
  | raise (c : PC) (h : Bool) (b : Bool) (down : c.state = .down) : Turn (c, h) (c.raisedIn b, h)

/-- A controller of a state with its hold-open entry. -/
def State.panel (s : State) (p : Pan) : PC × Bool := (s.pc p, s.bi.hold.pan p)

/-- Both controllers and their hold-open entries go on by turns. -/
def Turns (s t : State) : Prop := ∀ p, Relation.ReflTransGen Turn (s.panel p) (t.panel p)

theorem Turns.refl (s : State) : Turns s s := fun _ => .refl

theorem Turns.trans {s t u : State} (h : Turns s t) (k : Turns t u) : Turns s u := fun p => (h p).trans (k p)

theorem Turns.ite {s t u : State} {q : Prop} [Decidable q] (h : Turns s t) (k : Turns s u) :
    Turns s (if q then t else u) := by
  split_ifs
  · exact h
  · exact k

theorem Turns.of_same {s t : State} (pc : ∀ p, t.pc p = s.pc p) (hold : ∀ p, t.bi.hold.pan p = s.bi.hold.pan p) :
    Turns s t := by
  intro p
  rw [State.panel, State.panel, pc, hold]

theorem Turns.of_fields {s t : State} (a : t.pcA = s.pcA) (b : t.pcB = s.pcB) (c : t.bi.hold.pcA = s.bi.hold.pcA)
    (d : t.bi.hold.pcB = s.bi.hold.pcB) : Turns s t :=
  .of_same (fun p => by cases p <;> assumption) fun p => by cases p <;> assumption

/-- A change of one controller and its entry. -/
theorem Turns.at {s t : State} (p : Pan) (one : Relation.ReflTransGen Turn (s.panel p) (t.panel p))
    (pc : ∀ q, q ≠ p → t.pc q = s.pc q) (hold : ∀ q, q ≠ p → t.bi.hold.pan q = s.bi.hold.pan q) : Turns s t := by
  intro q
  by_cases e : q = p
  · exact e ▸ one
  · rw [State.panel, State.panel, pc q e, hold q e]

/-- A law of a controller and its entry that every turn keeps. -/
theorem Turns.keeps {Law : PC × Bool → Prop} (each : ∀ x y, Turn x y → Law x → Law y) {s t : State} (h : Turns s t) {p : Pan}
    (law : Law (s.panel p)) : Law (t.panel p) := by
  have chain := h p
  generalize t.panel p = y at chain ⊢
  induction chain with
  | refl => exact law
  | tail _ k ih => exact each _ _ k ih

/-! ### The operations on a pantograph -/

theorem PC.advance_turn (c : PC) (h closed : Bool) : Relation.ReflTransGen Turn (c, h) (c.advance closed, h) := by
  rcases c.advance_cases closed with e | ⟨-, up, l, -, e⟩ | ⟨-, up, l, -, e⟩
  · rw [e]
  · rw [e]; exact .single (.ramp c h up (by simp [l]))
  · rw [e]; exact .single (.vent c h up (.inr l))

theorem turns_advancePan (s : State) (p : Pan) : Turns s (s.advancePan p) := by
  refine .at p ?_ (fun q e => s.advancePan_pc_ne e) fun q _ => s.advancePan_hold p q
  rw [State.panel, State.panel, s.advancePan_pc, s.advancePan_hold]
  exact PC.advance_turn _ _ _

theorem turns_softLower (s : State) (p : Pan) : Turns s (s.softLower p) := by
  refine .at p ?_ (fun q e => s.softLower_pc_ne e) fun q e => s.softLower_hold_ne e
  rw [State.panel, State.panel, s.softLower_pc, s.softLower_hold]
  cases acts : s.acts p
  · simp only [Bool.false_and, Bool.or_false]
    exact .refl
  simp only [if_true, Bool.true_and]
  generalize s.pc p = c
  generalize s.bi.hold.pan p = h
  rcases c.softLowered_cases s.bi.closed with ⟨k, e⟩ | ⟨up, l, ⟨d, e⟩ | ⟨d, -, e⟩ | ⟨d, -, -, e⟩ | ⟨d, -, f, e⟩⟩
  · have : (h || (c.risingOrUp && c.lowering.isNone && c.disc)) = h := by
      rcases k with k | k <;> simp [k, Option.isSome_iff_ne_none.mp]
    rw [e, this]
  · rw [e, d, Bool.and_false, Bool.or_false]
    exact .single (.vent c h up (.inl d))
  all_goals
    have entry : (h || (c.risingOrUp && c.lowering.isNone && c.disc)) = true := by simp [up, l, d]
    have wait := Relation.ReflTransGen.single (Turn.wait c h up l d)
    rw [e, entry]
  · exact wait
  · exact wait.tail (.ramp _ true up rfl)
  · exact wait.tail (.vent _ true up (.inr rfl))

theorem turns_fastDrop (s : State) (p : Pan) : Turns s (s.fastDrop p) := by
  refine .at p ?_ (fun q e => s.fastDrop_pc_ne e) fun q e => s.fastDrop_hold_ne e
  rw [State.panel, State.panel, s.fastDrop_pc, s.fastDrop_hold]
  cases acts : s.acts p
  · simp only [Bool.false_and, Bool.or_false]
    exact .refl
  simp only [if_true, Bool.true_and, PC.dropped]
  cases up : (s.pc p).risingOrUp
  · simp only [Bool.false_eq_true, if_false, Bool.false_and, Bool.or_false]
    split_ifs with low
    · exact .single (.zero _ _ low)
    · exact .refl
  · exact .single (.drop _ _ up)

theorem turns_faultDrop (s : State) (p : Pan) (k : FaultCause) : Turns s (s.faultDrop p k) := by
  refine (turns_fastDrop s p).trans (.at p ?_ (fun q e => ?_) fun q _ => ?_)
  · rw [State.panel, State.panel, s.faultDrop_hold, s.faultDrop_pc]
    exact .single (.cause _ _ _)
  · rw [s.faultDrop_pc_ne k e, s.fastDrop_pc_ne e]
  · rw [s.faultDrop_hold]

theorem turns_airLoss (s : State) (p : Pan) : Turns s (s.airLoss p) :=
  (turns_faultDrop s p .airLoss).trans (.of_same (fun q => s.airLoss_pc p q) fun q => by
    rw [s.airLoss_hold, s.faultDrop_hold])

theorem turns_enterFault (s : State) (p : Pan) (k : FaultCause) : Turns s (s.enterFault p k) := by
  refine .at p ?_ (fun q e => s.enterFault_pc_ne k e) fun q e => s.enterFault_hold_ne k e
  rw [State.panel, State.panel, s.enterFault_pc, s.enterFault_hold]
  exact .single (.fault _ _ _ _)

theorem turns_sense (s : State) (p : Pan) : Turns s (s.sense p) := by
  rcases s.senses p with ⟨-, e⟩ | ⟨-, k⟩
  · rw [e]; exact .refl s
  generalize s.sense p = t at k ⊢
  cases k
  case none => exact .refl s
  case airLoss => exact turns_airLoss s p
  case up rising _ _ =>
    refine .at p ?_ (fun q e => s.setPc_pc_ne _ e) fun q _ => by simp
    simp only [State.panel, State.setPc_pc, State.setPc_bi]
    exact .single (.arrive _ _ rising)
  case drop | fault => exact turns_enterFault s p _
  case down low _ _ =>
    refine .at p ?_ (fun q e => ?_) fun q e => ?_
    · simp only [State.panel, State.holdPan_pc, State.setPc_pc, State.holdPan_hold]
      exact .single (.rest _ _ low)
    · rw [State.holdPan_pc, State.setPc_pc_ne _ _ e]
    · rw [State.holdPan_hold_ne _ _ e, State.setPc_bi]
  case off fault _ =>
    refine .at p ?_ (fun q e => s.downInFault_pc_ne e) fun q e => s.downInFault_hold_ne e
    simp only [State.panel, State.downInFault_pc, State.downInFault_hold]
    exact .single (.off _ _ fault)

theorem turns_watchIsolated (s : State) (p : Pan) : Turns s (s.watchIsolated p) := by
  refine .at p ?_ (fun q e => s.watchIsolated_pc_ne e) fun q _ => s.watchIsolated_hold p q
  rw [State.panel, State.panel, s.watchIsolated_pc, s.watchIsolated_hold]
  split_ifs with w
  · simp only [State.watched, Bool.and_eq_true, Bool.not_eq_true'] at w
    exact .single (.vent _ _ w.1.1.2 (.inl w.1.2))
  · exact .refl

theorem turns_formTargets (s : State) : Turns s s.formTargets := by
  intro p
  have hold : s.formTargets.bi.hold.pan p = s.bi.hold.pan p := rfl
  have pc : s.formTargets.pc p = { s.pc p with target := s.forceTarget p } := by cases p <;> rfl
  rw [State.panel, State.panel, hold, pc]
  exact .single (.target _ _ _)

theorem turns_latchSoft (s : State) (c : DropCondition) : Turns s (s.latchSoft c) :=
  .ite (.refl s) (.trans ((turns_softLower s .a).trans (turns_softLower _ .b))
    (.of_fields (by simp) (by simp) (by simp) (by simp)))

theorem turns_judgeCause (s : State) (im : Image) (c : DropCondition) : Turns s (s.judgeCause im c) := by
  obtain ⟨t, taken, e⟩ := s.judgeCause_cases im c
  have start : Turns s t := by
    rcases taken with rfl | rfl <;> exact .of_fields (by simp) (by simp) (by simp) (by simp)
  rcases e with e | e <;> rw [e]
  · exact start
  · exact start.trans (turns_latchSoft t c)

theorem turns_enterStowing (s : State) : Turns s s.enterStowing := by
  unfold State.enterStowing
  refine .trans (.of_fields (t := { s with cc := { s.cc with phase := .stowing } }) rfl rfl rfl rfl) ?_
  exact (Turns.ite (turns_softLower _ .a) (.refl _)).trans (.ite (turns_softLower _ .b) (.refl _))

/-- A soft lower request sees the panels, the breaker and the image. -/
theorem State.softLower_panel_congr {s t : State} (panel : ∀ q, t.panel q = s.panel q) (cl : t.cl = s.cl)
    (closed : t.bi.closed = s.bi.closed) (p q : Pan) : (t.softLower p).panel q = (s.softLower p).panel q := by
  have pc : ∀ q, t.pc q = s.pc q := fun q => congrArg Prod.fst (panel q)
  have hold : ∀ q, t.bi.hold.pan q = s.bi.hold.pan q := fun q => congrArg Prod.snd (panel q)
  unfold State.panel
  by_cases e : q = p
  · subst e
    rw [State.softLower_pc, State.softLower_pc, State.softLower_hold, State.softLower_hold, State.acts_congr cl, pc, hold,
      closed]
  · rw [State.softLower_pc_ne _ e, State.softLower_pc_ne _ e, State.softLower_hold_ne _ e, State.softLower_hold_ne _ e,
      pc, hold]

/-- The panels after what may end a scrape pass: as before, or after a soft lower request to the scraping pantograph. -/
def State.PassEnds (s t : State) : Prop :=
  (∀ q, t.panel q = s.panel q) ∨ ∃ p, s.icu.scrape = some p ∧ ∀ q, t.panel q = (s.softLower p).panel q

theorem State.endScrape_panel (s : State) (im : Image) (p q : Pan) :
    (s.endScrape im p).panel q = (s.softLower p).panel q := rfl

theorem State.leaveClearing_ends (s : State) (im : Image) : s.PassEnds (s.leaveClearing im) := by
  obtain ⟨t, first, panel, cl, closed, scrape⟩ : ∃ t : State,
      ((s.dropWant .scrape).dropWant .heat).heatersOff = t ∧ (∀ q, t.panel q = s.panel q) ∧ t.cl = s.cl ∧
      t.bi.closed = s.bi.closed ∧ t.icu.scrape = s.icu.scrape :=
    ⟨_, rfl, fun q => by cases q <;> simp [State.panel, State.pc, HoldOpen.pan], by simp, by simp,
      by simp [State.heatersOff]⟩
  unfold State.leaveClearing State.endPass
  rw [first]
  split
  · rename_i p runs
    refine .inr ⟨p, scrape.symm.trans runs, fun q => ?_⟩
    rw [State.endScrape_panel, State.softLower_panel_congr panel cl closed]
  · exact .inl panel

theorem State.formIce_ends (s : State) (im : Image) : s.PassEnds (s.formIce im) := by
  have left := s.leaveClearing_ends im
  unfold State.formIce
  dsimp only
  split_ifs
  · exact left
  · exact left
  · exact .inl fun _ => rfl
  · exact .inl fun _ => rfl

theorem State.reactPass_ends (s : State) (im : Image) : s.PassEnds (s.reactPass im) := by
  unfold State.reactPass
  split
  · split_ifs
    · exact .inl fun _ => rfl
    · exact .inr ⟨_, ‹_›, fun q => s.endScrape_panel im _ q⟩
  · exact .inl fun _ => rfl

theorem State.PassEnds.turns {s t : State} (h : s.PassEnds t) : Turns s t := by
  rcases h with same | ⟨p, -, soft⟩
  · exact fun q => by rw [same q]
  · exact fun q => by rw [soft q]; exact turns_softLower s p q

/-! ### The moves -/

theorem Move.turns {s t : State} (h : Move s t) : Turns s t := by
  induction h
  case sense p => exact turns_sense s p
  case advance p => exact turns_advancePan s p
  case watch p => exact turns_watchIsolated s p
  case stow => exact .ite (turns_enterStowing s) (.refl s)
  case ice im _ => exact (s.formIce_ends im).turns
  case pass im _ => exact (s.reactPass_ends im).turns
  case judge im c _ _ _ => exact turns_judgeCause s im c
  case targets => exact turns_formTargets s
  case clear a => exact .of_fields (by simp) (by simp) (by simp) (by simp)
  case permit before => exact .of_fields rfl rfl rfl rfl
  all_goals exact .of_fields (by simp) (by simp) (by simp) (by simp)

theorem Moves.turns {s t : State} (h : Moves s t) : Turns s t := by
  induction h with
  | refl => exact .refl s
  | tail _ k ih => exact ih.trans (Move.turns k)

/-! ### The direct effects -/

theorem turns_setPc_times (s : State) (p : Pan) (a b d : Timer) :
    Turns s (s.setPc p { s.pc p with raiseT := a, lowerT := b, heightT := d }) := by
  refine .at p ?_ (fun q e => s.setPc_pc_ne _ e) fun q _ => by simp
  simp only [State.panel, State.setPc_pc, State.setPc_bi]
  exact .single (.times _ _ a b d)

theorem turns_heightLevel (s : State) (p : Pan) (b : Bool) : Turns s (s.heightLevel p b) := by
  unfold State.heightLevel
  dsimp only
  split_ifs
  · exact turns_setPc_times s p _ _ none
  · exact turns_setPc_times s p _ _ .started
  · exact .refl s
  · exact .refl s

theorem turns_eloopOpens (s : State) : Turns s s.eloopOpens := by
  unfold State.eloopOpens State.latchEmergency
  refine .trans (.trans (.of_fields (t := s.setCause .emergency true) rfl rfl rfl rfl) ?_) (.of_fields rfl rfl rfl rfl)
  refine .ite (.refl _) (.trans ((turns_fastDrop _ .a).trans (turns_fastDrop _ .b)) ?_)
  exact .of_fields (by simp) (by simp) (by simp) (by simp)

theorem turns_readers (s : State) (i : LevelInput) (b : Bool) : Turns s (s.readers i b) := by
  cases i
  case upA | upB => exact turns_heightLevel s _ b
  case eloop =>
    cases b
    · exact turns_eloopOpens s
    · exact .of_fields rfl rfl rfl rfl
  all_goals
    exact .of_fields (by simp [State.readers]) (by simp [State.readers]) (by simp [State.readers]) (by simp [State.readers])

theorem turns_accept (s : State) (i : LevelInput) (b : Bool) : Turns s (s.accept i b) := by
  unfold State.accept
  refine .trans ?_ (turns_readers _ i b)
  exact .of_fields rfl rfl rfl rfl

theorem turns_sampleAll (s : State) (l : Levels) : Turns s (s.sampleAll l) := by
  unfold State.sampleAll
  generalize levelInputs = is
  induction is generalizing s with
  | nil => exact .refl s
  | cons i is ih =>
    refine .trans ?_ (ih _)
    exact .ite (.of_fields rfl rfl rfl rfl) (.ite (turns_accept s i _) (.of_fields rfl rfl rfl rfl))

theorem turns_reformInput (s : State) (l : Levels) (i : LevelInput) : Turns s (s.reformInput l i) :=
  .ite (.refl s) (turns_accept s i _)

theorem turns_reformLevels (s : State) (l : Levels) : Turns s (s.reformLevels l) := by
  rw [State.reformLevels_eq]
  refine .trans (t := s.reformInputs l) ?_ (.of_fields (by simp) (by simp) (by simp) (by simp))
  exact (((((((turns_reformInput s l _).trans (turns_reformInput _ l _)).trans (turns_reformInput _ l _)).trans
    (turns_reformInput _ l _)).trans (turns_reformInput _ l _)).trans (turns_reformInput _ l _)).trans
    (turns_reformInput _ l _)).trans (turns_reformInput _ l _)

theorem turns_judgeForced (s : State) : Turns s s.judgeForced := by
  unfold State.judgeForced
  refine .trans (.of_fields (t := s.setCause .forced s.pv.force.forceDrop) rfl rfl rfl rfl) ?_
  exact .ite (turns_latchSoft _ _) (.ite (.of_fields (by simp) (by simp) (by simp) (by simp)) (.refl _))

theorem turns_lowerOnDown (old : DemandInForce) (s : State) : Turns s (s.lowerOnDown old) :=
  .ite ((turns_softLower s .a).trans (turns_softLower _ .b)) (.refl s)

/-- Past the RESTORE a handing-on of the demand in force makes turns. -/
theorem turns_handOn (s : State) (im : Image) (old : DemandInForce) (b : Bool) :
    Turns (s.judgeForced.restoreAll b) (s.handOn im old b) := by
  unfold State.handOn
  refine .trans (t := ((s.judgeForced.restoreAll b).ccHanded im s.pv.force b).lowerOnDown old) ?_
    (.of_fields (by simp) (by simp) (by simp) (by simp))
  exact .trans (.of_fields (by simp) (by simp) (by simp) (by simp)) (turns_lowerOnDown old _)

theorem turns_tableChanged (s : State) (im : Image) (l : List Entry) : Turns s (s.tableChanged im l) := by
  unfold State.tableChanged
  refine .trans (t := ({ s with pv := { s.pv with table := l } } : State).formDemand)
    (.of_fields (by simp) (by simp) (by simp) (by simp)) ?_
  exact .ite ((turns_judgeForced _).trans (turns_handOn _ im _ false)) (.refl _)

theorem turns_takeRoof (s : State) (im : Image) (h : RxHeader) (f : RoofData → RoofData) :
    Turns s (s.takeRoof im h f) :=
  (turns_tableChanged s im _).trans (.ite (.of_fields rfl rfl rfl rfl) (.refl _))

theorem turns_raisePan (s : State) (p : Pan) (b : Bool) (down : (s.pc p).state = .down) : Turns s (s.raisePan p b) := by
  refine .at p ?_ (fun q e => s.raisePan_pc_ne b e) fun q _ => by simp
  have hold : (s.raisePan p b).bi.hold.pan p = s.bi.hold.pan p := by simp
  rw [State.panel, State.panel, s.raisePan_pc, hold]
  exact .single (.raise _ _ b down)

theorem turns_forcedDropStowing (s : State) : Turns s s.forcedDropStowing := by
  unfold State.forcedDropStowing
  dsimp only
  refine .ite (.trans ?_ (.of_fields rfl rfl rfl rfl)) (.refl s)
  exact (Turns.ite (turns_fastDrop s .a) (.refl s)).trans (.ite (turns_fastDrop _ .b) (.refl _))

theorem turns_forcedDropAll (s : State) : Turns s s.forcedDropAll :=
  ((turns_fastDrop s .a).trans (turns_fastDrop _ .b)).trans (.of_fields rfl rfl rfl rfl)

theorem turns_endLeg2 (s : State) : Turns s s.endLeg2 := by
  refine .trans (t := s.leg2Effect) ?_ (.of_fields rfl rfl rfl rfl)
  unfold State.leg2Effect
  split
  · exact .ite (turns_forcedDropAll s) ((turns_enterStowing s).trans (turns_forcedDropStowing _))
  · exact turns_forcedDropStowing s
  · exact .refl s

theorem turns_countPulse (s : State) : Turns s s.countPulse := by
  unfold State.countPulse
  split
  · split_ifs
    · split
      · exact .of_fields (by simp) (by simp) (by simp) (by simp)
      · exact turns_endLeg2 s
      · exact .of_fields rfl rfl rfl rfl
    · exact .of_fields rfl rfl rfl rfl
  · exact .refl s

theorem turns_endScrape (s : State) (im : Image) (p : Pan) : Turns s (s.endScrape im p) :=
  (turns_softLower s p).trans (.of_fields rfl rfl rfl rfl)

theorem turns_countScrape (s : State) (im : Image) : Turns s (s.countScrape im) := by
  unfold State.countScrape
  split
  · split_ifs
    · split
      · exact turns_endScrape s im _
      · exact .of_fields rfl rfl rfl rfl
    · exact .of_fields rfl rfl rfl rfl
  · exact .refl s

theorem turns_odoInput (s : State) (r : Bool) (n : Nat) : Turns s (s.odoInput r n) := by
  unfold State.odoInput State.ifGood
  refine .ite (.trans (.of_fields (t := { s with ioc := s.ioc.takePulse n }) rfl rfl rfl rfl) ?_) (.refl s)
  split
  next im _ =>
    refine .trans ?_ (turns_countScrape _ im)
    refine .trans (t := ({ s with ioc := (s.ioc.takePulse n).runPulse im.ppm } : State).countPulse) ?_ ?_
    · refine .trans ?_ (turns_countPulse _)
      exact .of_fields rfl rfl rfl rfl
    · unfold State.countCooldown
      split <;> exact .of_fields rfl rfl rfl rfl
  · exact .refl _

theorem turns_resolveConflict (s : State) (p : Pan) : Turns s (s.resolveConflict p) := by
  unfold State.resolveConflict
  refine .trans (turns_softLower s p) ?_
  cases p <;> exact .of_fields rfl rfl rfl rfl

theorem turns_failRequalify (s : State) : Turns s s.failRequalify := by
  unfold State.failRequalify
  split
  · exact (turns_softLower s _).trans (.of_fields rfl rfl rfl rfl)
  · exact .of_fields rfl rfl rfl rfl

theorem turns_judgeWindow (s : State) (im : Image) : Turns s (s.judgeWindow im) := by
  unfold State.judgeWindow
  refine .ite ?_ (.refl s)
  dsimp only
  refine .trans (.of_fields (t := { s with cc := { s.cc with rqCount := satInc 255 s.cc.rqCount } }) rfl rfl rfl rfl) ?_
  split
  · exact .ite (.of_fields rfl rfl rfl rfl) (turns_failRequalify _)
  · exact .refl _

theorem turns_takeSample (s : State) (im : Image) (code : BitVec 14) (valid : Bool) :
    Turns s (s.takeSample im code valid) := by
  refine .ite (.of_fields rfl rfl rfl rfl) ?_
  unfold State.windowEnd
  refine .trans ?_ (turns_judgeWindow _ im)
  exact .ite (.of_fields rfl rfl rfl rfl) (.of_fields rfl rfl rfl rfl)

theorem turns_act (s : State) (im : Image) (h : Head) (down : h.kind ≠ .heat → (s.pc h.pan).state = .down) :
    Turns s (s.act im h) := by
  unfold State.act
  obtain ⟨kind, pan, amount⟩ := h
  cases kind
  case heat => cases pan <;> exact .of_fields rfl rfl rfl rfl
  case raise =>
    refine .trans (turns_raisePan s pan true (down nofun)) ?_
    cases pan <;> exact .of_fields rfl rfl rfl rfl
  case scrape =>
    refine .trans (turns_raisePan s pan false (down nofun)) ?_
    cases pan <;> exact .of_fields rfl rfl rfl rfl

theorem State.taken_down {s : State} {h : Head} (taken : s.taken h = true) (raises : h.kind ≠ .heat) :
    (s.pc h.pan).state = .down := by
  obtain ⟨kind, pan, amount⟩ := h
  cases kind
  case heat => exact absurd rfl raises
  all_goals
    simp only [State.taken, State.grantTaken, Bool.and_eq_true, decide_eq_true_eq] at taken
    exact taken.1.1.1.2

theorem turns_holdOffEnd (s : State) (im : Image) : Turns s (s.holdOffEnd im) := by
  unfold State.holdOffEnd
  split
  · refine .ite ?_ (.of_fields (by simp) (by simp) (by simp) (by simp))
    unfold State.grant
    dsimp only
    split_ifs with taken
    · refine .trans ?_ (turns_act _ im _ fun raises => ?_)
      · exact .of_fields rfl rfl rfl rfl
      exact State.taken_down taken raises
    · exact .of_fields rfl rfl rfl rfl
  · exact .refl s

/-- The commands whose direct effect is more than turns of the controllers: the release, the configuration-good event, the ramp
tick, and a DEMAND with its RESTORE. -/
def beyondTurns : Instr → Bool
  | .resetRelease _ _ | .configReadEnd _ _ | .rampTick | .demandReceived _ _ => true
  | _ => false

theorem direct_turns {c : Instr} (h : beyondTurns c = false) (s : State) : Turns s (direct c s) := by
  have k := direct_acts c s
  generalize direct c s = d at k ⊢
  induction k
  case release | goodRecord | badRecord | ramp | demand => cases h
  case none => exact .refl s
  case accept => exact turns_accept s _ _
  case raiseTimeout | heightLoss => exact turns_faultDrop s _ _
  case lowerTimeout => exact turns_enterFault s _ _
  case holdOff => exact turns_holdOffEnd s _
  case status => exact (turns_takeRoof s _ _ _).trans (.of_fields rfl rfl rfl rfl)
  case claim | withdraw | record => exact turns_takeRoof s _ _ _
  case removeLearning | removeLost => exact .ite (turns_tableChanged s _ _) (.refl s)
  case lose | ageOut =>
    first | unfold State.loseEntry | unfold State.ageOutClaim
    split
    · exact .ite (turns_tableChanged s _ _) (.refl s)
    · exact .refl s
  case conflict => exact turns_resolveConflict s _
  case pulse => exact turns_odoInput s _ _
  case leg2 => exact turns_endLeg2 s
  case requalify => exact turns_failRequalify s
  case scrapeEnd =>
    unfold State.scrapeEnds
    split
    · exact turns_endScrape s _ _
    · exact .refl s
  case sample => exact turns_takeSample s _ _ _
  case levels => exact turns_sampleAll s _
  all_goals exact .of_fields (by simp) (by simp) (by simp) (by simp)

end Sys2Proof.Machine
end

section
/-! PROOFS. The outputs of the controllers (R27, R30). -/

namespace Sys2Proof.Machine

/-! ### VALVE and the outputs at rest -/

/-- What of the output table every turn keeps: VALVE on exactly in RISING and UP, F_set and the duty 0 in DOWN and FAULT. -/
structure PC.Core (c : PC) : Prop where
  valve : c.valve = c.risingOrUp
  rest : c.state = .down ∨ c.state = .fault → c.fset = 0 ∧ c.duty = 0

theorem PC.Table.core {c : PC} (h : c.Table) : c.Core := ⟨h.valve, h.rest⟩

theorem Turn.core {x y : PC × Bool} (h : Turn x y) (law : x.1.Core) : y.1.Core := by
  obtain ⟨valve, rest⟩ := law
  cases h
  case wait | ramp | cause | off | target | times => exact ⟨valve, rest⟩
  case vent c h up l => exact ⟨rfl, by simp⟩
  case drop c h up => exact ⟨rfl, by simp⟩
  case zero c h low => exact ⟨valve, fun _ => ⟨rfl, rfl⟩⟩
  case arrive c h rising => exact ⟨by simpa [PC.risingOrUp, rising] using valve, by simp⟩
  case fault => exact ⟨rfl, fun _ => ⟨rfl, rfl⟩⟩
  case rest c h low => exact ⟨by simpa [PC.risingOrUp, low] using valve, fun _ => ⟨rfl, rfl⟩⟩
  case raise => exact ⟨rfl, by simp [PC.raisedIn]⟩

theorem Turns.core {s t : State} (h : Turns s t) (law : ∀ p, (s.pc p).Core) (p : Pan) : (t.pc p).Core :=
  h.keeps (Law := fun x => x.1.Core) (fun _ _ => Turn.core) (law p)

theorem PC.reset_core (down : Bool) : (PC.reset down).Core := PC.reset_table.core

theorem PC.Table.ramp {c : PC} (h : c.Table) (im : Image) : (c.ramp im).Core where
  valve := h.valve
  rest low := by
    have target : c.target = 0 := by
      refine h.target ?_
      rcases low with low | low <;> rw [show (c.ramp im).state = c.state from rfl] at low <;> simp [PC.risingOrUp, low]
    obtain ⟨force, -⟩ := h.rest low
    simp [PC.ramp, PC.setForce, rampStep, target, force, dutyOf]

theorem turns_startLower (s : State) (p : Pan) : Turns s (s.startLower p) :=
  .ite (turns_setPc_times s p _ .started _) (.refl s)

/-- From the absent pantographs on, the configuration-good event makes turns. -/
theorem turns_goodVerdict (s : State) (record : Vector Byte 128) (pins : Levels) :
    Turns (s.goodStart record) (s.goodVerdict record pins) := by
  rw [State.goodVerdict_eq]
  refine .trans (.trans ?_ (turns_startLower _ .a)) (turns_startLower _ .b)
  refine (turns_reformLevels _ (logical (clampImage (rawImage record)).polarities.levels pins)).trans ?_
  exact .of_fields (by simp) (by simp) (by simp) (by simp)

theorem State.goodStart_pc (s : State) (record : Vector Byte 128) (p : Pan) :
    (s.goodStart record).pc p =
      if ((clampImage (rawImage record)).pan p).present then s.pc p else PC.reset true := by
  unfold State.goodStart
  rw [State.holdAbsent_both_pc]
  have pc : ∀ u : State, (u.markClamped.holdCL false).pc p = u.pc p := fun u => by cases p <;> simp
  have acts : ∀ u : State, (u.markClamped.holdCL false).acts p = u.acts p := fun u => by simp [State.acts]
  rw [pc, acts]
  rfl

/-- What a DEMAND does to the controllers: its RESTORE, and turns. -/
theorem takeDemand_turns (s : State) (im : Image) (h : RxHeader) (b : Vector Byte 10) :
    ∃ restore, Turns ((s.enterDemand h b).judgeForced.restoreAll restore) (s.takeDemand im h b) ∧
      Turns s (s.enterDemand h b).judgeForced ∨ Turns s (s.takeDemand im h b) := by
  have entered : Turns s (s.enterDemand h b) := .of_fields (by simp) (by simp) (by simp) (by simp)
  unfold State.takeDemand
  dsimp only
  split_ifs
  · exact ⟨_, .inl ⟨turns_handOn _ _ _ _, entered.trans (turns_judgeForced _)⟩⟩
  · exact ⟨false, .inr entered⟩

theorem direct_core {c : Instr} {s : State} (law : s.OutputTable) (p : Pan) : ((direct c s).pc p).Core := by
  have table : ∀ q, (s.pc q).Table := fun q => by
    cases q
    · exact law.1
    · exact law.2.1
  have core : ∀ q, (s.pc q).Core := fun q => (table q).core
  cases beyond : beyondTurns c
  case false => exact (direct_turns beyond s).core core p
  have d := direct_acts c s
  generalize direct c s = t at d ⊢
  induction d
  case none => exact core p
  case clash => exact core p
  case error => exact Turns.core (.of_fields (by simp) (by simp) (by simp) (by simp)) core p
  case release pins straps =>
    unfold State.release State.releaseLoop
    refine Turns.core (.ite (turns_eloopOpens _) (.refl _)) (fun q => ?_) p
    cases q <;> exact PC.reset_core _
  case goodRecord r pins _ _ =>
    refine (turns_goodVerdict s r pins).core (fun q => ?_) p
    rw [State.goodStart_pc]
    split_ifs
    · exact core q
    · exact PC.reset_core _
  case badRecord => exact Turns.core (.of_fields (by simp) (by simp) (by simp) (by simp)) core p
  case ramp =>
    rcases s.rampBoth_pc p with same | ⟨im, -, ramped⟩
    · rw [same]; exact core p
    · rw [ramped]; exact (table p).ramp im
  case demand h b im _ _ _ =>
    obtain ⟨r, ⟨on, before⟩ | turns⟩ := takeDemand_turns s im h b
    · refine on.core (fun q => ?_) p
      have was := before.core core q
      rcases (s.enterDemand h b).judgeForced.pc_restoreAll r q with same | ⟨-, fault, -, restored⟩
      · rw [same]; exact was
      · rw [restored]
        exact ⟨by simpa [PC.risingOrUp, fault] using was.valve, fun _ => was.rest (.inr fault)⟩
    · exact turns.core core p
  all_goals cases beyond

/-! ### The force targets -/

theorem State.forceTarget_congr {s t : State} (cl : t.cl = s.cl) (lq : t.lq = s.lq) (icu : t.icu.state = s.icu.state)
    {p : Pan} (state : (t.pc p).state = (s.pc p).state) (disc : (t.pc p).disc = (s.pc p).disc)
    (lowering : (t.pc p).lowering = (s.pc p).lowering) : t.forceTarget p = s.forceTarget p := by
  simp [State.forceTarget, PC.risingOrUp, cl, lq, icu, state, disc, lowering]

/-- At the end of an event each target is the one that the state then gives. -/
theorem eventEnd_target (c : Instr) (s : State) (p : Pan) :
    ((eventEnd c s).pc p).target = (eventEnd c s).forceTarget p := by
  rw [eventEnd, finish_pc]
  generalize settled c s = u
  obtain ⟨v, guard, pc⟩ : ∃ v : State, u.guard = v.formTargets ∧ v.lq = u.lq ∧ v.cl = u.cl :=
    ⟨_, rfl, by unfold State.ifGood; split <;> simp, by unfold State.ifGood; split <;> simp⟩
  have target : (u.guard.pc p).target = v.forceTarget p := by rw [guard]; cases p <;> rfl
  have rest : u.guard.pc p = { v.pc p with target := v.forceTarget p } := by rw [guard]; cases p <;> rfl
  rw [target]
  refine (State.forceTarget_congr (by simp [pc.2]) (by simp [pc.1]) (by simp [guard]) ?_ ?_ ?_).symm
  all_goals rw [finish_pc, rest]

theorem SystemSet.live_of_contains {set : SystemSet} {c : LineClass} (h : set.contains c = true) : c.live = true := by
  cases set <;> cases c <;> first | rfl | cases h

theorem clamps_clamp (lo hi raw : Nat) (h : lo ≤ hi) : Clamps lo hi raw (clamp lo hi raw) := by
  unfold clamp
  constructor <;> intros <;> split_ifs <;> omega

/-- A state whose targets are those that it gives meets R30. -/
theorem State.forceLaw_of_targets {s : State} (h : ∀ p, (s.pc p).target = s.forceTarget p) : s.ForceLaw := by
  refine ⟨fun im i p => ?_, fun start p => by simp [h p, State.forceTarget, start]⟩
  have fits : ∀ set, (im.pan p).set = some set → set.contains s.lq.q = true → s.icu.state = .clearing →
      s.IceForce im p := fun set e k x => ⟨x, SystemSet.live_of_contains k, set, e, k⟩
  constructor
  · intro low
    rw [h p, State.forceTarget, i]
    exact if_pos (by simpa using low)
  · intro up free isolated
    rw [h p, State.forceTarget, i]
    simp [up, free, isolated]
  · intro up free coll noIce
    have none : ¬(s.icu.state = .clearing ∧ (im.pan p).set.any (fun set => set.contains s.lq.q) = true) := by
      rintro ⟨clearing, k⟩
      cases e : (im.pan p).set with
      | none => simp [e] at k
      | some set => exact noIce (fits set e (by simpa [e] using k) clearing)
    have value : s.forceTarget p = clamp 40 140 (im.pan p).fBase := by
      simp only [State.forceTarget, i, up, coll, none, if_false]
      simp [free]
    rw [h p, value]
    exact clamps_clamp 40 140 _ (by decide)
  · intro up free coll ice
    obtain ⟨clearing, -, set, e, k⟩ := ice
    have value : s.forceTarget p = clamp 40 140 ((im.pan p).fBase + im.fIce) := by
      simp [State.forceTarget, i, up, coll, free, clearing, e, k]
    rw [h p, value]
    exact_mod_cast clamps_clamp 40 140 ((im.pan p).fBase + im.fIce) (by decide)

theorem State.outputTable_of {s : State} (core : ∀ p, (s.pc p).Core) (target : ∀ p, (s.pc p).target = s.forceTarget p) :
    s.OutputTable := by
  have table : ∀ p, (s.pc p).Table := fun p => by
    refine ⟨(core p).valve, fun low => ?_, (core p).rest⟩
    rw [target p, State.forceTarget]
    split
    · rfl
    · simp [low]
  exact ⟨table .a, table .b, State.forceLaw_of_targets target⟩

/-- Settles O25: the turns keep VALVE and the outputs at rest, and the end of every event forms the targets afresh. -/
theorem outputsFollowThePantographState : Obligations.OutputsFollowThePantographState := by
  refine step_keeps (Law := State.OutputTable) (fun s q h => ⟨h.1, h.2.1, ⟨fun im i p => ?_, h.2.2.start⟩⟩)
    State.held_outputTable (fun s _ h => ?_) fun c s h _ => ?_
  · exact ⟨(h.2.2.good im i p).zero, (h.2.2.good im i p).scrape, (h.2.2.good im i p).base, (h.2.2.good im i p).ice⟩
  · refine ⟨⟨h.1.valve, h.1.target, h.1.rest⟩, ⟨h.2.1.valve, h.2.1.target, h.2.1.rest⟩, ⟨fun im i p => ?_, fun start p => ?_⟩⟩
    · have law := h.2.2.good im i p
      cases p <;> exact ⟨law.zero, law.scrape, law.base, law.ice⟩
    · have law := h.2.2.start start p
      cases p <;> exact law
  · exact State.outputTable_of (fun p => (moves_eventEnd c s).turns.core (fun p => direct_core h p) p) (eventEnd_target c s)

end Sys2Proof.Machine
end

section
/-! PROOFS. The hold-open set (R43, R44, R49, R154): the Changeover Controller's and the Drop Supervisor's entries. -/

namespace Sys2Proof.Machine

/-! ### The Changeover Controller's entry -/

/-- The phases in which the Changeover Controller is in the hold-open set. -/
def Phase.holds (p : Phase) : Bool := !(p = .normal || p = .armed || p = .closing)

/-- The Changeover Controller is in the hold-open set exactly in its phases. -/
def State.HoldsCC (s : State) : Prop := s.bi.hold.cc = s.cc.phase.holds

theorem State.HoldsCC.congr {s t : State} (h : s.HoldsCC) (hold : t.bi.hold.cc = s.bi.hold.cc)
    (phase : t.cc.phase = s.cc.phase) : t.HoldsCC := by
  rw [State.HoldsCC, hold, phase]
  exact h

theorem State.abort_holdsCC (s : State) : s.abort.HoldsCC := rfl

theorem State.setUp_holdsCC {s : State} (im : Image) (sec : CurrentSection) (h : s.bi.hold.cc = false) :
    (s.setUp im sec).HoldsCC := by
  unfold State.setUp
  dsimp only
  split
  · exact State.abort_holdsCC _
  · unfold State.loadLeg1
    split_ifs
    · rfl
    · exact h

theorem State.returnToNormal_holdsCC (s : State) (im : Image) : (s.returnToNormal im).HoldsCC := by
  unfold State.returnToNormal State.takeUpPending
  dsimp only
  split
  · rfl
  · exact State.setUp_holdsCC im _ rfl

theorem State.softLower_holdsCC {s : State} (h : s.HoldsCC) (p : Pan) : (s.softLower p).HoldsCC :=
  h.congr (by simp) (by simp)

theorem State.enterStowing_holdsCC {s : State} (h : s.bi.hold.cc = true) : s.enterStowing.HoldsCC := by
  have start : ({ s with cc := { s.cc with phase := .stowing } } : State).HoldsCC := h
  have lower : ∀ (u : State) (p : Pan), u.HoldsCC → (if u.excluded p then u.softLower p else u).HoldsCC := by
    intro u p law
    split_ifs
    · exact State.softLower_holdsCC law p
    · exact law
  exact lower _ .b (lower _ .a start)

theorem State.failRequalify_holdsCC (s : State) : s.failRequalify.HoldsCC := by
  unfold State.failRequalify
  split <;> exact State.abort_holdsCC _

theorem State.reactFault_holdsCC {s : State} (im : Image) (h : s.HoldsCC) : (s.reactFault im).HoldsCC := by
  unfold State.reactFault
  split
  · split_ifs
    · split
      · exact State.abort_holdsCC _
      · dsimp only
        split
        · exact h
        · rfl
        · exact h
    · exact h
  · exact h

theorem Move.holdsCC {s t : State} (m : Move s t) (h : s.HoldsCC) : t.HoldsCC := by
  induction m
  case fault im i => exact State.reactFault_holdsCC im h
  case stow =>
    unfold State.reactOpening
    split_ifs with x
    · exact State.enterStowing_holdsCC (h.trans (by rw [x.1]; rfl))
    · exact h
  case stowed =>
    unfold State.reactStowing
    dsimp only
    split_ifs with x
    · exact h.trans (by rw [x.1]; rfl)
    · exact h
  case coasted =>
    unfold State.reactCoasting
    split_ifs with x
    · exact h.trans (by rw [x.1]; rfl)
    · exact h
  case close im i =>
    unfold State.reactClosing
    split_ifs
    · rfl
    · exact State.returnToNormal_holdsCC s im
    · exact h
    · exact h
  case requalify =>
    unfold State.reactRequalify
    split_ifs <;> exact h
  all_goals exact h.congr (by simp) (by simp)

theorem State.forcedDropStowing_phase (s : State) : s.forcedDropStowing.cc.phase = s.cc.phase := by
  unfold State.forcedDropStowing State.markForcedDrop
  dsimp only
  split_ifs <;> simp

theorem State.endLeg2_holdsCC {s : State} (h : s.HoldsCC) : s.endLeg2.HoldsCC := by
  have drop : ∀ u : State, u.HoldsCC → u.forcedDropStowing.HoldsCC := fun u law => law.congr (by simp) u.forcedDropStowing_phase
  refine State.HoldsCC.congr (s := s.leg2Effect) ?_ rfl rfl
  unfold State.leg2Effect
  split
  next phase =>
    have hold : s.bi.hold.cc = true := h.trans (by rw [phase]; rfl)
    split_ifs
    · show (s.forcedDropAll).bi.hold.cc = (s.forcedDropAll).cc.phase.holds
      simp [State.forcedDropAll, State.markForcedDrop, hold, Phase.holds]
    · exact drop _ (State.enterStowing_holdsCC hold)
  next => exact drop s h
  next => exact h

theorem State.countPulse_holdsCC {s : State} (h : s.HoldsCC) : s.countPulse.HoldsCC := by
  unfold State.countPulse
  split
  · split_ifs
    · split
      · rfl
      · exact State.endLeg2_holdsCC h
      · exact h
    · exact h
  · exact h

theorem State.ccDirection_holdsCC {s : State} (im : Image) (h : s.HoldsCC) : (s.ccDirection im).HoldsCC := by
  unfold State.ccDirection
  dsimp only
  split
  · exact h
  · exact h
  · exact State.returnToNormal_holdsCC _ im
  · rfl

theorem State.setView_holdsCC {s : State} (d : Direction) (h : s.HoldsCC) : (s.setView d).HoldsCC := by
  unfold State.setView State.ifGood
  split_ifs
  · exact h
  · split
    · exact State.ccDirection_holdsCC _ h
    · exact h

theorem State.restoreCC_holdsCC {s : State} (im : Image) (h : s.HoldsCC) : (s.restoreCC im).HoldsCC := by
  unfold State.restoreCC
  split_ifs
  · exact State.returnToNormal_holdsCC s im
  · exact h

theorem State.takeRecord_holdsCC {s : State} (im : Image) (r : SectionRecord) (h : s.HoldsCC) :
    (s.takeRecord im r).HoldsCC := by
  unfold State.takeRecord
  split
  · exact State.setUp_holdsCC im _ (h.trans (by rw [‹s.cc.phase = _›]; rfl))
  · exact State.setUp_holdsCC im _ (h.trans (by rw [‹s.cc.phase = _›]; rfl))
  · exact State.returnToNormal_holdsCC _ im
  · exact h

theorem State.takeIdZero_holdsCC {s : State} (im : Image) (h : s.HoldsCC) : (s.takeIdZero im).HoldsCC := by
  unfold State.takeIdZero
  split
  · exact h
  · exact State.returnToNormal_holdsCC _ im
  · exact State.returnToNormal_holdsCC _ im
  · exact h

theorem State.ccDemand_holdsCC {s : State} (im : Image) (d : DemandInForce) (b : Bool) (h : s.HoldsCC) :
    (s.ccDemand im d b).HoldsCC := by
  have restored : (if b then s.restoreCC im else s).HoldsCC := by
    split_ifs
    · exact State.restoreCC_holdsCC im h
    · exact h
  unfold State.ccDemand
  split
  · exact restored
  · split
    · unfold State.sectionRecord
      split_ifs with own back pending
      · exact State.restoreCC_holdsCC im h
      · exact h
      · exact State.restoreCC_holdsCC im h
      · exact State.takeRecord_holdsCC im _ h
    · exact State.takeIdZero_holdsCC im h

theorem State.ccHanded_holdsCC {s : State} (im : Image) (d : DemandInForce) (b : Bool) (h : s.HoldsCC) :
    (s.ccHanded im d b).HoldsCC := by
  unfold State.ccHanded
  split_ifs
  · exact State.restoreCC_holdsCC im h
  · exact h
  · exact State.ccDemand_holdsCC im d b h

theorem State.handOn_holdsCC {s : State} (im : Image) (old : DemandInForce) (b : Bool) (h : s.HoldsCC) :
    (s.handOn im old b).HoldsCC := by
  unfold State.handOn
  have start : (s.judgeForced.restoreAll b).HoldsCC := h.congr (by simp) (by simp)
  have taken := State.ccHanded_holdsCC im s.pv.force b start
  exact taken.congr (by simp) (by simp)

/-! ### The Drop Supervisor's entry -/

theorem DropSet.set_true_notEmpty (d : DropSet) (c : DropCondition) : (d.set c true).isEmpty = false := by
  cases c <;> simp [DropSet.set, DropSet.isEmpty]

/-- The Drop Supervisor is in the hold-open set exactly while a latch stands (R154). -/
def State.HoldsDS (s : State) : Prop := s.bi.hold.ds = !s.ds.latch.isEmpty

theorem State.HoldsDS.congr {s t : State} (h : s.HoldsDS) (hold : t.bi.hold.ds = s.bi.hold.ds)
    (latch : t.ds.latch = s.ds.latch) : t.HoldsDS := by
  rw [State.HoldsDS, hold, latch]
  exact h

theorem State.keepLatches_holdsDS (s : State) (d : DropSet) : (s.keepLatches d).HoldsDS := rfl

theorem State.setLatch_holdsDS (s : State) (c : DropCondition) : (s.setLatch c).HoldsDS := by
  simp [State.HoldsDS, DropSet.set_true_notEmpty]

theorem State.latchSoft_holdsDS {s : State} (c : DropCondition) (h : s.HoldsDS) : (s.latchSoft c).HoldsDS := by
  unfold State.latchSoft
  split_ifs
  · exact h
  · exact State.setLatch_holdsDS _ c

theorem State.judgeCause_holdsDS {s : State} (im : Image) (c : DropCondition) (h : s.HoldsDS) :
    (s.judgeCause im c).HoldsDS := by
  obtain ⟨t, taken, e⟩ := s.judgeCause_cases im c
  have start : t.HoldsDS := by
    rcases taken with rfl | rfl <;> exact h.congr (by simp) (by simp)
  rcases e with e | e <;> rw [e]
  · exact start
  · exact State.latchSoft_holdsDS c start

theorem State.latchEmergency_holdsDS {s : State} (h : s.HoldsDS) : s.latchEmergency.HoldsDS := by
  unfold State.latchEmergency
  split_ifs
  · exact h
  · exact State.setLatch_holdsDS _ _

theorem State.airLoss_holdsDS {s : State} (p : Pan) (h : s.HoldsDS) : (s.airLoss p).HoldsDS := by
  unfold State.airLoss State.latchAirLoss
  split_ifs
  · exact h.congr (by simp) (by simp)
  · exact State.setLatch_holdsDS _ _

theorem State.sense_holdsDS {s : State} (p : Pan) (h : s.HoldsDS) : (s.sense p).HoldsDS := by
  rcases s.senses p with ⟨-, e⟩ | ⟨-, k⟩
  · rw [e]; exact h
  generalize s.sense p = t at k ⊢
  cases k
  case airLoss => exact State.airLoss_holdsDS p h
  all_goals exact h.congr (by simp) (by simp)

theorem Move.holdsDS {s t : State} (m : Move s t) (h : s.HoldsDS) : t.HoldsDS := by
  induction m
  case sense p => exact State.sense_holdsDS p h
  case judge im c _ _ _ => exact State.judgeCause_holdsDS im c h
  case restore im i =>
    unfold State.formRestore
    split_ifs
    · exact State.keepLatches_holdsDS _ _
    all_goals exact h
  all_goals exact h.congr (by simp) (by simp)

theorem State.judgeForced_holdsDS {s : State} (h : s.HoldsDS) : s.judgeForced.HoldsDS := by
  unfold State.judgeForced
  dsimp only
  split_ifs
  · exact State.latchSoft_holdsDS _ h
  · exact State.keepLatches_holdsDS _ _
  · exact h

theorem State.restoreAll_holdsDS {s : State} (b : Bool) (h : s.HoldsDS) : (s.restoreAll b).HoldsDS := by
  unfold State.restoreAll
  split_ifs
  · exact State.keepLatches_holdsDS _ _
  · exact h

theorem State.handOn_holdsDS {s : State} (im : Image) (old : DemandInForce) (b : Bool) (h : s.HoldsDS) :
    (s.handOn im old b).HoldsDS := by
  unfold State.handOn
  have start := State.restoreAll_holdsDS b (State.judgeForced_holdsDS h)
  exact start.congr (by simp) (by simp)

theorem State.eloopOpens_holdsDS {s : State} (h : s.HoldsDS) : s.eloopOpens.HoldsDS :=
  State.latchEmergency_holdsDS (s := s.setCause .emergency true) h

/-! ### Both through the direct effects -/

/-- The entries of the Changeover Controller and of the Drop Supervisor stand by their rules. -/
def State.HoldsBoth (s : State) : Prop := s.HoldsCC ∧ s.HoldsDS

theorem State.HoldsBoth.congr {s t : State} (h : s.HoldsBoth) (cc : t.bi.hold.cc = s.bi.hold.cc)
    (ds : t.bi.hold.ds = s.bi.hold.ds) (phase : t.cc.phase = s.cc.phase) (latch : t.ds.latch = s.ds.latch) :
    t.HoldsBoth :=
  ⟨h.1.congr cc phase, h.2.congr ds latch⟩

theorem State.tableChanged_holds {s : State} (im : Image) (l : List Entry) (h : s.HoldsBoth) :
    (s.tableChanged im l).HoldsBoth := by
  unfold State.tableChanged
  dsimp only
  have start : ({ s with pv := { s.pv with table := l } } : State).formDemand.HoldsBoth :=
    h.congr (by simp) (by simp) (by simp) (by simp)
  split_ifs
  · exact ⟨State.handOn_holdsCC im _ _ start.1, State.handOn_holdsDS im _ _ start.2⟩
  · exact start

theorem State.enterDemand_latch (s : State) (x : RxHeader) (b : Vector Byte 10) :
    (s.enterDemand x b).ds.latch = s.ds.latch := by
  unfold State.enterDemand
  dsimp only
  split_ifs <;> simp

theorem State.takeDemand_holds {s : State} (im : Image) (x : RxHeader) (b : Vector Byte 10) (h : s.HoldsBoth) :
    (s.takeDemand im x b).HoldsBoth := by
  unfold State.takeDemand
  dsimp only
  have start : (s.enterDemand x b).HoldsBoth := h.congr (by simp) (by simp) (by simp) (s.enterDemand_latch x b)
  split_ifs
  · exact ⟨State.handOn_holdsCC im _ _ start.1, State.handOn_holdsDS im _ _ start.2⟩
  · exact start

theorem State.takeRoof_holds {s : State} (im : Image) (x : RxHeader) (f : RoofData → RoofData) (h : s.HoldsBoth) :
    (s.takeRoof im x f).HoldsBoth := by
  unfold State.takeRoof
  dsimp only
  have changed := State.tableChanged_holds im (putEntry ((entryFor s.pv.table x).mapRoof f) s.pv.table) h
  split_ifs
  · exact changed.congr (by simp) (by simp) (by simp) (by simp)
  · exact changed

theorem State.accept_holds {s : State} (i : LevelInput) (b : Bool) (h : s.HoldsBoth) : (s.accept i b).HoldsBoth := by
  unfold State.accept
  generalize e : ({ s with
    ioc := { s.ioc with levels := withLevel s.ioc.levels i b, runs := s.ioc.runs.set i 0 } } : State) = u
  have h : u.HoldsBoth := by subst e; exact h.congr rfl rfl rfl rfl
  cases i
  case eloop =>
    cases b
    · exact ⟨h.1.congr (by simp [State.readers, State.eloopLevel]) (by simp [State.readers, State.eloopLevel]),
        State.eloopOpens_holdsDS h.2⟩
    · exact h
  case dir =>
    show u.dirAccepted.HoldsBoth
    unfold State.dirAccepted
    split_ifs
    · exact ⟨State.setView_holdsCC _ h.1, h.2.congr (by simp) (by simp)⟩
    · exact h.congr (by simp) (by simp) (by simp) (by simp)
    · exact h
  all_goals exact h.congr (by simp [State.readers]) (by simp [State.readers]) (by simp [State.readers]) (by simp [State.readers])

theorem State.setView_holds {s : State} (d : Direction) (h : s.HoldsBoth) : (s.setView d).HoldsBoth :=
  ⟨State.setView_holdsCC d h.1, h.2.congr (by simp) (by simp)⟩

theorem State.goodVerdict_holds {s : State} (r : Vector Byte 128) (pins : Levels) (h : s.HoldsBoth) :
    (s.goodVerdict r pins).HoldsBoth := by
  rw [State.goodVerdict_eq]
  have start : (s.goodStart r).HoldsBoth := h.congr (by simp) (by simp) (by simp) (by simp)
  have formed := State.reformLevels_keeps (Law := State.HoldsBoth) (fun _ _ x => x)
    (fun _ i b => State.accept_holds i b) (fun _ d => State.setView_holds d) (s.goodStart r)
    (logical (clampImage (rawImage r)).polarities.levels pins) start
  exact formed.congr (by simp) (by simp) (by simp) (by simp)

theorem State.judgeWindow_holdsCC {s : State} (im : Image) (h : s.HoldsCC) : (s.judgeWindow im).HoldsCC := by
  unfold State.judgeWindow
  dsimp only
  split_ifs
  · split
    · split_ifs
      · rfl
      · exact State.failRequalify_holdsCC _
    · exact h
  · exact h

theorem State.takeSample_holds {s : State} (im : Image) (code : BitVec 14) (valid : Bool) (h : s.HoldsBoth) :
    (s.takeSample im code valid).HoldsBoth := by
  unfold State.takeSample
  dsimp only
  split_ifs
  · exact h
  · refine ⟨?_, h.2.congr (by simp) (by simp)⟩
    unfold State.windowEnd
    dsimp only
    split_ifs <;> exact State.judgeWindow_holdsCC im h.1

theorem State.odoInput_holds {s : State} (r : Bool) (n : Nat) (h : s.HoldsBoth) : (s.odoInput r n).HoldsBoth := by
  refine ⟨?_, h.2.congr (by simp) (by simp)⟩
  unfold State.odoInput State.ifGood
  split_ifs
  · split
    next im _ =>
      refine State.HoldsCC.congr (State.countPulse_holdsCC (s := { s with
        ioc := (s.ioc.takePulse n).runPulse im.ppm }) h.1) ?_ ?_
      · simp [State.pulseReaders]
      · simp [State.pulseReaders]
    · exact h.1
  · exact h.1

/-- The Changeover Controller's and the Drop Supervisor's entries through the direct effect of a command. -/
theorem direct_holds (c : Instr) {s : State} (h : s.HoldsBoth) :
    (direct c s).HoldsBoth := by
  have d := direct_acts c s
  generalize direct c s = t at d ⊢
  induction d
  case none => exact h
  case release pins straps =>
    unfold State.release State.releaseLoop
    split_ifs
    · exact ⟨h.1.congr (by simp) (by simp), State.eloopOpens_holdsDS h.2⟩
    · exact h
  case goodRecord r pins _ _ => exact State.goodVerdict_holds r pins h
  case sample im _ => exact State.takeSample_holds im _ _ h
  case accept i b _ => exact State.accept_holds i b h
  case demand x b im _ _ _ => exact State.takeDemand_holds im x b h
  case status im _ _ _ => exact (State.takeRoof_holds im _ _ h).congr rfl rfl rfl rfl
  case claim im _ _ _ => exact State.takeRoof_holds im _ _ h
  case withdraw im _ _ _ => exact State.takeRoof_holds im _ _ h
  case record im _ _ _ => exact State.takeRoof_holds im _ _ h
  case removeLearning im _ | removeLost im _ =>
    first | unfold State.removeLearning | unfold State.removeLost
    split_ifs
    · exact State.tableChanged_holds im _ h
    · exact h
  case lose | ageOut =>
    first | unfold State.loseEntry | unfold State.ageOutClaim
    split
    · split_ifs
      · exact State.tableChanged_holds _ _ h
      · exact h
    · exact h
  case pulse => exact State.odoInput_holds _ _ h
  case leg1 => exact ⟨rfl, h.2⟩
  case leg2 => exact ⟨State.endLeg2_holdsCC h.1, h.2.congr (by simp) (by simp)⟩
  case leg3 => exact h
  case requalify => exact ⟨State.failRequalify_holdsCC s, h.2.congr (by simp) (by simp)⟩
  case restoreTimer => exact ⟨h.1, State.keepLatches_holdsDS _ _⟩
  case stationary => exact State.setView_holds _ h
  case levels pins =>
    exact State.sampleAll_keeps (Law := State.HoldsBoth) (fun _ _ x => x) (fun _ i b => State.accept_holds i b) s _ h
  all_goals exact h.congr (by simp) (by simp) (by simp) (by simp)

theorem eventEnd_holds (c : Instr) {s : State} (h : s.HoldsBoth) :
    (eventEnd c s).HoldsBoth :=
  eventEnd_keeps (Law := State.HoldsBoth) (fun _ _ m law => ⟨m.holdsCC law.1, m.holdsDS law.2⟩) (direct_holds c h)

end Sys2Proof.Machine
end

section
/-! PROOFS. A steady pantograph: what the reactions of an event do to a controller whose sensors ask nothing beyond its
arrival (R33 to R40). -/

namespace Sys2Proof.Machine

/-! ### Steady pantographs -/

/-- The sensors of a pantograph lead it neither to FAULT nor to DOWN: it is DOWN, or its DOWN sensor is negated and, while it is
RISING or UP, it has air. -/
def State.Steady (s : State) (p : Pan) : Prop :=
  (s.pc p).state = .down ∨ (s.downSensor p = false ∧ ((s.pc p).risingOrUp = true → s.airOk p = true))

/-- What the reactions can do to the controller of a steady pantograph and to its hold-open entry. -/
inductive Ease (closed up : Bool) : PC × Bool → PC × Bool → Prop
  | soft (c : PC) (h : Bool) :
    Ease closed up (c, h) (c.softLowered closed, h || (c.risingOrUp && c.lowering.isNone && c.disc))
  | advance (c : PC) (h : Bool) : Ease closed up (c, h) (c.advance closed, h)
  | vent (c : PC) (h : Bool) (raised : c.risingOrUp = true) (isolated : c.disc = false) :
    Ease closed up (c, h) (c.vent, h)
  | arrive (c : PC) (h : Bool) (rising : c.state = .rising) (k : up = true) :
    Ease closed up (c, h) ({ c with state := .up, raiseT := none }, h)
  | target (c : PC) (h : Bool) (n : Nat) : Ease closed up (c, h) ({ c with target := n }, h)

/-- A controller and its entry go on by the reactions of a steady pantograph. -/
def Eases (s t : State) (p : Pan) : Prop :=
  Relation.ReflTransGen (Ease s.bi.closed (s.upSensor p)) (s.panel p) (t.panel p)

theorem Eases.of_same {s t : State} {p : Pan} (pc : t.pc p = s.pc p) (hold : t.bi.hold.pan p = s.bi.hold.pan p) :
    Eases s t p := by
  rw [Eases, State.panel, State.panel, pc, hold]

theorem Eases.of_fields {s t : State} {p : Pan} (a : t.pcA = s.pcA) (b : t.pcB = s.pcB)
    (c : t.bi.hold.pcA = s.bi.hold.pcA) (d : t.bi.hold.pcB = s.bi.hold.pcB) : Eases s t p :=
  .of_same (by cases p <;> assumption) (by cases p <;> assumption)

theorem Eases.trans {s t u : State} {p : Pan} (h : Eases s t p) (k : Eases t u p) (closed : t.bi.closed = s.bi.closed)
    (up : t.upSensor p = s.upSensor p) : Eases s u p := by
  unfold Eases at *
  rw [closed, up] at k
  exact Relation.ReflTransGen.trans h k

theorem Eases.softLower (s : State) (p q : Pan) : Eases s (s.softLower q) p := by
  by_cases e : p = q
  · subst e
    rw [Eases, State.panel, State.panel, State.softLower_pc, State.softLower_hold]
    cases s.acts p
    · simp
      exact .refl
    · exact .single (by simpa using Ease.soft (closed := s.bi.closed) (up := s.upSensor p) (s.pc p) (s.bi.hold.pan p))
  · exact .of_same (s.softLower_pc_ne e) (s.softLower_hold_ne e)

theorem Eases.advancePan (s : State) (p q : Pan) : Eases s (s.advancePan q) p := by
  by_cases e : p = q
  · subst e
    rw [Eases, State.panel, State.panel, State.advancePan_pc, State.advancePan_hold]
    exact .single (.advance _ _)
  · exact .of_same (s.advancePan_pc_ne e) (s.advancePan_hold q p)

theorem Eases.watchIsolated (s : State) (p q : Pan) : Eases s (s.watchIsolated q) p := by
  have hold : (s.watchIsolated q).bi.hold.pan p = s.bi.hold.pan p := by cases p <;> simp [HoldOpen.pan]
  by_cases e : p = q
  · subst e
    rw [Eases, State.panel, State.panel, State.watchIsolated_pc, hold]
    cases w : s.watched p
    · exact .refl
    · obtain ⟨⟨⟨-, raised⟩, isolated⟩, -⟩ : ((s.acts p = true ∧ (s.pc p).risingOrUp = true) ∧ (s.pc p).disc = false) ∧ _ := by
        simpa [State.watched] using w
      exact .single (.vent _ _ raised isolated)
  · exact .of_same (s.watchIsolated_pc_ne e) hold

/-- The sensors of a steady pantograph make it arrive, or nothing. -/
theorem Eases.sense {s : State} {p : Pan} (steady : s.Steady p) (q : Pan) : Eases s (s.sense q) p := by
  by_cases e : p = q
  · subst e
    rcases s.senses p with ⟨-, k⟩ | ⟨-, k⟩
    · rw [k]; exact .refl
    generalize s.sense p = t at k ⊢
    cases k
    case none => exact .refl
    case up rising _ up =>
      have hold : (s.setPc p { s.pc p with state := .up, raiseT := none }).bi.hold.pan p = s.bi.hold.pan p := by simp
      rw [Eases, State.panel, State.panel, State.setPc_pc, hold]
      exact .single (.arrive _ _ rising up)
    all_goals
      rcases steady with down | ⟨sensor, air⟩
      · simp_all [PC.risingOrUp]
      · simp_all [PC.risingOrUp]
  · exact .of_same (s.sense_pc_ne e) (s.sense_hold_ne e)

theorem Eases.latchSoft (s : State) (p : Pan) (c : DropCondition) : Eases s (s.latchSoft c) p := by
  unfold State.latchSoft
  split_ifs
  · exact .refl
  · have both := (Eases.softLower s p .a).trans (Eases.softLower _ p .b) (by simp) (State.upSensor_congr (by simp) p)
    exact both.trans (.of_same (by cases p <;> simp [State.pc]) (by cases p <;> rfl)) (by simp)
      (State.upSensor_congr (by simp) p)

theorem Eases.judgeCause (s : State) (p : Pan) (im : Image) (c : DropCondition) : Eases s (s.judgeCause im c) p := by
  obtain ⟨t, taken, e⟩ := s.judgeCause_cases im c
  have start : Eases s t p ∧ t.bi.closed = s.bi.closed ∧ t.ioc = s.ioc := by
    rcases taken with rfl | rfl <;>
      exact ⟨.of_fields (by simp) (by simp) (by simp) (by simp), by simp, by simp⟩
  obtain ⟨eases, closed, ioc⟩ := start
  rcases e with e | e <;> rw [e]
  · exact eases
  · exact eases.trans (.latchSoft t p c) closed (State.upSensor_congr ioc p)

theorem Eases.reactOpening (s : State) (p : Pan) : Eases s s.reactOpening p := by
  have start : Eases s { s with cc := { s.cc with phase := .stowing } } p := .of_fields rfl rfl rfl rfl
  unfold State.reactOpening State.enterStowing
  dsimp only
  have one : ∀ (t : State) (q : Pan), Eases s t p → t.bi.closed = s.bi.closed → t.ioc = s.ioc →
      Eases s (t.softLower q) p := fun t q h closed ioc =>
    h.trans (.softLower t p q) closed (State.upSensor_congr ioc p)
  split_ifs
  · exact one _ .b (one _ .a start rfl rfl) (by simp) (by simp)
  · exact one _ .a start rfl rfl
  · exact one _ .b start rfl rfl
  · exact start
  · exact .refl

theorem Eases.passEnds {s t : State} {p : Pan} (ends : s.PassEnds t) : Eases s t p := by
  rcases ends with same | ⟨q, -, soft⟩
  · rw [Eases, same p]
  · rw [Eases, soft p]
    exact Eases.softLower s p q

theorem Eases.formTargets (s : State) (p : Pan) : Eases s s.formTargets p := by
  unfold Eases State.panel
  cases p <;> exact .single (.target _ _ _)

/-- A move other than that of the sensors does to every pantograph what the reactions of a steady one can do. -/
theorem Move.sense_or_eases {s t : State} (m : Move s t) : (∃ q, t = s.sense q) ∨ ∀ p, Eases s t p := by
  induction m
  case sense q => exact .inl ⟨q, rfl⟩
  case advance q => exact .inr fun p => .advancePan s p q
  case watch q => exact .inr fun p => .watchIsolated s p q
  case stow => exact .inr fun p => .reactOpening s p
  case ice im _ => exact .inr fun p => .passEnds (s.formIce_ends im)
  case pass im _ => exact .inr fun p => .passEnds (s.reactPass_ends im)
  case judge im c _ _ _ => exact .inr fun p => .judgeCause s p im c
  case targets => exact .inr fun p => .formTargets s p
  case permit => exact .inr fun p => .of_fields rfl rfl rfl rfl
  all_goals exact .inr fun p => .of_fields (by simp) (by simp) (by simp) (by simp)

theorem Move.eases_of_sense {s t : State} (m : Move s t) {p : Pan} (sense : ∀ q, Eases s (s.sense q) p) :
    Eases s t p := by
  rcases m.sense_or_eases with ⟨q, rfl⟩ | eases
  · exact sense q
  · exact eases p

theorem Move.eases {s t : State} (m : Move s t) {p : Pan} (steady : s.Steady p) : Eases s t p :=
  m.eases_of_sense fun q => .sense steady q

theorem Move.closed {s t : State} (m : Move s t) : t.bi.closed = s.bi.closed := by
  induction m
  all_goals simp

theorem Move.ioc {s t : State} (m : Move s t) : t.ioc = s.ioc := by
  induction m
  all_goals simp

/-! ### What stays of a steady pantograph -/

/-- A state of a steady controller stays, or goes on towards UP and LOWERING. -/
theorem Ease.state {closed up : Bool} {x y : PC × Bool} (e : Ease closed up x y) :
    y.1.state = x.1.state ∨ (up = true ∧ x.1.state = .rising ∧ y.1.state = .up) ∨
      (x.1.risingOrUp = true ∧ y.1.state = .lowering) := by
  cases e
  case soft c h =>
    rcases c.softLowered_cases closed with ⟨-, e⟩ | ⟨raised, -, ⟨-, e⟩ | ⟨-, -, e⟩ | ⟨-, -, -, e⟩ | ⟨-, -, -, e⟩⟩ <;> rw [e]
    · exact .inl rfl
    · exact .inr (.inr ⟨raised, by simp⟩)
    · exact .inl rfl
    · exact .inl rfl
    · exact .inr (.inr ⟨raised, by simp⟩)
  case advance c h =>
    rcases c.advance_cases closed with e | ⟨-, -, -, -, e⟩ | ⟨-, raised, -, -, e⟩ <;> rw [e]
    · exact .inl rfl
    · exact .inl rfl
    · exact .inr (.inr ⟨raised, by simp⟩)
  case vent c h raised isolated => exact .inr (.inr ⟨raised, by simp⟩)
  case arrive c h rising k => exact .inr (.inl ⟨k, rising, rfl⟩)
  case target => exact .inl rfl

theorem PC.not_raised_of_state {c : PC} (h : c.risingOrUp = false) {d : PC} (e : d.state = c.state) :
    d.risingOrUp = false := by
  simpa [PC.risingOrUp, e] using h

theorem Eases.steady {s t : State} {p : Pan} (e : Eases s t p) (ioc : t.ioc = s.ioc) (steady : s.Steady p) :
    t.Steady p := by
  have law : ∀ x y : PC × Bool, Ease s.bi.closed (s.upSensor p) x y →
      (x.1.state = .down ∨ (s.downSensor p = false ∧ (x.1.risingOrUp = true → s.airOk p = true))) →
      y.1.state = .down ∨ (s.downSensor p = false ∧ (y.1.risingOrUp = true → s.airOk p = true)) := by
    intro x y one h
    rcases one.state with e | ⟨-, rising, up⟩ | ⟨raised, low⟩
    · simpa [PC.risingOrUp, e] using h
    · rcases h with down | ⟨sensor, air⟩
      · rw [down] at rising; cases rising
      · exact .inr ⟨sensor, fun _ => air (by simp [PC.risingOrUp, rising])⟩
    · rcases h with down | ⟨sensor, air⟩
      · simp [PC.risingOrUp, down] at raised
      · exact .inr ⟨sensor, fun _ => air raised⟩
  have goal : (t.panel p).1.state = .down ∨ (s.downSensor p = false ∧ ((t.panel p).1.risingOrUp = true → s.airOk p = true)) := by
    unfold Eases at e
    generalize t.panel p = y at e ⊢
    induction e with
    | refl => exact steady
    | tail _ k ih => exact law _ _ k ih
  rw [State.Steady, State.downSensor_congr ioc, State.airOk_congr ioc]
  exact goal

/-- A chain of moves does to a steady pantograph what its reactions can do, and leaves it steady. -/
theorem Moves.eases {s t : State} (m : Moves s t) {p : Pan} (steady : s.Steady p) :
    Eases s t p ∧ t.Steady p ∧ t.bi.closed = s.bi.closed ∧ t.ioc = s.ioc := by
  induction m with
  | refl => exact ⟨.refl, steady, rfl, rfl⟩
  | tail _ k ih =>
    obtain ⟨before, steady', closed, ioc⟩ := ih
    have ioc' := Move.ioc k
    exact ⟨before.trans (Move.eases k steady') closed (State.upSensor_congr ioc p), (Move.eases k steady').steady ioc' steady',
      (Move.closed k).trans closed, ioc'.trans ioc⟩

/-- A law of a controller and its entry that the reactions of a steady pantograph keep. -/
theorem Eases.keeps {Law : PC × Bool → Prop} {s t : State} {p : Pan} (e : Eases s t p)
    (each : ∀ x y, Ease s.bi.closed (s.upSensor p) x y → Law x → Law y) (law : Law (s.panel p)) : Law (t.panel p) := by
  unfold Eases at e
  generalize t.panel p = y at e ⊢
  induction e with
  | refl => exact law
  | tail _ k ih => exact each _ _ k ih

/-- A pantograph that cannot come to FAULT in an event is steady, and stays sound. -/
theorem State.Sound.steady {s : State} {p : Pan} (h : s.Sound p) : s.Steady p := by
  rcases h with down | ⟨-, air, sensor⟩
  · exact .inl down
  · exact .inr ⟨sensor, fun _ => air⟩

theorem Eases.not_fault {s t : State} {p : Pan} (e : Eases s t p) (h : (s.pc p).state ≠ .fault) :
    (t.pc p).state ≠ .fault := by
  refine e.keeps (Law := fun x => x.1.state ≠ .fault) ?_ h
  intro x y one h
  rcases one.state with e | ⟨-, -, up⟩ | ⟨-, low⟩
  · rw [e]; exact h
  · rw [up]; decide
  · rw [low]; decide

theorem State.Sound.not_fault {s : State} {p : Pan} (h : s.Sound p) : (s.pc p).state ≠ .fault := by
  rcases h with down | ⟨free, -⟩
  · rw [down]; decide
  · exact free

end Sys2Proof.Machine
end

section
/-! PROOFS. The controllers' and the Configuration Loader's entries in the hold-open set (R43, R44, R49, R202). -/

namespace Sys2Proof.Machine

/-! ### The controllers' entries -/

/-- The entry of a controller that acts: it is in the set exactly while it holds it open, and not in DOWN (R43). -/
structure PanelLaw (x : PC × Bool) : Prop where
  holds : x.2 = x.1.holdsOpen
  down : x.1.state = .down → x.2 = false

theorem PC.holdsOpen_down {c : PC} (h : c.state = .down) : c.holdsOpen = false := by
  simp [PC.holdsOpen, PC.risingOrUp, h]

theorem PanelLaw.of_holds {x : PC × Bool} (h : x.2 = x.1.holdsOpen) : PanelLaw x :=
  ⟨h, fun down => h.trans (PC.holdsOpen_down down)⟩

theorem PC.holdsOpen_up {c : PC} (up : c.risingOrUp = true) : c.holdsOpen = (c.disc && c.lowering.isSome) := by
  have state : c.state ≠ .lowering ∧ c.state ≠ .fault := by
    constructor <;> intro e <;> simp [PC.risingOrUp, e] at up
  simp [PC.holdsOpen, up, state.1, state.2]

theorem Turn.panelLaw {x y : PC × Bool} (t : Turn x y) (law : PanelLaw x) : PanelLaw y := by
  obtain ⟨holds, -⟩ := law
  refine .of_holds ?_
  cases t
  case wait c h up l d =>
    have up' : ({ c with lowering := some .softWait, raiseT := none } : PC).risingOrUp = true := up
    exact ((PC.holdsOpen_up up').trans (by simp [d])).symm
  case ramp c h up l =>
    have up' : ({ c with lowering := some .softRamp } : PC).risingOrUp = true := up
    exact (holds.trans ((PC.holdsOpen_up up).trans (by simp [l]))).trans (PC.holdsOpen_up up').symm
  case vent c h up l =>
    have held : h = (c.disc && c.lowering.isSome) := holds.trans (PC.holdsOpen_up up)
    rcases l with l | l <;> simp [PC.holdsOpen, held, l]
  case drop c h up =>
    have := PC.holdsOpen_up up
    cases d : c.disc <;> simp_all [PC.holdsOpen]
  case zero | cause | target | times => exact holds
  case arrive c h rising => simpa [PC.holdsOpen, PC.risingOrUp, rising] using holds
  case fault c h down k =>
    cases down
    · cases d : c.disc
      · have : h = false := by simpa [PC.holdsOpen, d] using holds
        simp [PC.holdsOpen, PC.faultedBy, d, this]
      · simp [PC.holdsOpen, PC.faultedBy, d]
    · simp [PC.holdsOpen, PC.faultedBy]
  case rest => simp [PC.holdsOpen, PC.risingOrUp]
  case off => simp [PC.holdsOpen]
  case raise c h b down =>
    have : h = false := by simpa [PC.holdsOpen_down down] using holds
    simp [PC.holdsOpen, PC.raisedIn, this]

theorem Turns.panelLaw {s t : State} (h : Turns s t) {p : Pan} (law : PanelLaw (s.panel p)) : PanelLaw (t.panel p) :=
  h.keeps (fun _ _ => Turn.panelLaw) law

/-- A controller in FAULT on its DOWN sensor has DISC off and no entry (R44). -/
def State.FaultClear (s : State) (p : Pan) : Prop :=
  s.acts p = true → (s.pc p).state = .fault → s.downSensor p = true → (s.pc p).disc = false ∧ s.bi.hold.pan p = false

theorem State.FaultClear.congr {s t : State} {p : Pan} (h : s.FaultClear p) (cl : t.cl = s.cl) (ioc : t.ioc = s.ioc)
    (pc : (t.pc p).state = .fault → (s.pc p).state = .fault ∧ (t.pc p).disc = (s.pc p).disc ∧
      t.bi.hold.pan p = s.bi.hold.pan p) : t.FaultClear p := by
  intro acts fault sensor
  obtain ⟨state, disc, hold⟩ := pc fault
  rw [disc, hold]
  exact h (State.acts_congr cl p ▸ acts) state (State.downSensor_congr ioc p ▸ sensor)

theorem State.softLower_fault {s : State} {p q : Pan} (h : ((s.softLower q).pc p).state = .fault) :
    (s.softLower q).panel p = s.panel p := by
  by_cases e : p = q
  · subst e
    have state : (s.pc p).state = .fault := by
      rw [State.softLower_pc] at h
      split_ifs at h
      · rcases (s.pc p).softLowered_cases s.bi.closed with ⟨-, e⟩ | ⟨up, -, ⟨-, e⟩ | ⟨-, -, e⟩ | ⟨-, -, -, e⟩ | ⟨-, -, -, e⟩⟩ <;>
          rw [e] at h
        · exact h
        · simp at h
        · exact h
        · exact h
        · simp at h
      · exact h
    have low : (s.pc p).risingOrUp = false := by simp [PC.risingOrUp, state]
    have same : s.softLower p = s := by simp [State.softLower, low]
    rw [same]
  · rw [State.panel, State.panel, State.softLower_pc_ne _ e, State.softLower_hold_ne _ e]

/-- The sensors of a controller clear its FAULT on the DOWN sensor at once (R44). -/
theorem State.sense_faultClear (s : State) (p : Pan) : (s.sense p).FaultClear p := by
  rcases s.senses p with ⟨quiet, e⟩ | ⟨-, k⟩
  · intro acts
    rw [e, quiet] at acts
    cases acts
  intro acts fault sensor
  have ioc : (s.sense p).downSensor p = s.downSensor p := State.downSensor_congr (by simp) p
  by_cases already : (s.pc p).state = .fault
  · have same : s.sense p = s.downInFault p := by
      have acts' : s.acts p = true := by simpa [State.acts] using acts
      simp [State.sense, acts', already, ioc ▸ sensor]
    rw [same]
    simp
  · generalize s.sense p = t at k fault ioc sensor ⊢
    cases k
    case none => exact absurd fault already
    case airLoss up _ =>
      rw [State.airLoss_pc, State.faultDrop_pc, State.fastDrop_pc] at fault
      have : ((s.pc p).dropped).state = .lowering := by simp [PC.dropped, up]
      split_ifs at fault
      · rw [this] at fault; cases fault
      · exact absurd fault already
    case up => simp at fault
    case drop _ _ on => simp [State.enterFault_pc, State.enterFault_hold, PC.faultedBy, on]
    case down => simp at fault
    case fault _ on _ _ => simp [State.enterFault_pc, State.enterFault_hold, PC.faultedBy, on]
    case off => simp

/-- What the reactions of a steady pantograph leave in FAULT was in FAULT, with the same DISC and the same entry. -/
theorem Ease.fault {closed up : Bool} {x y : PC × Bool} (one : Ease closed up x y) (h : y.1.state = .fault) :
    x.1.state = .fault ∧ y.1.disc = x.1.disc ∧ y.2 = x.2 := by
  have was : x.1.state = .fault := by
    rcases one.state with e | ⟨-, -, up⟩ | ⟨-, low⟩
    · exact e ▸ h
    · rw [h] at up; cases up
    · rw [h] at low; cases low
  have low : x.1.risingOrUp = false := by simp [PC.risingOrUp, was]
  refine ⟨was, ?_⟩
  cases one
  case soft c _ => simp [PC.softLowered, low]
  case advance c _ => simp [PC.advance, low]
  case vent raised _ => rw [low] at raised; cases raised
  case arrive rising _ => rw [rising] at was; cases was
  case target => exact ⟨rfl, rfl⟩

theorem Move.faultClear {s t : State} (m : Move s t) (p : Pan) (h : s.FaultClear p) : t.FaultClear p := by
  rcases m.sense_or_eases with ⟨q, rfl⟩ | eases
  · by_cases e : p = q
    · subst e; exact s.sense_faultClear p
    · exact h.congr (by simp) (by simp) fun fault => by
        rw [State.sense_pc_ne _ e] at fault ⊢
        exact ⟨fault, rfl, State.sense_hold_ne _ e⟩
  · intro acts fault sensor
    rw [State.acts_congr m.cl p] at acts
    rw [State.downSensor_congr m.ioc p] at sensor
    refine (eases p).keeps (Law := fun x => x.1.state = .fault → x.1.disc = false ∧ x.2 = false)
      (fun x y one law fault => ?_) (fun fault => h acts fault sensor) fault
    obtain ⟨was, disc, hold⟩ := one.fault fault
    rw [disc, hold]
    exact law was

/-- After the rounds of an event a FAULT on the DOWN sensor is clear. -/
theorem eventEnd_faultClear (c : Instr) (s : State) (p : Pan) : (eventEnd c s).FaultClear p := by
  have each : ∀ u v : State, Move u v → u.FaultClear p → v.FaultClear p := fun _ _ m => m.faultClear p
  have sensed : ((direct c s).pantographs).FaultClear p := by
    have rest : ∀ u : State, u.FaultClear p →
        ((((u.advancePan .a).advancePan .b).watchIsolated .a).watchIsolated .b).FaultClear p := fun u h =>
      each _ _ (.watch .b) (each _ _ (.watch .a) (each _ _ (.advance .b) (each _ _ (.advance .a) h)))
    refine rest _ ?_
    cases p
    · exact each _ _ (.sense .b) (State.sense_faultClear _ .a)
    · exact State.sense_faultClear _ .b
  have first : (settle rounds s (direct c s)).FaultClear p :=
    (((moves_wiring s _).trans (moves_others _)).trans (moves_settle 7 _ _)).keeps each sensed
  exact (((Reaction.clear (acting c s)).one.trans (moves_finish s (settled c s) (asksTest c s) (asksStatus c s))).keeps each
    first)

/-! ### The controllers' entries through the direct effects -/

theorem State.latchSoft_fault {s : State} {p : Pan} {c : DropCondition} (h : ((s.latchSoft c).pc p).state = .fault) :
    (s.latchSoft c).panel p = s.panel p := by
  unfold State.latchSoft at h ⊢
  split_ifs at h ⊢
  · rfl
  · have set : (((s.softLower .a).softLower .b).setLatch c).panel p = ((s.softLower .a).softLower .b).panel p := by
      cases p <;> rfl
    have pc : (((s.softLower .a).softLower .b).setLatch c).pc p = ((s.softLower .a).softLower .b).pc p := by cases p <;> rfl
    rw [pc] at h
    have second := State.softLower_fault h
    rw [(Prod.mk.inj second).1] at h
    exact (set.trans second).trans (State.softLower_fault h)

theorem State.judgeForced_fault {s : State} {p : Pan} (h : (s.judgeForced.pc p).state = .fault) :
    s.judgeForced.panel p = s.panel p := by
  unfold State.judgeForced at h ⊢
  dsimp only at h ⊢
  have start : (s.setCause .forced s.pv.force.forceDrop).panel p = s.panel p := by cases p <;> rfl
  split_ifs at h ⊢
  · exact (State.latchSoft_fault h).trans start
  · cases p <;> rfl
  · exact start

/-- A RESTORE takes a controller out of FAULT without an entry. -/
theorem State.restoreAll_panelLaw {s : State} (b : Bool) {p : Pan} (acts : s.acts p = true) (clear : s.FaultClear p)
    (law : PanelLaw (s.panel p)) : PanelLaw ((s.restoreAll b).panel p) := by
  have hold : (s.restoreAll b).bi.hold.pan p = s.bi.hold.pan p := by
    unfold State.restoreAll
    cases p <;> split_ifs <;> simp [HoldOpen.pan]
  rw [State.panel, hold]
  rcases s.pc_restoreAll b p with same | ⟨-, fault, sensor, restored⟩
  · rw [same]; exact law
  · obtain ⟨-, none⟩ := clear acts fault sensor
    rw [restored, none]
    exact .of_holds (PC.holdsOpen_down rfl).symm

theorem State.HoldOpenLaw.panelLaw {s : State} (h : s.HoldOpenLaw) {p : Pan} (acts : s.acts p = true) :
    PanelLaw (s.panel p) := by
  refine ⟨?_, h.down p acts⟩
  show s.bi.hold.pan p = (s.pc p).holdsOpen
  rw [Bool.eq_iff_iff]
  exact ⟨h.member p acts, h.lowered p acts⟩

theorem State.holdAbsent_hold (s : State) (p : Pan) {q : Pan} (acts : s.acts q = true) :
    (s.holdAbsent p).bi.hold.pan q = s.bi.hold.pan q := by
  by_cases e : q = p
  · subst e
    rw [State.holdAbsent_of_acts s q acts]
  · unfold State.holdAbsent
    split_ifs
    · rfl
    · rw [State.holdPan_hold_ne _ _ e, State.setPc_bi]

theorem State.goodStart_panel {s : State} (r : Vector Byte 128) {p : Pan}
    (acts : (s.goodStart r).acts p = true) : (s.goodStart r).panel p = s.panel p := by
  have present : ((clampImage (rawImage r)).pan p).present = true := by simpa [State.acts] using acts
  rw [State.panel, State.panel, State.goodStart_pc, if_pos present]
  refine congrArg (Prod.mk (s.pc p)) ?_
  unfold State.goodStart
  rw [State.holdAbsent_hold, State.holdAbsent_hold]
  · cases p <;> simp [HoldOpen.pan]
  · simpa [State.acts] using present
  · simpa [State.acts] using present

/-- The entries of the controllers that act through the direct effect of a command on a released part. -/
theorem direct_panelLaw {c : Instr} {s : State} (runs : Runs c s) (held : s.HeldLaw) (h : s.HoldOpenLaw) {p : Pan}
    (acts : (direct c s).acts p = true) : PanelLaw ((direct c s).panel p) := by
  have on : ∀ t : State, Turns s t → t.cl.image = s.cl.image → t.acts p = true → PanelLaw (t.panel p) :=
    fun t turns image acts => turns.panelLaw (h.panelLaw (by simpa [State.acts, image] using acts))
  cases beyond : beyondTurns c
  case false =>
    refine on _ (direct_turns beyond s) ?_ acts
    have d := direct_acts c s
    generalize direct c s = t at d ⊢
    induction d
    case release | goodRecord | badRecord | ramp | demand => cases beyond
    case readTimeout => rw [State.badVerdict_cl]
    all_goals simp
  have d := direct_acts c s
  generalize direct c s = t at d acts ⊢
  induction d
  case none => exact h.panelLaw acts
  case clash => exact h.panelLaw acts
  case error => exact on _ (.of_fields (by simp) (by simp) (by simp) (by simp)) (by simp) acts
  case badRecord =>
    exact on _ (.of_fields (by simp) (by simp) (by simp) (by simp)) (by rw [State.badVerdict_cl]) acts
  case release pins straps =>
    have off : s.released = false := by
      rcases runs with ⟨-, x⟩ | ⟨x, -⟩
      · cases x
      · exact x
    rw [held off]
    unfold State.release State.releaseLoop
    refine Turns.panelLaw (.ite (turns_eloopOpens _) (.refl _)) (.of_holds ?_)
    cases p <;> simp [State.panel, HoldOpen.pan, PC.holdsOpen, PC.reset, State.held, BI.reset]
  case goodRecord r pins _ _ =>
    have reading : s.reading = true := ‹_›
    have start : s.cl.image = none := by
      by_contra some
      have := (h.loader (Option.isSome_iff_ne_none.mpr some)).1
      simp [State.reading, this] at reading
    have acts' : (s.goodStart r).acts p = true := by simpa [State.acts, goodVerdict_image] using acts
    refine (turns_goodVerdict s r pins).panelLaw ?_
    rw [State.goodStart_panel r acts']
    exact h.panelLaw (by simp [State.acts, start])
  case ramp =>
    have before := h.panelLaw (p := p) (by simpa [State.acts] using acts)
    have hold : s.rampBoth.bi.hold = s.bi.hold := by simp
    rcases s.rampBoth_pc p with same | ⟨im, -, ramped⟩
    · rw [State.panel, same, hold]; exact before
    · rw [State.panel, ramped, hold]; exact ⟨before.holds, before.down⟩
  case demand x b im _ _ _ =>
    have acts' : s.acts p = true := by simpa [State.acts] using acts
    obtain ⟨r, ⟨later, before⟩ | turns⟩ := takeDemand_turns s im x b
    · refine later.panelLaw (State.restoreAll_panelLaw r (by simpa [State.acts] using acts') ?_
        (before.panelLaw (h.panelLaw acts')))
      have same : (s.enterDemand x b).panel p = s.panel p := by simp [State.panel, State.pc]
      have clear : s.FaultClear p := fun acts fault sensor => h.fault p acts fault sensor
      refine clear.congr (by simp) (by simp) fun fault => ?_
      obtain ⟨pc, hold⟩ := Prod.mk.inj ((State.judgeForced_fault fault).trans same)
      rw [pc] at fault ⊢
      exact ⟨fault, rfl, hold⟩
    · exact turns.panelLaw (h.panelLaw acts')
  all_goals cases beyond

/-! ### The Configuration Loader's entry -/

/-- The Configuration Loader is in the set exactly while the configuration is not good, and reads and retries only then
(R202). -/
structure State.LoaderLaw (s : State) : Prop where
  cl : s.bi.hold.cl = true ↔ s.cl.image = none
  loader : s.cl.image.isSome = true → s.cl.read = none ∧ s.cl.retryT = none

theorem State.LoaderLaw.congr {s t : State} (h : s.LoaderLaw) (hold : t.bi.hold.cl = s.bi.hold.cl) (cl : t.cl = s.cl) :
    t.LoaderLaw := by
  constructor <;> rw [cl]
  · rw [hold]; exact h.cl
  · exact h.loader

theorem Move.hold_cl {s t : State} (m : Move s t) : t.bi.hold.cl = s.bi.hold.cl := by
  induction m
  all_goals simp

theorem direct_loaderLaw {c : Instr} {s : State} (runs : Runs c s) (held : s.HeldLaw) (h : s.LoaderLaw) :
    (direct c s).LoaderLaw := by
  have started : s.cl.read.isSome = true ∨ s.cl.retryT.isSome = true → s.cl.image = none := by
    intro x
    by_contra some
    obtain ⟨read, retry⟩ := h.loader (Option.isSome_iff_ne_none.mpr some)
    simp [read, retry] at x
  have d := direct_acts c s
  generalize direct c s = t at d ⊢
  induction d
  case release pins straps =>
    have off : s.released = false := by
      rcases runs with ⟨-, x⟩ | ⟨x, -⟩
      · cases x
      · exact x
    rw [held off]
    have cl : ((({ State.held s.resetCause with pending := s.pending } : State).release pins straps)).bi.hold.cl = true := by
      unfold State.release State.releaseLoop
      split_ifs <;> simp [State.held, BI.reset]
    have image : ((({ State.held s.resetCause with pending := s.pending } : State).release pins straps)).cl.image = none := by
      unfold State.release State.releaseLoop
      split_ifs <;> simp [State.held, CL.reset]
    exact ⟨by simp [cl, image], fun x => by simp [image] at x⟩
  case goodRecord r pins _ _ =>
    have hold : (s.goodVerdict r pins).bi.hold.cl = false := by simp [State.goodVerdict_eq]
    have read : (s.goodVerdict r pins).cl.read = none ∧ (s.goodVerdict r pins).cl.retryT = none := by
      rw [State.goodVerdict_cl]
      exact ⟨rfl, rfl⟩
    exact ⟨by simp [hold, goodVerdict_image], fun _ => read⟩
  case badRecord | readTimeout =>
    have start := started (.inl ‹_›)
    have cl : s.badVerdict.cl.image = none := by rw [State.badVerdict_cl]; exact start
    have hold : s.badVerdict.bi.hold.cl = true := by simpa using h.cl.mpr start
    exact ⟨by rw [cl, hold]; simp, fun x => by simp [cl] at x⟩
  case readRetry retry =>
    have start := started (.inr retry)
    exact ⟨h.cl, fun x => by simp [start] at x⟩
  all_goals exact h.congr (by simp) (by simp)

/-! ### The law -/

/-- Settles O21: turns, moves and direct effects keep the entry of each member, and the first round of every event clears a
FAULT on its DOWN sensor. -/
theorem holdOpenSetFollowsItsTable : Obligations.HoldOpenSetFollowsItsTable := by
  refine step_keeps_of_held (Law := State.HoldOpenLaw) (fun s q h => ⟨h.1, h.2, h.3, h.4, h.5, h.6, h.7, h.8⟩)
    State.held_holdOpenLaw (fun s _ h => ?_) fun c s held h runs => ?_
  · refine ⟨fun p acts => ?_, fun p acts => ?_, fun p acts => ?_, fun p acts => ?_, h.cc, h.ds, h.cl, fun x => ?_⟩
    · rw [State.older_pc]; exact h.lowered p acts
    · rw [State.older_pc]; exact h.down p acts
    · rw [State.older_pc]; exact h.fault p acts
    · rw [State.older_pc]; exact h.member p acts
    · obtain ⟨read, retry⟩ := h.loader x
      simp [State.older, older, read, retry]
  · have both := eventEnd_holds c (s := s) ⟨?_, ?_⟩
    · have loader := eventEnd_keeps (Law := State.LoaderLaw) (fun u v m x => x.congr m.hold_cl m.cl)
        (direct_loaderLaw runs held ⟨h.cl, h.loader⟩)
      have panel : ∀ p, (eventEnd c s).acts p = true → PanelLaw ((eventEnd c s).panel p) := fun p acts => by
        have moves := moves_eventEnd c s
        exact moves.turns.panelLaw (direct_panelLaw runs held h (State.acts_congr moves.cl p ▸ acts))
      refine ⟨fun p acts x => ?_, fun p acts => (panel p acts).down, eventEnd_faultClear c s, fun p acts x => ?_, ?_, ?_,
        loader.cl, loader.loader⟩
      · exact (panel p acts).holds.trans x
      · exact (panel p acts).holds.symm.trans x
      · rw [both.1]; simp [Phase.holds, and_assoc]
      · rw [both.2, Bool.not_eq_true', ← Bool.not_eq_true, DropSet.isEmpty_iff]
    · rw [State.HoldsCC, Bool.eq_iff_iff, h.cc]
      simp [Phase.holds, and_assoc]
    · rw [State.HoldsDS, Bool.eq_iff_iff, h.ds, Bool.not_eq_true', ← Bool.not_eq_true, DropSet.isEmpty_iff]

end Sys2Proof.Machine
end

section
/-! PROOFS. With the breaker closed a collecting pantograph leaves the wire only with a reason (R39). -/

namespace Sys2Proof.Machine

/-! ### A collecting pantograph that stays on the wire -/

/-- The breaker is closed and the pantograph is UP in COLLECTING connection. -/
structure State.OnWire (s : State) (p : Pan) : Prop where
  closed : s.bi.closed = true
  up : (s.pc p).state = .up
  disc : (s.pc p).disc = true

theorem State.OnWire.congr {s t : State} {p : Pan} (h : s.OnWire p) (closed : t.bi.closed = s.bi.closed)
    (pc : (t.pc p).state = (s.pc p).state ∧ (t.pc p).disc = (s.pc p).disc) : t.OnWire p :=
  ⟨closed.trans h.closed, pc.1.trans h.up, pc.2.trans h.disc⟩

theorem State.OnWire.of_fields {s t : State} {p : Pan} (h : s.OnWire p) (closed : t.bi.closed = s.bi.closed)
    (a : t.pcA = s.pcA) (b : t.pcB = s.pcB) : t.OnWire p := by
  refine h.congr closed ?_
  have pc : t.pc p = s.pc p := by cases p <;> assumption
  rw [pc]
  exact ⟨rfl, rfl⟩

theorem State.OnWire.ite {s t : State} {p : Pan} {q : Prop} [Decidable q] (h : s.OnWire p) (k : t.OnWire p) :
    (if q then s else t).OnWire p := by
  split_ifs
  · exact h
  · exact k

theorem State.OnWire.softLower {s : State} {p : Pan} (h : s.OnWire p) (q : Pan) : (s.softLower q).OnWire p := by
  refine h.congr (by simp) ?_
  by_cases e : p = q
  · subst e
    rw [State.softLower_pc, h.closed]
    split_ifs
    · rcases (s.pc p).softLowered_cases true with ⟨-, e⟩ | ⟨-, -, ⟨d, -⟩ | ⟨-, -, e⟩ | ⟨-, x, -⟩ | ⟨-, x, -⟩⟩
      · rw [e]; exact ⟨rfl, rfl⟩
      · rw [h.disc] at d; cases d
      · rw [e]; exact ⟨rfl, rfl⟩
      · cases x
      · cases x
    · exact ⟨rfl, rfl⟩
  · rw [State.softLower_pc_ne _ e]
    exact ⟨rfl, rfl⟩

theorem State.OnWire.softBoth {s : State} {p : Pan} (h : s.OnWire p) : ((s.softLower .a).softLower .b).OnWire p :=
  (h.softLower .a).softLower .b

theorem State.OnWire.judgeForced {s : State} {p : Pan} (h : s.OnWire p) : s.judgeForced.OnWire p := by
  unfold State.judgeForced
  dsimp only
  have start : (s.setCause .forced s.pv.force.forceDrop).OnWire p := h.of_fields rfl rfl rfl
  refine .ite ?_ (.ite (start.of_fields rfl rfl rfl) start)
  unfold State.latchSoft
  exact .ite start (start.softBoth.of_fields (by simp) (by simp) (by simp))

theorem State.OnWire.restoreAll {s : State} {p : Pan} (h : s.OnWire p) (b : Bool) : (s.restoreAll b).OnWire p := by
  refine h.congr (by simp) ?_
  rcases s.pc_restoreAll b p with same | ⟨-, fault, -⟩
  · rw [same]; exact ⟨rfl, rfl⟩
  · rw [h.up] at fault; cases fault

theorem State.OnWire.handOn {s : State} {p : Pan} (h : s.OnWire p) (im : Image) (old : DemandInForce) (b : Bool) :
    (s.handOn im old b).OnWire p := by
  unfold State.handOn
  have taken : ((s.judgeForced.restoreAll b).ccHanded im s.pv.force b).OnWire p :=
    (h.judgeForced.restoreAll b).of_fields (by simp) (by simp) (by simp)
  refine State.OnWire.of_fields (s := ((s.judgeForced.restoreAll b).ccHanded im s.pv.force b).lowerOnDown old) ?_
    (by simp) (by simp) (by simp)
  exact .ite taken.softBoth taken

theorem State.OnWire.tableChanged {s : State} {p : Pan} (h : s.OnWire p) (im : Image) (l : List Entry) :
    (s.tableChanged im l).OnWire p := by
  unfold State.tableChanged
  dsimp only
  have start : ({ s with pv := { s.pv with table := l } } : State).formDemand.OnWire p :=
    h.of_fields (by simp) (by simp) (by simp)
  exact .ite (start.handOn im _ false) start

theorem State.OnWire.takeRoof {s : State} {p : Pan} (h : s.OnWire p) (im : Image) (x : RxHeader)
    (f : RoofData → RoofData) : (s.takeRoof im x f).OnWire p :=
  .ite ((h.tableChanged im _).of_fields rfl rfl rfl) (h.tableChanged im _)

theorem State.OnWire.takeDemand {s : State} {p : Pan} (h : s.OnWire p) (im : Image) (x : RxHeader)
    (b : Vector Byte 10) : (s.takeDemand im x b).OnWire p := by
  unfold State.takeDemand
  dsimp only
  have start : (s.enterDemand x b).OnWire p := h.of_fields (by simp) (by simp) (by simp)
  exact .ite (start.handOn im _ _) start

theorem State.OnWire.failRequalify {s : State} {p : Pan} (h : s.OnWire p) : s.failRequalify.OnWire p := by
  unfold State.failRequalify
  split
  · exact (h.softLower _).of_fields rfl rfl rfl
  · exact h.of_fields rfl rfl rfl

theorem State.OnWire.judgeWindow {s : State} {p : Pan} (h : s.OnWire p) (im : Image) : (s.judgeWindow im).OnWire p := by
  unfold State.judgeWindow
  dsimp only
  have counted : ({ s with cc := { s.cc with rqCount := satInc 255 s.cc.rqCount } } : State).OnWire p :=
    h.of_fields rfl rfl rfl
  refine .ite ?_ h
  split
  · exact .ite (counted.of_fields rfl rfl rfl) counted.failRequalify
  · exact counted

theorem State.OnWire.endScrape {s : State} {p : Pan} (h : s.OnWire p) (im : Image) (q : Pan) :
    (s.endScrape im q).OnWire p := (h.softLower q).of_fields rfl rfl rfl

/-! ### The reasons for which it leaves -/

/-- A pantograph that was on the wire is there still, has come to rest, or is LOWERING for a reason: its
own fault, EMERGENCY, or the forced drop of a section that goes on. -/
def State.Explained (s : State) (p : Pan) : Prop :=
  ((s.pc p).state = .up ∧ (s.pc p).disc = true) ∨ (s.pc p).state = .down ∨ (s.pc p).state = .fault ∨
    ((s.pc p).state = .lowering ∧
      ((s.pc p).pendingFault.isSome = true ∨ s.ds.latch.emergency = true ∨
        (s.cc.forcedDrop = true ∧ s.cc.phase.holds = true)))

/-- The two reasons that lie beside the controller. -/
def State.DropReason (s : State) : Prop :=
  s.ds.latch.emergency = true ∨ (s.cc.forcedDrop = true ∧ s.cc.phase.holds = true)

theorem State.Explained.congr {s t : State} {p : Pan} (h : s.Explained p)
    (pc : (t.pc p).state = (s.pc p).state ∧ (t.pc p).disc = (s.pc p).disc ∧
      (t.pc p).pendingFault = (s.pc p).pendingFault)
    (reason : s.DropReason → t.DropReason) : t.Explained p := by
  obtain ⟨state, disc, fault⟩ := pc
  rcases h with on | down | fault' | ⟨low, own | why⟩
  · exact .inl ⟨state.trans on.1, disc.trans on.2⟩
  · exact .inr (.inl (state.trans down))
  · exact .inr (.inr (.inl (state.trans fault')))
  · exact .inr (.inr (.inr ⟨state.trans low, .inl (fault ▸ own)⟩))
  · exact .inr (.inr (.inr ⟨state.trans low, .inr (reason why)⟩))

theorem State.Explained.of_fields {s t : State} {p : Pan} (h : s.Explained p)
    (a : t.pcA = s.pcA) (b : t.pcB = s.pcB) (reason : s.DropReason → t.DropReason) : t.Explained p := by
  have pc : t.pc p = s.pc p := by cases p <;> assumption
  exact h.congr (by rw [pc]; exact ⟨rfl, rfl, rfl⟩) reason

/-- A controller at rest or that lowers for a reason takes a soft lower request as one on the wire does: it stays. -/
theorem State.Explained.softLower {s : State} {p : Pan} (closed : s.bi.closed = true) (h : s.Explained p) (q : Pan) :
    (s.softLower q).Explained p := by
  rcases h with on | rest
  · have wire : (s.softLower q).OnWire p := State.OnWire.softLower ⟨closed, on.1, on.2⟩ q
    exact .inl ⟨wire.up, wire.disc⟩
  · have low : (s.pc p).risingOrUp = false := by
      rcases rest with x | x | ⟨x, -⟩ <;> simp [PC.risingOrUp, x]
    refine State.Explained.congr (s := s) (.inr rest) ?_ (by simp [State.DropReason])
    by_cases e : p = q
    · subst e
      have same : s.softLower p = s := by simp [State.softLower, low]
      rw [same]
      exact ⟨rfl, rfl, rfl⟩
    · rw [State.softLower_pc_ne _ e]
      exact ⟨rfl, rfl, rfl⟩

/-- After a fast drop a pantograph that was explained is explained, when the drop itself has a reason. -/
theorem State.Explained.dropped {s t : State} {p : Pan} (h : s.Explained p) (reason : t.DropReason)
    (pc : (t.pc p).state = ((s.pc p).dropped).state ∧ (t.pc p).disc = ((s.pc p).dropped).disc ∧
      (t.pc p).pendingFault = ((s.pc p).dropped).pendingFault) : t.Explained p := by
  obtain ⟨state, -, -⟩ := pc
  rcases h with on | down | fault | ⟨low, -⟩
  · refine .inr (.inr (.inr ⟨?_, .inr reason⟩))
    simp [state, PC.dropped, PC.risingOrUp, on.1]
  · exact .inr (.inl (by simp [state, PC.dropped, PC.risingOrUp, down]))
  · exact .inr (.inr (.inl (by simp [state, PC.dropped, PC.risingOrUp, fault])))
  · refine .inr (.inr (.inr ⟨?_, .inr reason⟩))
    simp [state, PC.dropped, PC.risingOrUp, low]

theorem State.Explained.fastDrop {s : State} {p : Pan} (h : s.Explained p) (q : Pan) (reason : s.DropReason) :
    (s.fastDrop q).Explained p := by
  have kept : (s.fastDrop q).DropReason := by simpa [State.DropReason] using reason
  by_cases e : p = q
  · subst e
    by_cases acts : s.acts p = true
    · exact h.dropped kept (by rw [State.fastDrop_pc, if_pos acts]; exact ⟨rfl, rfl, rfl⟩)
    · have same : s.fastDrop p = s := by simp [State.fastDrop, acts]
      rw [same]
      exact h
  · exact h.congr (by rw [State.fastDrop_pc_ne _ e]; exact ⟨rfl, rfl, rfl⟩) fun _ => kept

theorem State.Explained.enterFault {s : State} {p : Pan} (h : s.Explained p) (q : Pan) (k : FaultCause) :
    (s.enterFault q k).Explained p := by
  by_cases e : p = q
  · subst e
    exact .inr (.inr (.inl (by rw [State.enterFault_pc]; rfl)))
  · exact h.congr (by rw [State.enterFault_pc_ne _ _ e]; exact ⟨rfl, rfl, rfl⟩) (by simp [State.DropReason])

theorem State.Explained.faultDrop {s : State} {p : Pan} (h : s.Explained p) (q : Pan) (k : FaultCause) :
    (s.faultDrop q k).Explained p := by
  by_cases e : p = q
  · subst e
    have own : ((s.faultDrop p k).pc p).pendingFault.isSome = true := by rw [State.faultDrop_pc]; rfl
    have state : ((s.faultDrop p k).pc p).state = ((s.fastDrop p).pc p).state := by rw [State.faultDrop_pc]
    by_cases acts : s.acts p = true
    · rw [State.fastDrop_pc, if_pos acts] at state
      rcases h with on | down | fault | ⟨low, -⟩
      · exact .inr (.inr (.inr ⟨by simp [state, PC.dropped, PC.risingOrUp, on.1], .inl own⟩))
      · exact .inr (.inl (by simp [state, PC.dropped, PC.risingOrUp, down]))
      · exact .inr (.inr (.inl (by simp [state, PC.dropped, PC.risingOrUp, fault])))
      · exact .inr (.inr (.inr ⟨by simp [state, PC.dropped, PC.risingOrUp, low], .inl own⟩))
    · rw [State.fastDrop_pc, if_neg acts] at state
      have disc : ((s.faultDrop p k).pc p).disc = (s.pc p).disc := by
        rw [State.faultDrop_pc, State.fastDrop_pc, if_neg acts]
      rcases h with on | down | fault | ⟨low, -⟩
      · exact .inl ⟨state.trans on.1, disc.trans on.2⟩
      · exact .inr (.inl (state.trans down))
      · exact .inr (.inr (.inl (state.trans fault)))
      · exact .inr (.inr (.inr ⟨state.trans low, .inl own⟩))
  · refine h.congr ?_ (by simp [State.DropReason])
    rw [State.faultDrop_pc_ne _ _ e]
    exact ⟨rfl, rfl, rfl⟩

theorem DropSet.set_emergency (d : DropSet) (c : DropCondition) (h : d.emergency = true) :
    (d.set c true).emergency = true := by
  cases c <;> first | rfl | exact h

theorem State.DropReason.setLatch {s : State} (h : s.DropReason) (c : DropCondition) : (s.setLatch c).DropReason := by
  rcases h with x | x
  · exact .inl (DropSet.set_emergency _ c x)
  · exact .inr x

theorem State.Explained.airLoss {s : State} {p : Pan} (h : s.Explained p) (q : Pan) : (s.airLoss q).Explained p := by
  unfold State.airLoss State.latchAirLoss
  split_ifs
  · exact h.faultDrop q _
  · exact (h.faultDrop q _).of_fields rfl rfl fun x => x.setLatch _

theorem State.Explained.sense {s : State} {p : Pan} (h : s.Explained p) (q : Pan) : (s.sense q).Explained p := by
  rcases s.senses q with ⟨-, e⟩ | ⟨-, k⟩
  · rw [e]; exact h
  generalize s.sense q = t at k ⊢
  cases k
  case none => exact h
  case airLoss => exact h.airLoss q
  case drop | fault => exact h.enterFault q _
  case up rising _ _ =>
    refine h.congr ?_ (by simp [State.DropReason])
    by_cases e : p = q
    · subst e
      rcases h with on | x | x | ⟨x, -⟩
      · cases rising.symm.trans on.1
      all_goals cases rising.symm.trans x
    · rw [State.setPc_pc_ne _ _ e]
      exact ⟨rfl, rfl, rfl⟩
  case down low _ none =>
    by_cases e : p = q
    · subst e
      exact .inr (.inl (by simp))
    · refine h.congr ?_ (by simp [State.DropReason])
      rw [State.holdPan_pc, State.setPc_pc_ne _ _ e]
      exact ⟨rfl, rfl, rfl⟩
  case off fault _ =>
    by_cases e : p = q
    · subst e
      exact .inr (.inr (.inl (by simp [fault])))
    · refine h.congr ?_ (by simp [State.DropReason])
      rw [State.downInFault_pc_ne _ e]
      exact ⟨rfl, rfl, rfl⟩

theorem State.Explained.advancePan {s : State} {p : Pan} (closed : s.bi.closed = true) (h : s.Explained p) (q : Pan) :
    (s.advancePan q).Explained p := by
  refine h.congr ?_ (by simp [State.DropReason])
  by_cases e : p = q
  · subst e
    have same : (s.pc p).advance s.bi.closed = s.pc p := by
      rcases h with on | x | x | ⟨x, -⟩
      · simp [PC.advance, closed]
      all_goals simp [PC.advance, PC.risingOrUp, x]
    rw [State.advancePan_pc, same]
    exact ⟨rfl, rfl, rfl⟩
  · rw [State.advancePan_pc_ne _ e]
    exact ⟨rfl, rfl, rfl⟩

theorem State.Explained.watchIsolated {s : State} {p : Pan} (h : s.Explained p) (q : Pan) :
    (s.watchIsolated q).Explained p := by
  refine h.congr ?_ (by simp [State.DropReason])
  by_cases e : p = q
  · subst e
    have quiet : s.watched p = false := by
      rcases h with on | x | x | ⟨x, -⟩
      · simp [State.watched, on.2]
      all_goals simp [State.watched, PC.risingOrUp, x]
    rw [State.watchIsolated_pc, quiet]
    exact ⟨rfl, rfl, rfl⟩
  · rw [State.watchIsolated_pc_ne _ e]
    exact ⟨rfl, rfl, rfl⟩

theorem State.reactFault_reason {s : State} (im : Image) (h : s.DropReason) : (s.reactFault im).DropReason := by
  rcases h with x | ⟨mark, phase⟩
  · exact .inl (by simpa using x)
  · refine .inr ?_
    unfold State.reactFault
    split
    · split_ifs
      · split
        · exact ⟨mark, rfl⟩
        · dsimp only
          split
          · exact ⟨mark, phase⟩
          · exact ⟨mark, rfl⟩
          · exact ⟨mark, phase⟩
      · exact ⟨mark, phase⟩
    · exact ⟨mark, phase⟩

theorem State.DropReason.judgeCause {s : State} (h : s.DropReason) (im : Image) (c : DropCondition) :
    (s.judgeCause im c).DropReason := by
  obtain ⟨t, taken, e⟩ := s.judgeCause_cases im c
  have start : t.DropReason := by
    rcases taken with rfl | rfl <;> simpa [State.DropReason] using h
  rcases e with e | e <;> rw [e]
  · exact start
  · unfold State.latchSoft
    split_ifs
    · exact start
    · exact State.DropReason.setLatch (by simpa [State.DropReason] using start) _

theorem State.Explained.judgeCause {s : State} {p : Pan} (h : s.Explained p) (closed : s.bi.closed = true) (im : Image)
    (c : DropCondition) : (s.judgeCause im c).Explained p := by
  obtain ⟨t, taken, e⟩ := s.judgeCause_cases im c
  have start : t.Explained p ∧ t.bi.closed = true := by
    rcases taken with rfl | rfl <;> exact ⟨h.of_fields (by simp) (by simp) (by simp [State.DropReason]), by simpa using closed⟩
  rcases e with e | e <;> rw [e]
  · exact start.1
  · unfold State.latchSoft
    split_ifs
    · exact start.1
    · have lowered := State.Explained.softLower (by simpa using start.2) (State.Explained.softLower start.2 start.1 .a) .b
      exact lowered.of_fields (by simp) (by simp) fun x => x.setLatch _

theorem State.Explained.passEnds {s t : State} {p : Pan} (h : s.Explained p) (closed : s.bi.closed = true)
    (ends : s.PassEnds t) (reason : s.DropReason → t.DropReason) : t.Explained p := by
  rcases ends with same | ⟨q, -, soft⟩
  · have pc : t.pc p = s.pc p := congrArg Prod.fst (same p)
    exact h.congr (by rw [pc]; exact ⟨rfl, rfl, rfl⟩) reason
  · have pc : t.pc p = (s.softLower q).pc p := congrArg Prod.fst (soft p)
    exact (State.Explained.softLower closed h q).congr (by rw [pc]; exact ⟨rfl, rfl, rfl⟩)
      fun x => reason (by simpa [State.DropReason] using x)

/-- The moves of an event keep the reasons of a drop. -/
theorem Move.dropReason {s t : State} (m : Move s t) (h : s.DropReason) : t.DropReason := by
  induction m
  case fault im _ => exact State.reactFault_reason im h
  case judge im c _ _ _ => exact h.judgeCause im c
  case stow =>
    unfold State.reactOpening State.enterStowing
    dsimp only
    split_ifs
    all_goals first | exact h | exact h.imp (by simp) fun x => ⟨by simpa using x.1, by simp [Phase.holds]⟩
  case stowed =>
    unfold State.reactStowing
    dsimp only
    split_ifs
    · exact h.imp id fun x => ⟨x.1, rfl⟩
    · exact h
  case coasted =>
    unfold State.reactCoasting
    split_ifs
    · exact h.imp id fun x => ⟨x.1, rfl⟩
    · exact h
  case close im _ =>
    rcases h with x | x
    · exact .inl (by simpa using x)
    · have open' : s.cc.phase ≠ .closing := fun e => by simp [e, Phase.holds] at x
      simp only [State.reactClosing, open', if_false]
      exact .inr x
  case requalify =>
    unfold State.reactRequalify
    split_ifs <;> exact h
  case restore im _ =>
    unfold State.formRestore
    split_ifs <;> exact h
  case sense p =>
    rcases s.senses p with ⟨-, e⟩ | ⟨-, k⟩
    · rw [e]; exact h
    generalize s.sense p = t at k ⊢
    cases k
    case airLoss =>
      unfold State.airLoss State.latchAirLoss
      have start : (s.faultDrop p .airLoss).DropReason := by simpa [State.DropReason] using h
      split_ifs
      · exact start
      · exact start.setLatch _
    all_goals simpa [State.DropReason] using h
  all_goals simpa [State.DropReason] using h

theorem Move.explained {s t : State} (m : Move s t) {p : Pan} (closed : s.bi.closed = true) (h : s.Explained p) :
    t.Explained p := by
  have reason := m.dropReason
  induction m
  case sense q => exact h.sense q
  case advance q => exact State.Explained.advancePan closed h q
  case watch q => exact h.watchIsolated q
  case stow =>
    rw [State.reactOpening, if_neg fun x => by rw [closed] at x; cases x.2]
    exact h
  case ice im _ => exact State.Explained.passEnds h closed (s.formIce_ends im) (by simp [State.DropReason])
  case pass im _ => exact State.Explained.passEnds h closed (s.reactPass_ends im) (by simp [State.DropReason])
  case judge im c _ _ _ => exact h.judgeCause closed im c
  case targets => exact h.congr (by cases p <;> exact ⟨rfl, rfl, rfl⟩) reason
  all_goals exact h.of_fields (by simp) (by simp) reason

/-! ### The direct effects -/

theorem State.eloopOpens_explained {s : State} {p : Pan} (h : s.Explained p) : s.eloopOpens.Explained p := by
  unfold State.eloopOpens State.latchEmergency
  have start : (s.setCause .emergency true).Explained p := h.of_fields rfl rfl id
  split_ifs with latched
  · exact start.of_fields rfl rfl id
  · have set : (s.setCause .emergency true).setLatch .emergency |>.Explained p :=
      start.of_fields rfl rfl fun x => x.setLatch _
    have reason : ((s.setCause .emergency true).setLatch .emergency).DropReason := .inl rfl
    have dropped := (set.fastDrop .a reason).fastDrop .b (by simpa [State.DropReason] using reason)
    have latch : ∀ (u : State) (q : Pan), (u.setLatch .emergency).fastDrop q = (u.fastDrop q).setLatch .emergency := by
      intro u q
      unfold State.fastDrop
      rw [State.setLatch_pc, State.acts_congr (State.setLatch_cl u _)]
      dsimp only
      split_ifs <;> cases q <;> rfl
    rw [latch, latch] at dropped
    exact dropped.of_fields rfl rfl id

/-- A change of the direction view leaves a forced drop marked but in ARMED, where none is (R104). -/
theorem State.ccDirection_reason {s : State} (im : Image) (h : s.DropReason) : (s.ccDirection im).DropReason := by
  rcases h with x | ⟨mark, phase⟩
  · exact .inl (by simpa using x)
  · refine .inr ?_
    unfold State.ccDirection
    dsimp only
    split
    next e => simp [e, Phase.holds] at phase
    next => exact ⟨mark, phase⟩
    next e => simp [e, Phase.holds] at phase
    next => exact ⟨mark, rfl⟩

theorem State.setView_reason {s : State} (d : Direction) (h : s.DropReason) : (s.setView d).DropReason := by
  unfold State.setView State.ifGood
  split_ifs
  · exact h
  · split
    · exact State.ccDirection_reason _ h
    · exact h

theorem State.setView_explained {s : State} {p : Pan} (d : Direction) (h : s.Explained p) : (s.setView d).Explained p :=
  h.of_fields (by simp) (by simp) (State.setView_reason d)

theorem State.accept_explained {s : State} {p : Pan} (i : LevelInput) (b : Bool) (h : s.Explained p) :
    (s.accept i b).Explained p := by
  unfold State.accept
  generalize e : ({ s with
    ioc := { s.ioc with levels := withLevel s.ioc.levels i b, runs := s.ioc.runs.set i 0 } } : State) = u
  have h : u.Explained p := by subst e; exact h.of_fields rfl rfl id
  have height : ∀ q, (u.heightLevel q b).Explained p := by
    intro q
    refine h.congr ?_ (by simp [State.DropReason])
    unfold State.heightLevel
    dsimp only
    split_ifs
    case neg => exact ⟨rfl, rfl, rfl⟩
    case neg => exact ⟨rfl, rfl, rfl⟩
    all_goals cases p <;> cases q <;> exact ⟨rfl, rfl, rfl⟩
  cases i
  case upA => exact height .a
  case upB => exact height .b
  case eloop =>
    cases b
    · exact State.eloopOpens_explained h
    · exact h.of_fields rfl rfl id
  case brkFb => exact h.of_fields rfl rfl id
  case dir =>
    show u.dirAccepted.Explained p
    unfold State.dirAccepted
    split_ifs
    · exact State.setView_explained _ h
    · exact h.of_fields rfl rfl id
    · exact h
  all_goals exact h

theorem State.fastDrop_cc (s : State) (c : CC) (q : Pan) :
    ({ s with cc := c } : State).fastDrop q = { s.fastDrop q with cc := c } := by
  have acts : ({ s with cc := c } : State).acts q = s.acts q := rfl
  have pc : ({ s with cc := c } : State).pc q = s.pc q := by cases q <;> rfl
  unfold State.fastDrop
  rw [acts, pc]
  dsimp only
  split_ifs <;> cases q <;> rfl

/-- A fast drop of a section's forced drop, which the mark that goes with it explains (R113, R115). -/
theorem State.Explained.forced {s : State} {p : Pan} (h : s.Explained p) (holds : s.cc.phase.holds = true) (a b : Bool) :
    let t := if a then s.fastDrop .a else s
    ((if b then t.fastDrop .b else t).markForcedDrop).Explained p := by
  let c : CC := { s.cc with forcedDrop := true }
  have marked : ({ s with cc := c } : State).Explained p := h.of_fields rfl rfl fun x => x.imp id fun y => ⟨rfl, y.2⟩
  have drop : ∀ (u : State) (q : Pan), ({ u with cc := c } : State).Explained p →
      ({ u.fastDrop q with cc := c } : State).Explained p :=
    fun u q x => u.fastDrop_cc c q ▸ x.fastDrop q (.inr ⟨rfl, holds⟩)
  have reason : ∀ u : State, u.cc.phase = s.cc.phase → u.markForcedDrop.DropReason := fun u e => .inr ⟨rfl, e ▸ holds⟩
  cases a <;> cases b
  · exact marked.of_fields rfl rfl fun _ => reason s rfl
  · exact (drop s .b marked).of_fields rfl rfl fun _ => reason _ (by simp)
  · exact (drop s .a marked).of_fields rfl rfl fun _ => reason _ (by simp)
  · exact (drop _ .b (drop s .a marked)).of_fields rfl rfl fun _ => reason _ (by simp)

theorem State.endLeg2_explained {s : State} {p : Pan} (closed : s.bi.closed = true) (h : s.Explained p) :
    s.endLeg2.Explained p := by
  have stowing : s.cc.phase = .stowing → s.forcedDropStowing.Explained p := by
    intro phase
    have drops := h.forced (by rw [phase]; rfl) (s.lateStowing .a) (s.lateStowing .b)
    unfold State.forcedDropStowing
    by_cases late : (s.lateStowing .a || s.lateStowing .b) = true
    · rw [if_pos late]; exact drops
    · rw [if_neg late]; exact h
  refine State.Explained.of_fields (s := s.leg2Effect) ?_ rfl rfl id
  unfold State.leg2Effect
  split
  next phase =>
    rw [if_pos closed]
    exact (h.forced (by rw [phase]; rfl) true true).of_fields rfl rfl fun x => x.imp id fun y => ⟨y.1, rfl⟩
  next phase => exact stowing phase
  next => exact h

theorem State.countPulse_explained {s : State} {p : Pan} (closed : s.bi.closed = true) (h : s.Explained p) :
    s.countPulse.Explained p := by
  unfold State.countPulse
  split
  · split_ifs
    · split
      · exact h.of_fields (by simp) (by simp) fun x => x.imp id fun y => ⟨y.1, rfl⟩
      · exact State.endLeg2_explained closed h
      · exact h.of_fields rfl rfl id
    · exact h.of_fields rfl rfl id
  · exact h

theorem State.odoInput_explained {s : State} {p : Pan} (closed : s.bi.closed = true) (h : s.Explained p) (r : Bool)
    (n : Nat) : (s.odoInput r n).Explained p := by
  unfold State.odoInput State.ifGood
  split_ifs
  · split
    next im _ =>
      let u : State := { s with ioc := (s.ioc.takePulse n).runPulse im.ppm }
      have pulse : u.countPulse.Explained p := State.countPulse_explained closed (h.of_fields rfl rfl id)
      have closed' : u.countPulse.countCooldown.bi.closed = true := by simpa [u] using closed
      have cool : u.countPulse.countCooldown.Explained p :=
        pulse.of_fields (by simp) (by simp) fun x => by simpa [State.DropReason] using x
      show (u.countPulse.countCooldown.countScrape im).Explained p
      unfold State.countScrape
      split
      · split_ifs
        · split
          · exact (State.Explained.softLower closed' cool _).of_fields rfl rfl id
          · exact cool.of_fields rfl rfl id
        · exact cool.of_fields rfl rfl id
      · exact cool
    · exact h.of_fields rfl rfl id
  · exact h

/-- The direct effect of a command on a pantograph on the wire of a closed breaker leaves it there, or gives the reason. -/
theorem direct_explained {c : Instr} {s : State} {p : Pan} (kind : resets c = false)
    (h : s.OnWire p) : (direct c s).Explained p := by
  have explained : s.Explained p := .inl ⟨h.up, h.disc⟩
  have wire : ∀ t : State, t.OnWire p → t.Explained p := fun t x => .inl ⟨x.up, x.disc⟩
  have d := direct_acts c s
  generalize direct c s = t at d ⊢
  induction d
  case none => exact explained
  case release => cases kind
  case goodRecord r pins _ _ =>
    rw [State.goodVerdict_eq]
    have start : (s.goodStart r).Explained p := by
      have pc := s.goodStart_pc r p
      split_ifs at pc
      · exact explained.congr (by rw [pc]; exact ⟨rfl, rfl, rfl⟩) (by simp [State.DropReason])
      · exact .inr (.inl (by rw [pc]; rfl))
    have formed := State.reformLevels_keeps (Law := fun u => u.Explained p)
      (fun _ _ x => x.of_fields rfl rfl id) (fun _ i b x => State.accept_explained i b x)
      (fun _ d x => State.setView_explained d x) (s.goodStart r)
      (logical (clampImage (rawImage r)).polarities.levels pins) start
    have verdict := formed.of_fields (t := ((s.goodStart r).reformLevels
      (logical (clampImage (rawImage r)).polarities.levels pins)).verdict) (by simp) (by simp) (by simp [State.DropReason])
    have lower : ∀ (u : State) (q : Pan), u.Explained p → (u.startLower q).Explained p := by
      intro u q x
      refine x.congr ?_ (by simp [State.DropReason])
      unfold State.startLower
      split_ifs
      · cases p <;> cases q <;> exact ⟨rfl, rfl, rfl⟩
      · exact ⟨rfl, rfl, rfl⟩
    exact lower _ .b (lower _ .a verdict)
  case sample im _ =>
    refine wire _ ?_
    unfold State.takeSample State.windowEnd
    dsimp only
    refine .ite (h.of_fields rfl rfl rfl) (State.OnWire.judgeWindow ?_ im)
    exact .ite (h.of_fields rfl rfl rfl) (h.of_fields rfl rfl rfl)
  case accept i b _ => exact State.accept_explained i b explained
  case raiseTimeout q _ => exact explained.faultDrop q _
  case heightLoss q _ => exact explained.faultDrop q _
  case lowerTimeout q _ => exact explained.enterFault q _
  case ramp =>
    refine explained.congr ?_ (by simp [State.DropReason])
    rcases s.rampBoth_pc p with same | ⟨im, -, ramped⟩
    · rw [same]; exact ⟨rfl, rfl, rfl⟩
    · rw [ramped]; exact ⟨rfl, rfl, rfl⟩
  case demand x b im _ _ _ => exact wire _ (h.takeDemand im x b)
  case status im _ _ _ => exact wire _ ((h.takeRoof im _ _).of_fields rfl rfl rfl)
  case claim im _ _ _ => exact wire _ (h.takeRoof im _ _)
  case withdraw im _ _ _ => exact wire _ (h.takeRoof im _ _)
  case record im _ _ _ => exact wire _ (h.takeRoof im _ _)
  case removeLearning im _ => exact wire _ (.ite (h.tableChanged im _) h)
  case removeLost im _ => exact wire _ (.ite (h.tableChanged im _) h)
  case lose im _ =>
    unfold State.loseEntry
    split
    · exact wire _ (.ite (h.tableChanged im _) h)
    · exact explained
  case ageOut im _ =>
    unfold State.ageOutClaim
    split
    · exact wire _ (.ite (h.tableChanged im _) h)
    · exact explained
  case holdOff im _ _ =>
    refine wire _ (h.congr (by simp) ?_)
    rcases s.holdOffEnd_pc im p with same | ⟨_, -, -, -, -, taken, -⟩
    · rw [same]; exact ⟨rfl, rfl⟩
    · simp [State.grantTaken, h.up] at taken
  case conflict q _ =>
    refine wire _ ?_
    unfold State.resolveConflict
    cases q <;> exact (h.softLower _).of_fields rfl rfl rfl
  case pulse => exact State.odoInput_explained h.closed explained _ _
  case leg1 => exact explained.of_fields (by simp) (by simp) fun x => x.imp id fun y => ⟨y.1, rfl⟩
  case leg2 => exact State.endLeg2_explained h.closed explained
  case stuck => exact explained.of_fields rfl rfl id
  case leg3 => exact explained.of_fields rfl rfl id
  case requalify => exact wire _ h.failRequalify
  case scrapeEnd im _ =>
    unfold State.scrapeEnds
    split
    · exact wire _ (h.endScrape im _)
    · exact explained
  case stationary => exact State.setView_explained _ (explained.of_fields rfl rfl id)
  case levels pins =>
    exact State.sampleAll_keeps (Law := fun u => u.Explained p) (fun _ _ x => x.of_fields rfl rfl id)
      (fun _ i b x => State.accept_explained i b x) s _ explained
  all_goals exact wire _ (h.of_fields (by simp) (by simp) (by simp))

/-- Settles O27. -/
theorem collectingLeavesTheWireOnlyOnAnOpenBreaker : Obligations.CollectingLeavesTheWireOnlyOnAnOpenBreaker := by
  intro s t p stepped released live closed closed' up low
  obtain ⟨state, disc⟩ : (s.pc p).state = .up ∧ (s.pc p).disc = true := by simpa [PC.upCollecting] using up
  rcases step_cases stepped with ⟨_, rfl⟩ | ⟨c, rest, _, answer⟩
  · have pc : s.tick.pc p = (s.pc p).older := by
      unfold State.tick
      rw [if_pos released]
      exact s.older_pc p
    rw [pc] at low
    cases state.symm.trans low
  · cases answer with
    | idle => cases state.symm.trans low
    | reset => cases live
    | event runs =>
      have kind : resets c = false := by
        rcases runs with ⟨-, x⟩ | ⟨x, -⟩
        · exact x
        · cases released.symm.trans x
      have start : (direct c { s with pending := rest }).Explained p := direct_explained kind ⟨closed, state, disc⟩
      have moves := moves_eventEnd c { s with pending := rest }
      have before : (direct c { s with pending := rest }).bi.closed = true := by simpa [eventEnd, settled] using closed'
      have law := moves.keeps (Law := fun u => u.bi.closed = true ∧ u.Explained p)
        (fun u v m x => ⟨m.closed.trans x.1, m.explained x.1 x.2⟩) ⟨before, start⟩
      rcases law.2 with on | x | x | ⟨-, own | emergency | mark⟩
      · cases on.1.symm.trans low
      · cases x.symm.trans low
      · cases x.symm.trans low
      · exact .inl own
      · exact .inr (.inl emergency)
      · exact .inr (.inr mark.1)

end Sys2Proof.Machine
end

section
/-! PROOFS. VALVE and heaters come on only by the own claim (R92). -/

namespace Sys2Proof.Machine

/-! ### VALVE -/

/-- What a DEMAND does to the controllers: its RESTORE, and drifting. -/
theorem takeDemand_drifts (s : State) (im : Image) (h : RxHeader) (b : Vector Byte 10) :
    ∃ restore, Drifts ((s.enterDemand h b).judgeForced.restoreAll restore) (s.takeDemand im h b) ∧
      Drifts s (s.enterDemand h b).judgeForced ∨ Drifts s (s.takeDemand im h b) := by
  have entered : Drifts s (s.enterDemand h b) := .of_same (by simp) (by simp)
  unfold State.takeDemand
  dsimp only
  split_ifs
  · exact ⟨_, .inl ⟨drifts_handOn _ _ _ _, entered.trans (State.Reacts.judgeForced _).drifts⟩⟩
  · exact ⟨false, .inr entered⟩

/-- The direct effect of a command other than the grant leaves VALVE off. -/
theorem direct_valve {c : Instr} {s : State} {p : Pan} (grant : c ≠ .holdOffExpiry) (off : (s.pc p).valve = false) :
    ((direct c s).pc p).valve = false := by
  have drift : ∀ {t u : State}, Drifts t u → (t.pc p).valve = false → (u.pc p).valve = false := by
    intro t u h x
    by_contra y
    rw [(h p).valve (by simpa using y)] at x
    cases x
  cases steers : steersPantographs c
  case false => exact drift (direct_drifts steers s) off
  have d := direct_acts c s
  generalize direct c s = t at d ⊢
  induction d
  case none => exact off
  case release pins straps =>
    unfold State.release State.releaseLoop
    refine drift (.ite (State.Reacts.eloopOpens _).drifts (.refl _)) ?_
    cases p <;> rfl
  case goodRecord r pins _ _ =>
    by_contra on
    have was := (goodVerdict_drifts s r pins p).valve (by simpa using on)
    unfold goodPan at was
    split_ifs at was
    · rw [off] at was; cases was
    · cases was
  case badRecord => exact drift (.of_same (by simp) (by simp)) off
  case lowerTimeout q _ =>
    by_cases e : p = q
    · subst e
      rw [State.lowerTimeout, State.enterFault_pc]
      rfl
    · rw [State.lowerTimeout, State.enterFault_pc_ne _ _ e]
      exact off
  case ramp =>
    rcases s.rampBoth_pc p with same | ⟨im, -, ramped⟩
    · rw [same]; exact off
    · rw [ramped]; exact off
  case clash => exact off
  case error => exact drift (.of_same (by simp) (by simp)) off
  case demand x b im _ _ _ =>
    obtain ⟨r, ⟨later, before⟩ | turns⟩ := takeDemand_drifts s im x b
    · refine drift later ?_
      have was := drift before off
      rcases (s.enterDemand x b).judgeForced.pc_restoreAll r p with same | ⟨-, -, -, restored⟩
      · rw [same]; exact was
      · rw [restored]; exact was
    · exact drift turns off
  case holdOff => exact absurd rfl grant
  all_goals cases steers

/-! ### Heaters -/

/-- What the advance of the rings leaves (R130). -/
@[simp] theorem ICU.advance_frame (u : ICU) (n : Nat) :
    (u.advance n).mode = u.mode ∧ (u.advance n).state = u.state ∧ (u.advance n).winA = 0 ∧ (u.advance n).winB = 0 ∧
      (u.advance n).ringA = advanceRing u.ringA u.winA ∧ (u.advance n).ringB = advanceRing u.ringB u.winB ∧
      (u.advance n).arcPan = u.arcPan ∧ (u.advance n).heaterA = u.heaterA ∧ (u.advance n).heaterB = u.heaterB ∧
      (u.advance n).draw = u.draw ∧ (u.advance n).scrape = u.scrape ∧ (u.advance n).scrapeCount = u.scrapeCount ∧
      (u.advance n).cooldown = u.cooldown ∧ (u.advance n).arcCount = u.arcCount ∧
      (u.advance n).arcFields = u.arcFields ∧ (u.advance n).severe = u.severe := by
  unfold ICU.advance ICU.stepStreak
  split_ifs <;> exact ⟨rfl, rfl, rfl, rfl, rfl, rfl, rfl, rfl, rfl, rfl, rfl, rfl, rfl, rfl, rfl, rfl⟩

/-- No heater has come on. -/
def ICU.Cooler (u v : ICU) : Prop := ∀ p, v.heater p = true → u.heater p = true

theorem ICU.Cooler.refl (u : ICU) : u.Cooler u := fun _ h => h

theorem ICU.Cooler.of_same {u v : ICU} (a : v.heaterA = u.heaterA) (b : v.heaterB = u.heaterB) : u.Cooler v := by
  intro p h
  cases p
  · exact a.symm.trans h
  · exact b.symm.trans h

theorem ICU.Cooler.of_off {u v : ICU} (a : v.heaterA = false) (b : v.heaterB = false) : u.Cooler v := by
  intro p h
  cases p
  · exact absurd (a.symm.trans h) (by decide)
  · exact absurd (b.symm.trans h) (by decide)

theorem State.endScrape_heaters (s : State) (im : Image) (p : Pan) :
    (s.endScrape im p).icu.heaterA = s.icu.heaterA ∧ (s.endScrape im p).icu.heaterB = s.icu.heaterB ∧
      (s.endScrape im p).icu.draw = s.icu.draw := by
  simp [State.endScrape]

/-- Every heater is off at an exit from CLEARING (R138). -/
theorem State.leaveClearing_heaters (s : State) (im : Image) :
    (s.leaveClearing im).icu.heaterA = false ∧ (s.leaveClearing im).icu.heaterB = false ∧
      (s.leaveClearing im).icu.draw = 0 := by
  unfold State.leaveClearing State.endPass
  split
  · obtain ⟨a, b, d⟩ := ((s.dropWant .scrape).dropWant .heat).heatersOff.endScrape_heaters im ‹_›
    rw [a, b, d]
    exact ⟨rfl, rfl, rfl⟩
  · exact ⟨rfl, rfl, rfl⟩

theorem State.formIce_heaters (s : State) (im : Image) :
    ((s.formIce im).icu.heaterA = s.icu.heaterA ∧ (s.formIce im).icu.heaterB = s.icu.heaterB) ∨
      ((s.formIce im).icu.heaterA = false ∧ (s.formIce im).icu.heaterB = false ∧ (s.formIce im).icu.draw = 0) := by
  have left := s.leaveClearing_heaters im
  unfold State.formIce
  dsimp only
  split_ifs
  · exact .inr left
  · exact .inr left
  · exact .inl ⟨rfl, rfl⟩
  · exact .inl ⟨rfl, rfl⟩

theorem State.reactPass_heaters (s : State) (im : Image) :
    (s.reactPass im).icu.heaterA = s.icu.heaterA ∧ (s.reactPass im).icu.heaterB = s.icu.heaterB ∧
      (s.reactPass im).icu.draw = s.icu.draw := by
  unfold State.reactPass
  split
  · split_ifs
    · exact ⟨rfl, rfl, rfl⟩
    · exact s.endScrape_heaters im _
  · exact ⟨rfl, rfl, rfl⟩

theorem Move.cooler {s t : State} (m : Move s t) : s.icu.Cooler t.icu := by
  induction m
  case guardHeaters im _ =>
    intro p h
    cases p <;> exact (Bool.and_eq_true _ _ ▸ h).1
  case ice im _ =>
    rcases s.formIce_heaters im with ⟨a, b⟩ | ⟨a, b, -⟩
    · exact .of_same a b
    · exact .of_off a b
  case pass im _ =>
    obtain ⟨a, b, -⟩ := s.reactPass_heaters im
    exact .of_same a b
  case abandon =>
    unfold State.abandonWindow
    dsimp only
    split
    · split_ifs <;> exact .of_same (by simp) (by simp)
    · exact .refl _
  case arcPan => exact .of_same rfl rfl
  case clear a =>
    unfold State.reportAndClear
    dsimp only
    split_ifs <;> exact .of_same rfl rfl
  case severe im _ =>
    unfold State.judgeSevere
    dsimp only
    split_ifs <;> exact .of_same rfl rfl
  case loadScrape im _ =>
    unfold State.loadScrape
    split
    · split_ifs <;> exact .of_same rfl rfl
    · exact .refl _
  all_goals exact .of_same (by simp) (by simp)

theorem Moves.cooler {s t : State} (h : Moves s t) : s.icu.Cooler t.icu := by
  induction h with
  | refl => exact .refl _
  | tail _ k ih => exact fun p x => ih p (Move.cooler k p x)

theorem State.tableChanged_heaters (s : State) (im : Image) (l : List Entry) : s.icu.Cooler (s.tableChanged im l).icu := by
  rcases s.tableChanged_icu im l with e | e <;> rw [e]
  · exact .refl _
  · exact .of_same (by simp) (by simp)

theorem State.takeRoof_heaters (s : State) (im : Image) (h : RxHeader) (f : RoofData → RoofData) :
    s.icu.Cooler (s.takeRoof im h f).icu := by
  obtain ⟨l, e⟩ := s.takeRoof_icu im h f
  rw [e]
  exact s.tableChanged_heaters im l

@[simp] theorem State.countCooldown_heaters (s : State) :
    s.countCooldown.icu.heaterA = s.icu.heaterA ∧ s.countCooldown.icu.heaterB = s.icu.heaterB := by
  unfold State.countCooldown
  split <;> exact ⟨rfl, rfl⟩

theorem State.countScrape_heaters (s : State) (im : Image) : s.icu.Cooler (s.countScrape im).icu := by
  unfold State.countScrape State.endScrape
  split
  · split_ifs
    · split <;> exact .of_same (by simp) (by simp)
    · exact .of_same rfl rfl
  · exact .refl _

theorem State.countArc_heaters (s : State) (im : Image) (p : Pan) : s.icu.Cooler (s.countArc im p).icu := by
  unfold State.countArc
  split_ifs
  · cases p <;> exact .of_same rfl rfl
  · exact .refl _

/-- The direct effect of a command other than the grant leaves the heaters off. -/
theorem direct_heaters {c : Instr} {s : State} (grant : c ≠ .holdOffExpiry) : s.icu.Cooler (direct c s).icu := by
  have d := direct_acts c s
  generalize direct c s = t at d ⊢
  induction d
  case sample im _ =>
    unfold State.takeSample State.windowEnd
    dsimp only
    split_ifs <;> exact .of_same (by simp) (by simp)
  case demand x b im _ _ _ =>
    unfold State.takeDemand
    dsimp only
    split_ifs
    · rw [State.handOn_icu]
      exact .of_same (by simp) (by simp)
    · exact .of_same (by simp) (by simp)
  case status => exact s.takeRoof_heaters _ _ _
  case claim | withdraw | record => exact s.takeRoof_heaters _ _ _
  case removeLearning | removeLost =>
    first | unfold State.removeLearning | unfold State.removeLost
    split_ifs
    · exact s.tableChanged_heaters _ _
    · exact .refl _
  case lose | ageOut =>
    first | unfold State.loseEntry | unfold State.ageOutClaim
    split
    · split_ifs
      · exact s.tableChanged_heaters _ _
      · exact .refl _
    · exact .refl _
  case pulse r n =>
    unfold State.odoInput State.ifGood
    split_ifs
    · split
      next im _ =>
        unfold State.pulseReaders
        refine fun p h => ?_
        have before := State.countScrape_heaters _ im p h
        cases p <;> simpa [ICU.heater] using before
      · exact .refl _
    · exact .refl _
  case arc q r n =>
    unfold State.arcInput State.ifGood
    split
    · cases q
      all_goals
        dsimp only
        split
        · exact State.countArc_heaters _ _ _
        · exact .refl _
    · exact .refl _
  case scrapeEnd im _ =>
    unfold State.scrapeEnds State.endScrape
    split
    · exact .of_same (by simp) (by simp)
    · exact .refl _
  case holdOff => exact absurd rfl grant
  all_goals exact .of_same (by simp) (by simp)

/-! ### The grant -/

theorem State.act_heater (s : State) (im : Image) (h : Head) (p : Pan) :
    (s.act im h).icu.heater p = (s.icu.heater p || (h.kind == .heat && h.pan == p)) := by
  obtain ⟨kind, pan, amount⟩ := h
  cases kind <;> cases pan <;> cases p <;> simp [State.act, State.heaterOn, ICU.heater, State.raisePan]

/-- A heater comes on at the hold-off expiry of the own HEAT claim that passes and is taken. -/
theorem State.holdOffEnd_heater {s : State} {im : Image} {p : Pan} (off : s.icu.heater p = false)
    (on : (s.holdOffEnd im).icu.heater p = true) :
    ∃ h, s.au.head = some h ∧ h.kind = .heat ∧ h.pan = p ∧ s.passes im h = true ∧ s.heatTaken p = true := by
  unfold State.holdOffEnd at on
  split at on
  next h head =>
    split_ifs at on with passes
    · unfold State.grant at on
      dsimp only at on
      split_ifs at on with taken
      · rw [State.act_heater] at on
        have heat : h.kind = .heat ∧ h.pan = p := by
          simpa [show ({ s with au := { s.au with claim := .none, body := none, holdOffT := none } } : State).icu.heater p =
            false from off] using on
        obtain ⟨kind, pan, amount⟩ := h
        obtain ⟨rfl, rfl⟩ := heat
        exact ⟨_, head, rfl, rfl, passes, taken⟩
      · cases off.symm.trans on
    · cases off.symm.trans (by simpa using on)
  next => cases off.symm.trans on

/-- What the permission of a RAISE or SCRAPE claim asks beside the receiving block (R86). -/
theorem State.permitted_raise {s : State} {h : Head} (k : s.permitted h = true) (raises : h.kind ≠ .heat) :
    s.ds.latch = .empty ∧ (h.kind = .raise → s.governingUp = true) := by
  obtain ⟨kind, pan, amount⟩ := h
  cases kind
  case heat => exact absurd rfl raises
  case raise =>
    simp only [State.permitted, Bool.and_eq_true] at k
    exact ⟨(DropSet.isEmpty_iff _).mp k.2.1.1.2, fun _ => k.2.1.2⟩
  case scrape =>
    simp only [State.permitted, Bool.and_eq_true] at k
    exact ⟨(DropSet.isEmpty_iff _).mp k.2.2, fun h => by cases h⟩

theorem State.grantTaken_iff (s : State) (p : Pan) (collecting : Bool) :
    s.grantTaken p collecting = true ↔ s.acts p = true ∧ (s.pc p).state = .down ∧ s.downSensor p = true ∧
      s.airOk p = true ∧ if collecting then s.bi.closed = false ∧ (s.pc p.other).barsCollecting = false
        else (s.pc p.other).upCollecting = true ∧ s.cc.phase = .normal := by
  cases collecting <;> simp [State.grantTaken, and_assoc]

/-- What raises a pantograph or turns a heater on in an event: the grant of the own claim (R92). -/
theorem eventEnd_comes {c : Instr} {s : State} {p : Pan} (runs : Runs c s)
    (comes : ((s.pc p).valve = false ∧ ((eventEnd c s).pc p).valve = true) ∨
      (s.icu.heater p = false ∧ (eventEnd c s).icu.heater p = true)) :
    ∃ im h, c = .holdOffExpiry ∧ s.released = true ∧ s.cl.image = some im ∧ s.au.claim = .holding ∧ s.au.head = some h ∧
      h.pan = p ∧ s.passes im h = true ∧
      ((s.pc p).valve = false → ((eventEnd c s).pc p).valve = true →
        h.kind ≠ .heat ∧ s.grantTaken p (h.kind == .raise) = true) ∧
      (s.icu.heater p = false → (eventEnd c s).icu.heater p = true → h.kind = .heat ∧ s.heatTaken p = true) := by
  have valve : ((eventEnd c s).pc p).valve = true → ((direct c s).pc p).valve = true := (drifts_eventEnd c s p).valve
  have heater : (eventEnd c s).icu.heater p = true → (direct c s).icu.heater p = true := (moves_eventEnd c s).cooler p
  have grant : c = .holdOffExpiry := by
    by_contra other
    rcases comes with ⟨off, on⟩ | ⟨off, on⟩
    · cases (direct_valve other off).symm.trans (valve on)
    · cases off.symm.trans (direct_heaters other p (heater on))
  subst grant
  have released : s.released = true := by
    rcases runs with ⟨x, -⟩ | ⟨-, _, _, x⟩
    · exact x
    · cases x
  have effect : direct .holdOffExpiry s = s ∨
      ∃ im, s.cl.image = some im ∧ s.au.claim = .holding ∧ direct .holdOffExpiry s = s.holdOffEnd im := by
    by_cases holding : s.au.isHolding = true
    · have first : direct .holdOffExpiry s = s.ifGood fun im t => t.holdOffEnd im := if_pos holding
      cases i : s.cl.image with
      | none => exact .inl (first.trans (State.ifGood_of_none i fun im t => t.holdOffEnd im))
      | some im =>
        exact .inr ⟨im, rfl, of_decide_eq_true holding,
          first.trans (State.ifGood_of_some i fun im t => t.holdOffEnd im)⟩
    · exact .inl (if_neg holding)
  rcases effect with same | ⟨im, i, holding, effect⟩
  · rw [same] at valve heater
    rcases comes with ⟨off, on⟩ | ⟨off, on⟩
    · cases off.symm.trans (valve on)
    · cases off.symm.trans (heater on)
  rw [effect] at valve heater
  have raised : (s.pc p).valve = false → ((eventEnd .holdOffExpiry s).pc p).valve = true →
      ∃ h, s.au.head = some h ∧ h.kind ≠ .heat ∧ h.pan = p ∧ s.passes im h = true ∧
        s.grantTaken p (h.kind == .raise) = true := by
    intro off on
    rcases s.holdOffEnd_pc im p with stays | ⟨h, head, kind, pan, passes, taken, -⟩
    · rw [stays] at valve
      cases off.symm.trans (valve on)
    · exact ⟨h, head, kind, pan, passes, taken⟩
  have heated : s.icu.heater p = false → (eventEnd .holdOffExpiry s).icu.heater p = true →
      ∃ h, s.au.head = some h ∧ h.kind = .heat ∧ h.pan = p ∧ s.passes im h = true ∧ s.heatTaken p = true :=
    fun off on => State.holdOffEnd_heater off (heater on)
  have same : ∀ {g h : Head}, s.au.head = some g → s.au.head = some h → g = h := fun x y => Option.some.inj (x.symm.trans y)
  rcases comes with ⟨off, on⟩ | ⟨off, on⟩
  · obtain ⟨h, head, kind, pan, passes, taken⟩ := raised off on
    refine ⟨im, h, rfl, released, i, holding, head, pan, passes, fun _ _ => ⟨kind, taken⟩, fun x y => ?_⟩
    obtain ⟨g, head', heat, -, -, heatTaken⟩ := heated x y
    exact ⟨same head head' ▸ heat, heatTaken⟩
  · obtain ⟨h, head, kind, pan, passes, taken⟩ := heated off on
    refine ⟨im, h, rfl, released, i, holding, head, pan, passes, fun x y => ?_, fun _ _ => ⟨kind, taken⟩⟩
    obtain ⟨g, head', raises, -, -, grantTaken⟩ := raised x y
    cases same head head'
    exact ⟨raises, grantTaken⟩

/-- Settles O29. -/
theorem raisesAndHeatersComeOnlyFromTheOwnClaim : Obligations.RaisesAndHeatersComeOnlyFromTheOwnClaim := by
  intro s t p stepped comes
  have none : (s.pc p).valve = (t.pc p).valve → s.icu.heater p = t.icu.heater p → False := by
    intro pc heater
    rw [pc, heater] at comes
    rcases comes with ⟨off, on⟩ | ⟨off, on⟩ <;> cases off.symm.trans on
  rcases step_cases stepped with ⟨_, rfl⟩ | ⟨c, rest, queue, answer⟩
  · refine (none ?_ ?_).elim
    · unfold State.tick
      split_ifs
      · cases p <;> rfl
      · rfl
    · unfold State.tick
      split_ifs <;> rfl
  cases answer with
  | idle => exact (none rfl rfl).elim
  | reset => rcases comes with ⟨-, on⟩ | ⟨-, on⟩ <;> cases p <;> cases on
  | event runs =>
    obtain ⟨im, h, rfl, released, i, holding, head, pan, passes, raised, heated⟩ := eventEnd_comes runs comes
    refine ⟨im, h, by rw [queue]; rfl, released, i, holding, head, pan, passes, fun off on => ?_, fun off on => ?_⟩
    · obtain ⟨raises, taken⟩ := raised off on
      have permitted : s.permitted h = true := ((Bool.and_eq_true _ _).mp passes).1
      obtain ⟨latch, governing⟩ := State.permitted_raise permitted raises
      obtain ⟨-, down, sensor, air, open'⟩ := (s.grantTaken_iff p _).mp taken
      refine ⟨raises, down, latch, sensor, air, fun kind => ?_⟩
      obtain ⟨presence, up⟩ := of_decide_eq_true (governing kind)
      rw [kind] at open'
      exact ⟨open'.1, presence, up⟩
    · obtain ⟨kind, taken⟩ := heated off on
      simp only [State.heatTaken, Bool.and_eq_true, decide_eq_true_eq] at taken
      exact ⟨kind, taken.1.1.1.1.1, taken.1.2, of_decide_eq_true taken.2⟩

end Sys2Proof.Machine
end

section
/-! PROOFS. The profile in force, the raise inhibit, the top alert and the lamp (R73, R74, R153, R183, R184). -/

namespace Sys2Proof.Machine

/-! ### What the claim tests leave of the Admission Unit -/

/-- The group, the profile and the RAISE want. -/
def AU.standing (a : AU) : ProfileGroup × Option Nat × Option RaiseWant := (a.group, a.profile, a.raise)

@[simp] theorem State.withdraw_standing (s : State) : s.withdraw.au.standing = s.au.standing := by
  simp [State.withdraw, AU.standing]

@[simp] theorem State.openClaim_standing (s : State) (im : Image) (h : Head) :
    (s.openClaim im h).au.standing = s.au.standing := by
  simp [State.openClaim, AU.standing]

@[simp] theorem State.testFirst_standing (s : State) (im : Image) : (s.testFirst im).au.standing = s.au.standing := by
  unfold State.testFirst
  split
  · split_ifs
    · simp
    · rfl
  · rfl

@[simp] theorem State.claimTest_standing (s : State) (im : Image) : (s.claimTest im).au.standing = s.au.standing := by
  obtain ⟨t, timed, same⟩ : ∃ t : State,
      ({ s with au := { s.au with retestT := if s.au.noWants then none else .started } } : State) = t ∧
        t.au.standing = s.au.standing := ⟨_, rfl, rfl⟩
  unfold State.claimTest
  rw [timed]
  dsimp only
  split_ifs
  · split
    · split_ifs
      · exact same
      · rw [State.testFirst_standing, State.withdraw_standing, same]
    · exact same
  · rw [State.testFirst_standing, same]

theorem State.dropWant_standing (s : State) (k : ClaimKind) (h : k ≠ .raise) :
    (s.dropWant k).au.standing = s.au.standing := by
  unfold State.dropWant
  dsimp only
  cases k
  case raise => exact absurd rfl h
  all_goals
    split_ifs
    · rw [State.withdraw_standing]; rfl
    · rfl

theorem State.placeScrape_standing (s : State) (p : Pan) : (s.placeScrape p).au.standing = s.au.standing := by
  unfold State.placeScrape
  split_ifs <;> rfl

@[simp] theorem State.reactScrape_standing (s : State) (im : Image) :
    (s.reactScrape im).au.standing = s.au.standing := by
  have drop := s.dropWant_standing .scrape (by decide)
  unfold State.reactScrape
  split
  · split_ifs
    · rfl
    · rw [State.placeScrape_standing, drop]
    · rw [State.placeScrape_standing]
  · split_ifs
    · exact drop
    · rfl

@[simp] theorem State.formHeat_standing (s : State) (im : Image) : (s.formHeat im).au.standing = s.au.standing := by
  unfold State.formHeat State.placeHeat
  split
  · split_ifs <;> rfl
  · split_ifs
    · exact s.dropWant_standing .heat (by decide)
    · rfl

theorem State.reportAndClear_force (s : State) (a : Acting) : (s.reportAndClear a).pv.force = s.pv.force := by
  unfold State.reportAndClear
  dsimp only
  split_ifs <;> rfl

/-- The end of an event leaves the group, the profile and the RAISE want. -/
theorem finish_standing (before s : State) (test ask : Bool) :
    (finish before test ask s).au.standing = s.au.standing := by
  have heat : ∀ u : State, (before.formHeatWant u).au.standing = u.au.standing := by
    intro u
    unfold State.formHeatWant State.ifGood State.reactHeat
    split
    · dsimp only
      split_ifs
      · simp
      · rfl
    · rfl
  have admitted : ∀ u : State, (before.admission test u).au.standing = u.au.standing := by
    intro u
    unfold State.admission State.ifGood
    split
    · dsimp only
      split_ifs
      · rw [State.claimTest_standing]; rfl
      · rfl
    · rfl
  have reported : ∀ u : State, (before.report ask u).au = u.au := by
    intro u
    unfold State.report
    split_ifs <;> simp
  unfold finish
  dsimp only
  rw [reported]
  show ((before.admission test _).au).standing = _
  rw [admitted]
  show ((before.formHeatWant s.guard).au).standing = _
  rw [heat, (s.guard_frame).2.2.2.1]

/-! ### The group, the profile and the raise inhibit -/

theorem State.dropWant_raise (s : State) (k : ClaimKind) :
    (s.dropWant k).au.group = s.au.group ∧ (s.dropWant k).au.profile = s.au.profile ∧
      (s.dropWant .raise).au.raise = none := by
  unfold State.dropWant
  dsimp only
  refine ⟨?_, ?_, ?_⟩
  · cases k <;> split_ifs <;> simp [State.withdraw]
  · cases k <;> split_ifs <;> simp [State.withdraw]
  · split_ifs <;> simp [State.withdraw]

/-- The RAISE want keeps the group and the profile, and none stands while a latch does (R153). -/
theorem State.reactRaise_standing (s : State) (im : Image) :
    (s.reactRaise im).au.group = s.au.group ∧ (s.reactRaise im).au.profile = s.au.profile ∧
      (s.ds.latch ≠ .empty → (s.reactRaise im).au.raise = none) := by
  obtain ⟨t, first, group, profile, latch, barred⟩ : ∃ t : State,
      (if s.raiseBarred && s.au.raise.isSome then s.dropWant .raise else s) = t ∧ t.au.group = s.au.group ∧
      t.au.profile = s.au.profile ∧ t.ds.latch = s.ds.latch ∧ (s.ds.latch ≠ .empty → t.au.raise = none) := by
    refine ⟨_, rfl, ?_⟩
    split_ifs with x
    · exact ⟨(s.dropWant_raise .raise).1, (s.dropWant_raise .raise).2.1, by simp, fun _ => (s.dropWant_raise .raise).2.2⟩
    · refine ⟨rfl, rfl, rfl, fun latched => ?_⟩
      have bars : s.raiseBarred = true := by
        have : s.ds.latch.isEmpty = false := by
          rw [← Bool.not_eq_true, DropSet.isEmpty_iff]
          exact latched
        simp [State.raiseBarred, this]
      rw [bars, Bool.true_and] at x
      simpa using x
  unfold State.reactRaise
  rw [first]
  dsimp only
  have none : ∀ w, s.ds.latch ≠ .empty → t.takesTarget w = false := by
    intro w latched
    have : t.ds.latch.isEmpty = false := by
      rw [← Bool.not_eq_true, DropSet.isEmpty_iff, latch]
      exact latched
    simp [State.takesTarget, State.mayPlaceRaise, this, barred latched]
  have stands : ∀ u : State, u = t ∨ u = t.dropWant .raise ∨ (∃ w, t.takesTarget w = true ∧ u = t.placeRaise w) →
      u.au.group = s.au.group ∧ u.au.profile = s.au.profile ∧ (s.ds.latch ≠ .empty → u.au.raise = Option.none) := by
    rintro u (rfl | rfl | ⟨w, takes, rfl⟩)
    · exact ⟨group, profile, barred⟩
    · exact ⟨(t.dropWant_raise .raise).1.trans group, (t.dropWant_raise .raise).2.1.trans profile,
        fun _ => (t.dropWant_raise .raise).2.2⟩
    · unfold State.placeRaise
      split_ifs
      · exact ⟨group, profile, barred⟩
      · exact ⟨group, profile, fun latched => by rw [none w latched] at takes; cases takes⟩
  apply stands
  by_cases forms : t.formsTarget = true
  · rw [if_pos forms]
    cases t.raiseTarget im with
    | none => dsimp only; split_ifs <;> simp
    | some w =>
      dsimp only
      split_ifs with same takes
      · exact .inl rfl
      · exact .inr (.inr ⟨w, takes, rfl⟩)
      · exact .inl rfl
  · rw [if_neg forms]
    exact .inl rfl

theorem State.profileGroup_congr {s t : State} (cc : t.cc = s.cc) (lq : t.lq = s.lq) (force : t.pv.force = s.pv.force) :
    t.profileGroup = s.profileGroup := by
  simp [State.profileGroup, CC.nextSystem, cc, lq, force]

/-- What the admission part of a round leaves, it leaves to the end of the event. -/
structure State.Admitted (s : State) (im : Image) : Prop where
  group : s.au.group = s.profileGroup
  profile : s.au.profile = profileLookup im s.ioc.speed s.au.group
  inhibit : s.ds.latch ≠ .empty → s.au.raise = none

theorem State.Admitted.congr {s t : State} {im : Image} (h : s.Admitted im) (au : t.au.standing = s.au.standing)
    (cc : t.cc = s.cc) (lq : t.lq = s.lq) (force : t.pv.force = s.pv.force) (ioc : t.ioc = s.ioc) (ds : t.ds.latch = s.ds.latch) :
    t.Admitted im := by
  obtain ⟨group, profile, raise⟩ : t.au.group = s.au.group ∧ t.au.profile = s.au.profile ∧ t.au.raise = s.au.raise := by
    simpa [AU.standing] using au
  constructor
  · rw [group, State.profileGroup_congr cc lq force]; exact h.group
  · rw [group, profile, ioc]; exact h.profile
  · rw [raise, ds]; exact h.inhibit

/-- The reactions of a round end with the group, the profile and the inhibit formed afresh. -/
theorem State.others_admitted {s : State} {im : Image} (i : s.cl.image = some im) : s.others.Admitted im := by
  have first : s.others = (((((((s.clearMarks).ccReact im).icuReact im).dsReact im).formProfile im).reactRaise
    im).reactScrape im) := State.ifGood_of_some i fun im s =>
    let t := (((s.clearMarks).ccReact im).icuReact im).dsReact im
    ((t.formProfile im).reactRaise im).reactScrape im
  rw [first]
  generalize (((s.clearMarks).ccReact im).icuReact im).dsReact im = t
  have formed : ((t.formProfile im).reactRaise im).Admitted im := by
    obtain ⟨group, profile, inhibit⟩ := (t.formProfile im).reactRaise_standing im
    constructor
    · rw [group, State.profileGroup_congr (s := t) (by simp) (by simp) (by simp)]
      rfl
    · have speed : ((t.formProfile im).reactRaise im).ioc = t.ioc := by simp
      rw [group, profile, speed]
      rfl
    · exact fun latched => inhibit (by simpa using latched)
  exact formed.congr (by simp) (by simp) (by simp) (by simp) (by simp) (by simp)

/-- The rounds of an event end with the conditions of the blocks. -/
theorem settle_succ_others (n : Nat) (ref s : State) : ∃ u : State, Moves s u ∧ settle (n + 1) ref s = u.others := by
  induction n generalizing ref s with
  | zero => exact ⟨_, (moves_pantographs s).trans (moves_wiring ref _), rfl⟩
  | succ n ih =>
    obtain ⟨u, moves, e⟩ := ih (ref.round s).1 (ref.round s).2
    exact ⟨u, (((moves_pantographs s).trans (moves_wiring ref _)).trans (moves_others _)).trans moves, e⟩

/-- Every event ends with the group, the profile and the inhibit formed afresh. -/
theorem eventEnd_admitted (c : Instr) (s : State) (im : Image) (i : (eventEnd c s).cl.image = some im) :
    (eventEnd c s).Admitted im := by
  obtain ⟨u, -, settles⟩ := settle_succ_others 7 s (direct c s)
  have runs : eventEnd c s = finish s (asksTest c s) (asksStatus c s) (u.others.reportAndClear (acting c s)) := by
    rw [← settles]; rfl
  rw [runs] at i ⊢
  have image : u.cl.image = some im := by simpa [finish_frame] using i
  refine (State.others_admitted image).congr ?_ ?_ ?_ ?_ ?_ ?_
  all_goals simp [finish_frame, finish_standing, State.reportAndClear_force]

/-- Every event ends with the top alert and the lamp formed afresh. -/
theorem eventEnd_alerts (c : Instr) (s : State) : (eventEnd c s).AlertLaw := by
  have formed : ∀ u : State, u.formAlerts.AlertLaw := fun u => ⟨rfl, rfl⟩
  have asked : ∀ (b u : State) (ask : Bool), u.AlertLaw → (b.report ask u).AlertLaw := by
    intro b u ask law
    unfold State.report
    split_ifs
    · simpa [State.AlertLaw] using law
    · exact law
  exact asked _ _ _ (formed _)

theorem others_of_held (cause : ResetCause) : (State.held cause).AdmissionLaw ∧ (State.held cause).AlertLaw :=
  ⟨⟨fun _ i => (nomatch i), fun _ i => (nomatch i), fun _ i => (nomatch i)⟩, by unfold State.AlertLaw; cases cause <;> decide⟩

theorem step_admission (s t : State) (held : s.HeldLaw) (law : s.AdmissionLaw ∧ s.AlertLaw) (h : step s = .next t) :
    t.AdmissionLaw ∧ t.AlertLaw := by
  refine step_keeps_of_held (Law := fun s => s.AdmissionLaw ∧ s.AlertLaw) ?_ others_of_held ?_ ?_ s t held law h
  · exact fun s q law => ⟨⟨law.1.group, law.1.profile, law.1.inhibit⟩, law.2⟩
  · exact fun s _ law => ⟨⟨law.1.group, law.1.profile, law.1.inhibit⟩, law.2⟩
  · exact fun c s _ _ _ => ⟨⟨fun im i => (eventEnd_admitted c s im i).group, fun im i => (eventEnd_admitted c s im i).profile,
      fun im i => (eventEnd_admitted c s im i).inhibit⟩, eventEnd_alerts c s⟩

/-! ### The profile group (R73) -/

theorem groupOf_ac {c : LineClass} (h : c = .ac25 ∨ c = .ac15) : groupOf c = some .ac := by
  rcases h with rfl | rfl <;> rfl

theorem groupOf_dc {c : LineClass} (h : c = .dc3 ∨ c = .dc15) : groupOf c = some .dc := by
  rcases h with rfl | rfl <;> rfl

theorem groupOf_of_not_live {c : LineClass} (h : c.live = false) : groupOf c = none := by
  cases c <;> first | rfl | cases h

theorem State.profileGroup_requalify {s : State} (phase : s.cc.phase = .requalify) {sec : CurrentSection}
    (current : s.cc.current = some sec) : s.profileGroup = (groupOf sec.next).getD .any := by
  simp [State.profileGroup, phase, CC.nextSystem, current]

theorem State.profileGroup_live {s : State} (phase : s.cc.phase ≠ .requalify) {g : ProfileGroup}
    (q : groupOf s.lq.q = some g) : s.profileGroup = g := by
  simp [State.profileGroup, phase, q]

theorem State.profileGroup_expected {s : State} (phase : s.cc.phase ≠ .requalify) (q : s.lq.q.live = false) :
    s.profileGroup = (expectedGroup s.pv.force.expected).getD .any := by
  simp [State.profileGroup, phase, groupOf_of_not_live q]

/-! ### The profile in force (R72, R74) -/

theorem Profile.fits_iff (f : Profile) (speed : Nat) (g : ProfileGroup) :
    f.fits speed g = true ↔ f.low ≤ speed ∧ speed ≤ f.high ∧
      (f.applies = .both ∨ (f.applies = .ac ∧ g = .ac) ∨ (f.applies = .dc ∧ g = .dc)) := by
  have serves : f.applies.serves g = true ↔
      (f.applies = .both ∨ (f.applies = .ac ∧ g = .ac) ∨ (f.applies = .dc ∧ g = .dc)) := by
    cases f.applies <;> cases g <;> simp [AppliesTo.serves]
  rw [← serves]
  simp [Profile.fits, and_assoc]

/-- The first index of a list, counted from an index, whose profile fits. -/
theorem firstFit_iff (speed : Nat) (g : ProfileGroup) (fs : List Profile) (from' k : Nat) :
    firstFit speed g fs from' = some k ↔ ∃ j, k = from' + j ∧ (∃ f, fs[j]? = some f ∧ f.fits speed g = true) ∧
      ∀ i, i < j → ¬∃ f, fs[i]? = some f ∧ f.fits speed g = true := by
  induction fs generalizing from' with
  | nil => simp [firstFit]
  | cons f fs ih =>
    unfold firstFit
    split_ifs with fit
    · constructor
      · intro e
        exact ⟨0, by simpa using e.symm, ⟨f, rfl, fit⟩, fun i h => absurd h (Nat.not_lt_zero i)⟩
      · rintro ⟨j, rfl, -, before⟩
        cases j with
        | zero => rfl
        | succ j => exact absurd ⟨f, rfl, fit⟩ (before 0 (Nat.succ_pos j))
    · rw [ih]
      constructor
      · rintro ⟨j, rfl, fits, before⟩
        refine ⟨j + 1, by omega, fits, fun i h => ?_⟩
        cases i with
        | zero => rintro ⟨f', e, fit'⟩; cases e; exact fit fit'
        | succ i => exact before i (by omega)
      · rintro ⟨j, rfl, ⟨f', at', fit'⟩, before⟩
        cases j with
        | zero => cases at'; exact absurd fit' fit
        | succ j => exact ⟨j, by omega, ⟨f', at', fit'⟩, fun i h => before (i + 1) (by omega)⟩

theorem firstFit_none_iff (speed : Nat) (g : ProfileGroup) (fs : List Profile) (from' : Nat) :
    firstFit speed g fs from' = none ↔ ∀ j : Nat, ¬∃ f : Profile, fs[j]? = some f ∧ f.fits speed g = true := by
  induction fs generalizing from' with
  | nil => simp [firstFit]
  | cons f fs ih =>
    unfold firstFit
    split_ifs with fit
    · simp only [false_iff, not_forall, not_not]
      exact ⟨0, f, rfl, fit⟩
    · rw [ih]
      constructor
      · intro none j
        cases j with
        | zero => rintro ⟨f', e, fit'⟩; cases e; exact fit fit'
        | succ j => exact none j
      · exact fun none j => none (j + 1)

/-! ### The top alert (R183) -/

theorem lowestLevel_none_iff (im : Image) (ks : List AlertKind) : lowestLevel im ks = none ↔ ks = [] := by
  cases ks with
  | nil => simp [lowestLevel]
  | cons k ks =>
    unfold lowestLevel
    split
    · split_ifs <;> simp
    · simp

/-- A kind is the first of a list by its level and then by its number. -/
def AlertKind.LeadsIn (k : AlertKind) (im : Image) (ks : List AlertKind) : Prop :=
  k ∈ ks ∧ ∀ j ∈ ks, im.alertLevel k < im.alertLevel j ∨ (im.alertLevel k = im.alertLevel j ∧ k.number ≤ j.number)

/-- The kinds stand in the order of their numbers. -/
theorem AlertKind.getElem_number (k : AlertKind) : alertKinds[k.number]? = some k := by cases k <;> rfl

theorem AlertKind.number_injective {j k : AlertKind} (h : j.number = k.number) : j = k :=
  Option.some.inj (j.getElem_number.symm.trans ((congrArg (alertKinds[·]?) h).trans k.getElem_number))

theorem AlertKind.LeadsIn.unique {im : Image} {ks : List AlertKind} {j k : AlertKind} (hj : j.LeadsIn im ks)
    (hk : k.LeadsIn im ks) : j = k := by
  have forth := hj.2 k hk.1
  have back := hk.2 j hj.1
  exact AlertKind.number_injective (by omega)

theorem lowestLevel_leads {im : Image} {ks : List AlertKind} (sorted : ks.Pairwise fun a b => a.number < b.number)
    {k : AlertKind} {l : Nat} (h : lowestLevel im ks = some (k, l)) : k.LeadsIn im ks ∧ l = im.alertLevel k := by
  induction ks generalizing k l with
  | nil => cases h
  | cons k' ks ih =>
    obtain ⟨least, sorted⟩ := List.pairwise_cons.mp sorted
    cases rest : lowestLevel im ks with
    | none =>
      obtain rfl := (lowestLevel_none_iff im ks).mp rest
      obtain ⟨rfl, rfl⟩ : k' = k ∧ im.alertLevel k' = l := by simpa [lowestLevel] using h
      exact ⟨⟨List.mem_singleton.mpr rfl, fun j hj => by cases List.mem_singleton.mp hj; exact .inr ⟨rfl, Nat.le_refl _⟩⟩, rfl⟩
    | some best =>
      obtain ⟨k'', l''⟩ := best
      obtain ⟨⟨mem, leads⟩, rfl⟩ := ih sorted rest
      unfold lowestLevel at h
      rw [rest] at h
      dsimp only at h
      split_ifs at h with lower
      · obtain ⟨rfl, rfl⟩ : k'' = k ∧ im.alertLevel k'' = l := by simpa using h
        refine ⟨⟨List.mem_cons_of_mem _ mem, fun j hj => ?_⟩, rfl⟩
        rcases List.mem_cons.mp hj with rfl | hj
        · exact .inl lower
        · exact leads j hj
      · obtain ⟨rfl, rfl⟩ : k' = k ∧ im.alertLevel k' = l := by simpa using h
        refine ⟨⟨List.mem_cons_self, fun j hj => ?_⟩, rfl⟩
        rcases List.mem_cons.mp hj with rfl | hj
        · exact .inr ⟨rfl, Nat.le_refl _⟩
        · have after := least j hj
          have := leads j hj
          omega

/-- Of a list in the order of the numbers, the kind of lowest level and then of lowest number. -/
theorem lowestLevel_iff {im : Image} {ks : List AlertKind} (sorted : ks.Pairwise fun a b => a.number < b.number)
    (k : AlertKind) (l : Nat) :
    lowestLevel im ks = some (k, l) ↔ k.LeadsIn im ks ∧ l = im.alertLevel k := by
  refine ⟨lowestLevel_leads sorted, fun ⟨leads, level⟩ => ?_⟩
  cases found : lowestLevel im ks with
  | none =>
    rw [(lowestLevel_none_iff im ks).mp found] at leads
    cases leads.1
  | some best =>
    obtain ⟨k', l'⟩ := best
    obtain ⟨leads', level'⟩ := lowestLevel_leads sorted found
    obtain rfl := leads.unique leads'
    rw [level, level']

theorem AlertKind.mem_alertKinds (k : AlertKind) : k ∈ alertKinds := by
  cases k <;> decide

theorem alertKinds_sorted : alertKinds.Pairwise fun a b => a.number < b.number := by decide

/-- A kind takes part in the top alert: requested and enabled. -/
def AlertKind.TakesPart (k : AlertKind) (im : Image) (flags : BitVec 16) : Prop :=
  flags.getLsbD k.number = true ∧ im.enables.getLsbD k.number = true

theorem topAlert_none_iff (im : Image) (flags : BitVec 16) :
    topAlert (some im) flags = none ↔ ∀ k : AlertKind, ¬k.TakesPart im flags := by
  simp [topAlert, lowestLevel_none_iff, AlertKind.TakesPart, AlertKind.mem_alertKinds]

theorem topAlert_some_iff (im : Image) (flags : BitVec 16) (k : AlertKind) (l : Nat) :
    topAlert (some im) flags = some (k, l) ↔ k.TakesPart im flags ∧ l = im.alertLevel k ∧
      ∀ j : AlertKind, j.TakesPart im flags →
        im.alertLevel k < im.alertLevel j ∨ (im.alertLevel k = im.alertLevel j ∧ k.number ≤ j.number) := by
  unfold topAlert
  dsimp only
  rw [lowestLevel_iff (alertKinds_sorted.sublist List.filter_sublist)]
  have parts : ∀ j : AlertKind,
      (j ∈ alertKinds.filter fun k => flags.getLsbD k.number && im.enables.getLsbD k.number) ↔ j.TakesPart im flags := by
    simp [AlertKind.TakesPart, AlertKind.mem_alertKinds]
  simp only [AlertKind.LeadsIn, parts, and_assoc]
  exact and_congr_right fun _ => and_comm

theorem profileLookup_some_iff (im : Image) (speed : Nat) (g : ProfileGroup) (k : Nat) :
    profileLookup im speed g = some k ↔ (∃ f, im.profiles[k]? = some f ∧ f.fits speed g = true) ∧
      ∀ j, j < k → ¬∃ f, im.profiles[j]? = some f ∧ f.fits speed g = true := by
  unfold profileLookup
  rw [firstFit_iff]
  constructor
  · rintro ⟨j, e, fits, before⟩
    obtain rfl : k = j := by omega
    exact ⟨fits, before⟩
  · exact fun ⟨fits, before⟩ => ⟨k, by omega, fits, before⟩

theorem limitsOf_some {im : Image} {k : Nat} {f : Profile} (h : im.profiles[k]? = some f) : limitsOf im (some k) = f := by
  simp [limitsOf, h]

/-- Settles O45. The rounds of an event end with the group, the profile and the inhibit formed afresh, and its end leaves
them; the alerts are formed at the end itself. -/
theorem profileAndAlertsAreFormedAfresh : Obligations.ProfileAndAlertsAreFormedAfresh := by
  unfold Obligations.ProfileAndAlertsAreFormedAfresh
  refine ⟨fun s t held law h => step_admission s t held law h, ?_, ?_, ?_, ?_⟩
  · intro s
    refine ⟨fun phase sec current => ?_, fun phase => ⟨fun ac => ?_, fun dc => ?_, fun dead => ⟨fun c e => ?_, fun e => ?_⟩⟩⟩
    · rw [State.profileGroup_requalify phase current]
      exact ⟨fun ac => by rw [groupOf_ac ac]; rfl, fun dc => by rw [groupOf_dc dc]; rfl⟩
    · exact State.profileGroup_live phase (groupOf_ac ac)
    · exact State.profileGroup_live phase (groupOf_dc dc)
    · rw [State.profileGroup_expected phase dead, e]
      exact ⟨fun ac => by simp [expectedGroup, groupOf_ac ac], fun dc => by simp [expectedGroup, groupOf_dc dc],
        fun still => by simp [expectedGroup, groupOf_of_not_live still]⟩
    · rw [State.profileGroup_expected phase dead]
      rcases e with e | e <;> rw [e] <;> rfl
  · intro im speed g
    simp only [← Profile.fits_iff]
    exact ⟨profileLookup_some_iff im speed g, firstFit_none_iff speed g im.profiles 0, rfl, fun k f => limitsOf_some⟩
  · intro im flags
    have level : ∀ k : AlertKind, (im.levels[k.number]?).getD 0 = im.alertLevel k := fun k => by
      simp [Image.alertLevel, List.getD]
    simp only [level]
    exact ⟨topAlert_none_iff im flags, topAlert_some_iff im flags, fun k l => by simp [lampOf], rfl⟩
  · exact fun flags top => ⟨rfl, rfl⟩

end Sys2Proof.Machine
end

section
/-! PROOFS. The drop causes that the reactions judge, the latches that go with them, and the silence expiry (R66, R70, R152,
R154, R159). -/

namespace Sys2Proof.Machine

/-! ### What a judged cause leaves (R157 to R161) -/

theorem State.latchSoft_cause (s : State) (c : DropCondition) : (s.latchSoft c).ds.cause = s.ds.cause := by
  unfold State.latchSoft
  split_ifs <;> simp

theorem State.judgeCause_cause (s : State) (im : Image) (c : DropCondition) :
    (s.judgeCause im c).ds.cause = s.ds.cause.set c (s.maskableCause im c) := by
  unfold State.judgeCause
  dsimp only
  split_ifs <;> simp [State.latchSoft_cause, State.setCause]

theorem State.formRestore_cause (s : State) (im : Image) : (s.formRestore im).ds.cause = s.ds.cause := by
  unfold State.formRestore
  split_ifs <;> simp [State.restoreMaskable]

/-- The Drop Supervisor takes each maskable cause as it stands when it judges it. -/
theorem State.dsReact_silent (s : State) (im : Image) : (s.dsReact im).ds.cause.controlSilent = s.pv.silent := by
  unfold State.dsReact
  rw [State.formRestore_cause, State.judgeCause_cause, State.judgeCause_cause, State.judgeCause_cause]
  simp [DropSet.set, State.maskableCause]

theorem State.others_silent {s : State} {im : Image} (i : s.cl.image = some im) :
    s.others.ds.cause.controlSilent = s.pv.silent := by
  have first : s.others = (((((((s.clearMarks).ccReact im).icuReact im).dsReact im).formProfile im).reactRaise
    im).reactScrape im) := State.ifGood_of_some i fun im s =>
    let t := (((s.clearMarks).ccReact im).icuReact im).dsReact im
    ((t.formProfile im).reactRaise im).reactScrape im
  rw [first]
  have judged := State.dsReact_silent (((s.clearMarks).ccReact im).icuReact im) im
  simpa using judged

/-- Every event ends with the silence as a cause exactly while it has expired. -/
theorem eventEnd_silent (c : Instr) (s : State) (im : Image) (i : (eventEnd c s).cl.image = some im) :
    (eventEnd c s).ds.cause.controlSilent = (eventEnd c s).pv.silent := by
  obtain ⟨u, -, settles⟩ := settle_succ_others 7 s (direct c s)
  have runs : eventEnd c s = finish s (asksTest c s) (asksStatus c s) (u.others.reportAndClear (acting c s)) := by
    rw [← settles]; rfl
  have silence : (u.others.reportAndClear (acting c s)).pv.silence = u.pv.silence := by
    unfold State.reportAndClear
    dsimp only
    split_ifs <;> simp [State.clearToggle, State.placeRecord]
  rw [runs] at i ⊢
  have image : u.cl.image = some im := by simpa using i
  have judged := State.others_silent image
  simpa [PV.silent, silence] using judged

/-! ### A cause that comes in with its mask ON is latched, and a latch holds the breaker open (R152, R154) -/

/-- A latch stands where its cause does. -/
def State.LatchedWithCause (k : DropCondition) (s : State) : Prop :=
  s.ds.cause.get k = true → s.ds.latch.get k = true

theorem State.LatchedWithCause.congr {k : DropCondition} {s t : State} (h : s.LatchedWithCause k)
    (ds : t.ds.cause = s.ds.cause) (latch : t.ds.latch = s.ds.latch) : t.LatchedWithCause k := by
  unfold State.LatchedWithCause
  rw [ds, latch]
  exact h

/-- Nothing is restored while a maskable latch stands with its cause (R162). -/
theorem State.not_restoring {s : State} {im : Image} {k : DropCondition} (h : k.maskable = true)
    (latch : s.ds.latch.get k = true) (cause : s.ds.cause.get k = true) : s.restoring im = false := by
  cases k
  case emergency | airLossA | airLossB | forced => cases h
  all_goals
    simp only [DropSet.get] at latch cause
    simp [State.restoring, latch, cause]

theorem State.formRestore_latch (s : State) (im : Image) :
    (s.formRestore im).ds.latch = s.ds.latch ∨
      (s.restoring im = true ∧ im.restoreMs = 0 ∧ (s.formRestore im).ds.latch = s.ds.latch.clearMaskable) := by
  unfold State.formRestore
  by_cases restoring : s.restoring im = true
  · rw [if_pos restoring]
    by_cases now : im.restoreMs = 0
    · rw [if_pos now]
      exact .inr ⟨restoring, now, rfl⟩
    · rw [if_neg now]
      exact .inl rfl
  · rw [if_neg restoring]
    exact .inl rfl

/-- The sensors of a pantograph latch its AIR_LOSS at most. -/
theorem State.sense_latches (s : State) (p : Pan) :
    (s.sense p).ds.cause = s.ds.cause ∧
      ∀ k, (k.maskable = true ∨ k = .forced ∨ k = .emergency) → (s.sense p).ds.latch.get k = s.ds.latch.get k := by
  rcases s.senses p with ⟨-, e⟩ | ⟨-, senses⟩
  · rw [e]; exact ⟨rfl, fun _ _ => rfl⟩
  generalize s.sense p = t at senses ⊢
  cases senses
  case airLoss =>
    unfold State.airLoss State.latchAirLoss
    split_ifs
    · exact ⟨by simp, fun k _ => by simp⟩
    · refine ⟨by simp, fun k h => ?_⟩
      have other : k ≠ airLossOf p := by
        rintro rfl
        cases p <;> simp [airLossOf, DropCondition.maskable] at h
      simp [DropSet.get_set, other]
  all_goals exact ⟨by simp, fun k _ => by simp⟩

theorem State.latchSoft_latch (s : State) (k c : DropCondition) :
    (s.latchSoft c).ds.latch.get k = (s.ds.latch.get k || decide (k = c)) := by
  unfold State.latchSoft
  split_ifs with already
  · by_cases same : k = c
    · subst same; simp [already]
    · simp [same]
  · by_cases same : k = c <;> simp [DropSet.get_set, same]

/-- A judged cause stands as it is, and latches where it comes in with its mask ON. -/
theorem State.judgeCause_latch (s : State) (im : Image) (k c : DropCondition) :
    (s.judgeCause im c).ds.latch.get k = (s.ds.latch.get k ||
      (decide (k = c) && s.maskableCause im c && !s.ds.cause.get c && im.masks.get c)) := by
  unfold State.judgeCause
  dsimp only
  split_ifs with new mask wrong wrong
  all_goals simp_all [State.latchSoft_latch]

theorem State.judgeCause_latchedWithCause {s : State} {im : Image} {k : DropCondition} (mask : im.masks.get k = true)
    (c : DropCondition) (h : s.LatchedWithCause k) : (s.judgeCause im c).LatchedWithCause k := by
  intro cause
  rw [State.judgeCause_cause, DropSet.get_set] at cause
  rw [State.judgeCause_latch]
  by_cases same : k = c
  · subst same
    rw [if_pos rfl] at cause
    by_cases was : s.ds.cause.get k = true
    · simp [h was]
    · simp [cause, mask, was]
  · rw [if_neg same] at cause
    simp [h cause]

theorem Move.latchedWithCause {k : DropCondition} {im : Image} (maskable : k.maskable = true)
    (mask : im.masks.get k = true) {s t : State} (m : Move s t) (image : s.cl.image = some im)
    (h : s.LatchedWithCause k) : t.LatchedWithCause k := by
  induction m
  case judge im' c i _ _ =>
    obtain rfl := Option.some.inj (i.symm.trans image)
    exact State.judgeCause_latchedWithCause mask c h
  case restore im' i =>
    intro cause
    rw [State.formRestore_cause] at cause
    rcases s.formRestore_latch im' with e | ⟨restoring, -, -⟩
    · rw [e]; exact h cause
    · rw [State.not_restoring maskable (h cause) cause] at restoring
      cases restoring
  case sense p =>
    obtain ⟨causes, latches⟩ := s.sense_latches p
    unfold State.LatchedWithCause
    rw [causes, latches k (.inl maskable)]
    exact h
  all_goals exact h.congr (by simp) (by simp)

/-- A latch of a condition holds the breaker open. -/
def State.LatchHolds (k : DropCondition) (s : State) : Prop := s.ds.latch.get k = true → s.bi.hold.ds = true

theorem State.LatchHolds.congr {k : DropCondition} {s t : State} (h : s.LatchHolds k) (latch : t.ds.latch = s.ds.latch)
    (hold : t.bi.hold.ds = s.bi.hold.ds) : t.LatchHolds k := by
  unfold State.LatchHolds
  rw [latch, hold]
  exact h

theorem State.setLatch_latchHolds (s : State) (k c : DropCondition) : (s.setLatch c).LatchHolds k := fun _ => rfl

theorem State.keepLatches_latchHolds (s : State) (k : DropCondition) (d : DropSet) : (s.keepLatches d).LatchHolds k := by
  intro latched
  have some : d.isEmpty = false := by
    rw [← Bool.not_eq_true, DropSet.isEmpty_iff]
    rintro rfl
    cases k <;> cases latched
  simp [some]

theorem State.latchSoft_latchHolds {s : State} {k : DropCondition} (c : DropCondition) (h : s.LatchHolds k) :
    (s.latchSoft c).LatchHolds k := by
  unfold State.latchSoft
  split_ifs
  · exact h
  · exact State.setLatch_latchHolds _ k c

theorem State.judgeCause_latchHolds {s : State} {k : DropCondition} (im : Image) (c : DropCondition)
    (h : s.LatchHolds k) : (s.judgeCause im c).LatchHolds k := by
  obtain ⟨t, taken, e⟩ := s.judgeCause_cases im c
  have start : t.LatchHolds k := by
    rcases taken with rfl | rfl <;> exact h.congr (by simp) (by simp)
  rcases e with e | e <;> rw [e]
  · exact start
  · exact State.latchSoft_latchHolds c start

theorem State.sense_latchHolds {s : State} {k : DropCondition} (p : Pan) (h : s.LatchHolds k) :
    (s.sense p).LatchHolds k := by
  rcases s.senses p with ⟨-, e⟩ | ⟨-, senses⟩
  · rw [e]; exact h
  generalize s.sense p = t at senses ⊢
  cases senses
  case airLoss =>
    unfold State.airLoss State.latchAirLoss
    split_ifs
    · exact h.congr (by simp) (by simp)
    · exact State.setLatch_latchHolds _ k _
  all_goals exact h.congr (by simp) (by simp)

theorem Move.latchHolds {k : DropCondition} {s t : State} (m : Move s t) (h : s.LatchHolds k) : t.LatchHolds k := by
  induction m
  case sense p => exact State.sense_latchHolds p h
  case judge im c _ _ _ => exact State.judgeCause_latchHolds im c h
  case restore im i =>
    unfold State.formRestore
    split_ifs
    · exact State.keepLatches_latchHolds _ k _
    all_goals exact h
  all_goals exact h.congr (by simp) (by simp)

/-! ### Silence -/

theorem State.silenceEnds_running {s : State} {n : Nat} (h : s.pv.silence = .running n) :
    s.silenceEnds = ({ s with pv := { s.pv with silence := .expired } } : State).request .controlSilent := by
  unfold State.silenceEnds
  rw [h]

/-- Settles O36. The silence is a cause at the end of every event after which it has expired; a cause that comes in with its
mask ON is latched, and the latch holds the breaker open. -/
theorem silenceAndTheEndOfLearning : Obligations.SilenceAndTheEndOfLearning := by
  unfold Obligations.SilenceAndTheEndOfLearning
  refine ⟨fun s im n released i running => ?_, fun s released learning => ?_⟩
  · refine ⟨_, exec_eq_event released rfl, ?_⟩
    have runs : direct .silenceTimerExpiry s =
        ({ s with pv := { s.pv with silence := .expired } } : State).request .controlSilent :=
      State.silenceEnds_running running
    have on := reacts_eventEnd (c := .silenceTimerExpiry) (by simp) s
    rw [runs] at on
    have pv : (eventEnd .silenceTimerExpiry s).pv = { s.pv with silence := .expired } := by
      rw [on.kept_pv]; simp
    have image : (eventEnd .silenceTimerExpiry s).cl.image = some im := by
      rw [on.kept_cl]; simpa using i
    refine ⟨pv, on.flags _ (State.request_self _ _), ?_, fun mask was latch => ?_⟩
    · rw [eventEnd_silent _ _ im image, pv]
      rfl
    · have moves := moves_eventEnd .silenceTimerExpiry s
      rw [runs] at moves
      have holds : (eventEnd .silenceTimerExpiry s).LatchHolds .controlSilent := by
        refine moves.keeps (fun _ _ m => m.latchHolds) ?_
        intro latched
        simp [DropSet.get, latch] at latched
      have latched : (eventEnd .silenceTimerExpiry s).LatchedWithCause .controlSilent := by
        refine (moves.keeps (Law := fun u => u.cl.image = some im ∧ u.LatchedWithCause .controlSilent) ?_ ?_).2
        · exact fun u v m law => ⟨by rw [m.cl]; exact law.1, m.latchedWithCause (k := .controlSilent) (im := im) rfl mask law.1 law.2⟩
        · refine ⟨by simpa using i, fun cause => ?_⟩
          simp [DropSet.get, was] at cause
      have stands := latched (by
        have := eventEnd_silent _ _ im image
        rw [pv] at this
        exact this)
      exact ⟨stands, holds stands⟩
  · refine ⟨_, exec_eq_event released rfl, ?_⟩
    have on := reacts_eventEnd (c := .learningPeriodEnd) (by simp) s
    rwa [show direct .learningPeriodEnd s = { s with pv := s.pv.endLearning } from if_pos learning] at on

end Sys2Proof.Machine
end

section
/-! PROOFS. The clamping of R203: each field in its range, the adjustments each on the values left before it, and a clamped
image that stands. -/

namespace Sys2Proof.Machine

/-! ### Clamping one value -/

theorem clamp_of_mem {lo hi n : Nat} (low : lo ≤ n) (high : n ≤ hi) : clamp lo hi n = n := by
  unfold clamp
  rw [if_neg (by omega), if_neg (by omega)]

theorem le_clamp {lo hi : Nat} (h : lo ≤ hi) (n : Nat) : lo ≤ clamp lo hi n := by
  unfold clamp
  split_ifs <;> omega

theorem clamp_le {lo hi : Nat} (h : lo ≤ hi) (n : Nat) : clamp lo hi n ≤ hi := by
  unfold clamp
  split_ifs <;> omega

theorem clamp_clamp {lo hi : Nat} (h : lo ≤ hi) (n : Nat) : clamp lo hi (clamp lo hi n) = clamp lo hi n :=
  clamp_of_mem (le_clamp h n) (clamp_le h n)

theorem clampInt_clampInt {lo hi : Int} (h : lo ≤ hi) (n : Int) :
    clampInt lo hi (clampInt lo hi n) = clampInt lo hi n := by
  unfold clampInt
  split_ifs <;> omega

theorem clamps_clampInt (lo hi raw : Int) (h : lo ≤ hi) : Clamps lo hi raw (clampInt lo hi raw) := by
  unfold clampInt
  constructor <;> intros <;> split_ifs <;> omega

theorem clamps_min (hi n : Nat) : Clamps 0 hi n (min n hi : Nat) := by
  constructor <;> intros <;> omega

/-! ### One pantograph and one profile -/

/-- The pantograph of a clamped image (R203). -/
def clampedPan (trainLength : Nat) (c : PanConfig) : PanConfig :=
  let d := clampSet (clampPan c)
  { d with p := min d.p trainLength }

/-- The profile of a clamped image (R203). -/
def clampedProfile (f : Profile) : Profile := clampApplies (clampProfile f)

theorem clampSet_frame (c : PanConfig) :
    (clampSet c).fBase = c.fBase ∧ (clampSet c).rating = c.rating ∧ (clampSet c).set = c.set ∧ (clampSet c).p = c.p ∧
      ((clampSet c).present = true ↔ c.present = true ∧ c.set ≠ none) := by
  unfold clampSet
  cases set : c.set <;> simp [set]

theorem clampedPan_fields (n : Nat) (c : PanConfig) :
    (clampedPan n c).fBase = clamp 40 140 c.fBase ∧ (clampedPan n c).rating = clamp 0 100 c.rating ∧
      (clampedPan n c).set = c.set ∧ (clampedPan n c).p = min c.p n ∧
      ((clampedPan n c).present = true ↔ c.present = true ∧ c.set ≠ none) := by
  obtain ⟨fBase, rating, set, p, present⟩ := clampSet_frame (clampPan c)
  exact ⟨fBase, rating, set, congrArg (min · n) p, present⟩

theorem clampedPan_clampedPan (n : Nat) (c : PanConfig) : clampedPan n (clampedPan n c) = clampedPan n c := by
  obtain ⟨present, set, p, fBase, rating⟩ := c
  cases set <;>
    simp [clampedPan, clampSet, clampPan, clamp_clamp]

theorem clampApplies_frame (f : Profile) :
    (clampApplies f).low = f.low ∧ (clampApplies f).high = f.high ∧ (clampApplies f).maxCollecting = f.maxCollecting ∧
      (clampApplies f).minSpacing = f.minSpacing ∧ (clampApplies f).maxScraping = f.maxScraping ∧
      (clampApplies f).leadExclusion = f.leadExclusion ∧
      (clampApplies f).applies = (if f.applies = .undefined then .off else f.applies) := by
  unfold clampApplies
  split_ifs <;> simp

theorem clampApplies_defined (f : Profile) : (clampApplies f).applies ≠ .undefined := by
  rw [(clampApplies_frame f).2.2.2.2.2.2]
  split_ifs with h
  · decide
  · exact h

theorem clampedProfile_clampedProfile (f : Profile) : clampedProfile (clampedProfile f) = clampedProfile f := by
  obtain ⟨low, high, applies, coll, spacing, scraping, lead⟩ := f
  cases applies <;> simp [clampedProfile, clampApplies, clampProfile, clamp_clamp]

theorem clampedProfile_clamps (f : Profile) :
    Clamps 0 400 f.low (clampedProfile f).low ∧ Clamps 0 400 f.high (clampedProfile f).high ∧
      Clamps 1 8 f.maxCollecting (clampedProfile f).maxCollecting ∧
      Clamps 0 800 f.minSpacing (clampedProfile f).minSpacing ∧
      Clamps 0 4 f.maxScraping (clampedProfile f).maxScraping ∧
      Clamps 0 400 f.leadExclusion (clampedProfile f).leadExclusion ∧
      (clampedProfile f).applies = (if f.applies = .undefined then .off else f.applies) ∧
      (clampedProfile f).applies ≠ .undefined := by
  obtain ⟨low, high, coll, spacing, scraping, lead, applies⟩ := clampApplies_frame (clampProfile f)
  unfold clampedProfile
  refine ⟨?_, ?_, ?_, ?_, ?_, ?_, applies, clampApplies_defined _⟩
  · rw [low]; exact clamps_clamp 0 400 _ (by decide)
  · rw [high]; exact clamps_clamp 0 400 _ (by decide)
  · rw [coll]; exact clamps_clamp 1 8 _ (by decide)
  · rw [spacing]; exact clamps_clamp 0 800 _ (by decide)
  · rw [scraping]; exact clamps_clamp 0 4 _ (by decide)
  · rw [lead]; exact clamps_clamp 0 400 _ (by decide)

/-! ### The image -/

/-- The fields of a clamped image (R203). -/
theorem clampImage_fields (i : Image) :
    clampImage i = { clampFields i with
      panA := clampedPan (clamp 10 800 i.trainLength) i.panA
      panB := clampedPan (clamp 10 800 i.trainLength) i.panB
      profile0 := clampedProfile i.profile0, profile1 := clampedProfile i.profile1
      profile2 := clampedProfile i.profile2, profile3 := clampedProfile i.profile3
      th := max (clamp 10 100 i.th) (2 * clamp 5 50 i.ts)
      tClear := if clamp 1 100 i.tIce ≤ clamp 0 50 i.tClear then clamp 1 100 i.tIce - 1 else clamp 0 50 i.tClear
      tSevere := if clamp 2 255 i.tSevere ≤ clamp 1 100 i.tIce then clamp 1 100 i.tIce + 1
        else clamp 2 255 i.tSevere } := rfl

theorem clampImage_pan (i : Image) (p : Pan) :
    (clampImage i).pan p = clampedPan (clamp 10 800 i.trainLength) (i.pan p) := by
  cases p <;> rfl

theorem clampImage_th (i : Image) : (clampImage i).th = max (clamp 10 100 i.th) (2 * (clampImage i).ts) := rfl

theorem clampImage_tClear (i : Image) : (clampImage i).tClear =
    if (clampImage i).tIce ≤ clamp 0 50 i.tClear then (clampImage i).tIce - 1 else clamp 0 50 i.tClear := rfl

theorem clampImage_tSevere (i : Image) : (clampImage i).tSevere =
    if clamp 2 255 i.tSevere ≤ (clampImage i).tIce then (clampImage i).tIce + 1 else clamp 2 255 i.tSevere := rfl

/-- A clamped image stands. -/
theorem clampImage_clampImage (i : Image) : clampImage (clampImage i) = clampImage i := by
  have ts := clamp_le (show 5 ≤ 50 by decide) i.ts
  have ice := clamp_le (show 1 ≤ 100 by decide) i.tIce
  have th : clamp 10 100 (max (clamp 10 100 i.th) (2 * clamp 5 50 i.ts)) = max (clamp 10 100 i.th) (2 * clamp 5 50 i.ts) := by
    have low := le_clamp (show 10 ≤ 100 by decide) i.th
    have high := clamp_le (show 10 ≤ 100 by decide) i.th
    exact clamp_of_mem (by omega) (by omega)
  have clear : clamp 0 50 (clampImage i).tClear = (clampImage i).tClear := by
    have high := clamp_le (show 0 ≤ 50 by decide) i.tClear
    rw [clampImage_tClear]
    split_ifs <;> exact clamp_of_mem (by omega) (by omega)
  have severe : clamp 2 255 (clampImage i).tSevere = (clampImage i).tSevere := by
    have low := le_clamp (show 2 ≤ 255 by decide) i.tSevere
    have high := clamp_le (show 2 ≤ 255 by decide) i.tSevere
    have ice : (clampImage i).tIce ≤ 100 := ice
    rw [clampImage_tSevere]
    split_ifs <;> exact clamp_of_mem (by omega) (by omega)
  have lower : ¬(clampImage i).tIce ≤ (clampImage i).tClear := by
    have positive : 1 ≤ (clampImage i).tIce := le_clamp (by decide) i.tIce
    rw [clampImage_tClear]
    split_ifs <;> omega
  have above : ¬(clampImage i).tSevere ≤ (clampImage i).tIce := by
    rw [clampImage_tSevere]
    split_ifs <;> omega
  have ice' : clamp 1 100 (clampImage i).tIce = (clampImage i).tIce := clamp_clamp (by decide) i.tIce
  rw [clampImage_fields (clampImage i), if_neg (by rw [clear, ice']; exact lower), if_neg (by rw [severe, ice']; exact above),
    clear, severe]
  conv_rhs => rw [clampImage_fields i]
  dsimp only
  congr 1
  case e_panA | e_panB =>
    rw [show clamp 10 800 (clampImage i).trainLength = clamp 10 800 i.trainLength from clamp_clamp (by decide) _]
    exact clampedPan_clampedPan _ _
  case e_profile0 | e_profile1 | e_profile2 | e_profile3 => exact clampedProfile_clampedProfile _
  case e_th =>
    rw [show clamp 5 50 (clampImage i).ts = clamp 5 50 i.ts from clamp_clamp (by decide) _,
      show clamp 10 100 (clampImage i).th = _ from th]
    omega
  case e_ambientLimit => exact clampInt_clampInt (by decide) _
  case e_levels =>
    change (i.levels.map (clamp 0 7)).map (clamp 0 7) = i.levels.map (clamp 0 7)
    rw [List.map_map]
    exact List.map_congr_left fun n _ => clamp_clamp (by decide) n
  case e_budget => exact clamp_clamp (show 0 ≤ 2000 by decide) i.budget
  case e_fIce => exact clamp_clamp (show 0 ≤ 40 by decide) i.fIce
  case e_cooldownDist => exact clamp_clamp (show 0 ≤ 20000 by decide) i.cooldownDist
  case e_delayCode => exact clamp_clamp (show 0 ≤ 4 by decide) i.delayCode
  case e_lampThreshold => exact clamp_clamp (show 0 ≤ 7 by decide) i.lampThreshold
  all_goals
    apply clamp_clamp
    decide

theorem clampImage_profiles {i : Image} {k : Nat} {f g : Profile} (before : i.profiles[k]? = some f)
    (after : (clampImage i).profiles[k]? = some g) : g = clampedProfile f := by
  match k with
  | 0 | 1 | 2 | 3 => cases before; cases after; rfl
  | k + 4 => cases before

/-- Settles O8. Every field of a clamped image is a clamped value of the raw one, but for the adjustments of R203, which are
written on the values left before them. -/
theorem clampedImageIsInRange : Obligations.ClampedImageIsInRange := by
  unfold Obligations.ClampedImageIsInRange
  intro raw
  have lower : (clampImage raw).tClear ≤ 50 := by
    have clear := clamp_le (show 0 ≤ 50 by decide) raw.tClear
    rw [clampImage_tClear]
    split_ifs <;> omega
  have higher : (clampImage raw).tSevere ≤ 255 := by
    have severe := clamp_le (show 2 ≤ 255 by decide) raw.tSevere
    have ice : (clampImage raw).tIce ≤ 100 := clamp_le (by decide) raw.tIce
    rw [clampImage_tSevere]
    split_ifs <;> omega
  have hold : (clampImage raw).th ≤ 100 := by
    have th := clamp_le (show 10 ≤ 100 by decide) raw.th
    have ts : (clampImage raw).ts ≤ 50 := clamp_le (by decide) raw.ts
    rw [clampImage_th]
    omega
  refine ⟨clampImage_clampImage raw, fun p => ?_, ⟨rfl, fun k f g before after => ?_⟩, ?_⟩
  · obtain ⟨fBase, rating, set, position, present⟩ := clampedPan_fields (clamp 10 800 raw.trainLength) (raw.pan p)
    rw [clampImage_pan]
    refine ⟨?_, ?_, set, present, ?_⟩
    · rw [fBase]; exact clamps_clamp 40 140 _ (by decide)
    · rw [rating]; exact clamps_clamp 0 100 _ (by decide)
    · rw [position]; exact clamps_min _ _
  · rw [clampImage_profiles before after]
    exact clampedProfile_clamps f
  · refine ⟨clamps_clamp 10 800 _ (by decide), clamps_clamp 1 16 _ (by decide), clamps_clamp 5 50 _ (by decide),
      ⟨clamp 10 100 raw.th, clamps_clamp 10 100 _ (by decide), ?_⟩, hold, clamps_clamp 5 50 _ (by decide),
      clamps_clamp 2 8 _ (by decide), clamps_clamp 20 500 _ (by decide), clamps_clamp 4 250 _ (by decide),
      clamps_clamp 0 2000 _ (by decide), clamps_clampInt (-20) 20 _ (by decide), clamps_clamp 1 100 _ (by decide),
      ⟨clamp 0 50 raw.tClear, clamps_clamp 0 50 _ (by decide), ?_⟩, lower,
      ⟨clamp 2 255 raw.tSevere, clamps_clamp 2 255 _ (by decide), ?_⟩, higher, clamps_clamp 0 40 _ (by decide),
      clamps_clamp 30 100 _ (by decide), clamps_clamp 500 10000 _ (by decide), clamps_clamp 0 20000 _ (by decide),
      clamps_clamp 50 1000 _ (by decide), clamps_clamp 10 500 _ (by decide), clamps_clamp 2 20 _ (by decide),
      clamps_clamp 4 15 _ (by decide), clamps_clamp 3 10 _ (by decide), clamps_clamp 100 2000 _ (by decide),
      clamps_clamp 1 20 _ (by decide), clamps_clamp 100 300 _ (by decide), clamps_clamp 0 4 _ (by decide), ?_,
      clamps_clamp 0 7 _ (by decide), rfl, rfl, rfl, rfl, rfl⟩
    · rw [clampImage_th]; push_cast; rfl
    · have ice : 1 ≤ (clampImage raw).tIce := le_clamp (by decide) raw.tIce
      rw [clampImage_tClear]
      split_ifs <;> omega
    · rw [clampImage_tSevere]
      split_ifs <;> omega
    · refine ⟨List.length_map .., fun k a b before after => ?_⟩
      have e : (clampImage raw).levels[k]? = (raw.levels[k]?).map (clamp 0 7) := List.getElem?_map ..
      rw [e, before] at after
      cases after
      exact clamps_clamp 0 7 _ (by decide)

end Sys2Proof.Machine
end

section
/-! PROOFS. The legs of a section through the reactions of an event: with a next collecting pantograph that cannot come to
FAULT the countdown stands and the phases go on by their order (R108, R112, R114, R116). -/

namespace Sys2Proof.Machine

/-! ### The phases that an event can lead on to -/

/-- The phases that the reactions can lead to, on a breaker that stands and with a countdown that stands. -/
def Phase.ahead (closed ended : Bool) : Phase → List Phase
  | .opening => .opening :: if closed then [] else [.stowing, .coasting] ++ if ended then [.requalify] else []
  | .stowing => [.stowing, .coasting] ++ if ended then [.requalify] else []
  | .coasting => .coasting :: if ended then [.requalify] else []
  | p => [p]

theorem Phase.self_ahead (closed ended : Bool) (p : Phase) : p ∈ p.ahead closed ended := by
  cases p <;> cases closed <;> cases ended <;> decide

theorem Phase.stow_ahead {p : Phase} {closed ended : Bool} (h : .opening ∈ p.ahead closed ended) (k : closed = false) :
    .stowing ∈ p.ahead closed ended := by
  subst k
  cases p <;> cases ended <;> revert h <;> decide

theorem Phase.coast_ahead {p : Phase} {closed ended : Bool} (h : .stowing ∈ p.ahead closed ended) :
    .coasting ∈ p.ahead closed ended := by
  cases p <;> cases closed <;> cases ended <;> revert h <;> decide

theorem Phase.requalify_ahead {p : Phase} {closed ended : Bool} (h : .coasting ∈ p.ahead closed ended)
    (k : ended = true) : .requalify ∈ p.ahead closed ended := by
  subst k
  cases p <;> cases closed <;> revert h <;> decide

theorem Phase.not_closing_ahead {p q : Phase} {closed ended : Bool} (h : q ∈ p.ahead closed ended) (k : p ≠ .closing) :
    q ≠ .closing := by
  rintro rfl
  cases p <;> cases closed <;> cases ended <;> first | exact absurd rfl k | (revert h; decide)

/-! ### The legs through the moves of an event -/

/-- What stands of a section through the reactions of an event; on a firm next collecting pantograph, one that cannot come to
FAULT, it is not replaced, and nothing aborts. -/
structure Legs (firm : Prop) (s u : State) : Prop where
  leg2 : u.cc.leg2 = s.cc.leg2
  leg3 : u.cc.leg3 = s.cc.leg3
  mark : u.cc.forcedDrop = s.cc.forcedDrop
  closed : u.bi.closed = s.bi.closed
  course : (u.cc.countdown = s.cc.countdown ∧ u.cc.phase ∈ s.cc.phase.ahead s.bi.closed (s.cc.countdown == .ended)) ∨
    (¬firm ∧ u.cc.phase = .aborted)
  next : firm → u.cc.nextPan = s.cc.nextPan
  sound : firm → ∀ p, s.cc.nextPan = some p → u.Steady p ∧ (u.pc p).state ≠ .fault

theorem Legs.refl {firm : Prop} {s : State} (sound : firm → ∀ p, s.cc.nextPan = some p → s.Sound p) : Legs firm s s where
  leg2 := rfl
  leg3 := rfl
  mark := rfl
  closed := rfl
  course := .inl ⟨rfl, Phase.self_ahead _ _ _⟩
  next _ := rfl
  sound k p e := ⟨(sound k p e).steady, (sound k p e).not_fault⟩

/-- A next collecting pantograph that is not in FAULT is not replaced. -/
theorem State.reactFault_of_sound {s : State} (h : ∀ p, s.cc.nextPan = some p → (s.pc p).state ≠ .fault) (im : Image) :
    s.reactFault im = s := by
  unfold State.reactFault
  split
  · simp [h _ ‹_›]
  · rfl

/-- Outside CLOSING a FAULT of the next collecting pantograph replaces it, or aborts (R109). -/
theorem State.reactFault_cc {s : State} (h : s.cc.phase ≠ .closing) (im : Image) :
    (s.reactFault im).cc.leg2 = s.cc.leg2 ∧ (s.reactFault im).cc.leg3 = s.cc.leg3 ∧
      (s.reactFault im).cc.forcedDrop = s.cc.forcedDrop ∧
      (((s.reactFault im).cc.countdown = s.cc.countdown ∧ (s.reactFault im).cc.phase = s.cc.phase) ∨
        (s.reactFault im).cc.phase = .aborted) := by
  unfold State.reactFault
  split
  · split_ifs
    · split
      · exact ⟨rfl, rfl, rfl, .inr rfl⟩
      · dsimp only
        split
        · exact ⟨rfl, rfl, rfl, .inl ⟨rfl, rfl⟩⟩
        next closing => exact absurd closing h
        · exact ⟨rfl, rfl, rfl, .inl ⟨rfl, rfl⟩⟩
    · exact ⟨rfl, rfl, rfl, .inl ⟨rfl, rfl⟩⟩
  · exact ⟨rfl, rfl, rfl, .inl ⟨rfl, rfl⟩⟩

theorem State.reactClosing_of_not {s : State} (h : s.cc.phase ≠ .closing) (im : Image) : s.reactClosing im = s := if_neg h

theorem State.reactRequalify_cc (s : State) :
    s.reactRequalify.cc.nextPan = s.cc.nextPan ∧ s.reactRequalify.cc.countdown = s.cc.countdown ∧
      s.reactRequalify.cc.leg2 = s.cc.leg2 ∧ s.reactRequalify.cc.leg3 = s.cc.leg3 ∧
      s.reactRequalify.cc.forcedDrop = s.cc.forcedDrop ∧ s.reactRequalify.cc.phase = s.cc.phase := by
  unfold State.reactRequalify
  split_ifs <;> simp

theorem Legs.not_closing {firm : Prop} {s u : State} (h : Legs firm s u) (k : s.cc.phase ≠ .closing) :
    u.cc.phase ≠ .closing := by
  rcases h.course with ⟨-, ahead⟩ | ⟨-, aborted⟩
  · exact Phase.not_closing_ahead ahead k
  · rw [aborted]; decide

/-- A step of the phases by their order leaves the rest of the section. -/
theorem Legs.goesOn {firm : Prop} {s u v : State} (h : Legs firm s u) (p q : Phase) (at' : u.cc.phase = p)
    (not : p ≠ .aborted)
    (ahead : u.cc.countdown = s.cc.countdown → p ∈ s.cc.phase.ahead s.bi.closed (s.cc.countdown == .ended) →
      q ∈ s.cc.phase.ahead s.bi.closed (s.cc.countdown == .ended))
    (leg2 : v.cc.leg2 = u.cc.leg2) (leg3 : v.cc.leg3 = u.cc.leg3) (mark : v.cc.forcedDrop = u.cc.forcedDrop)
    (closed : v.bi.closed = u.bi.closed) (countdown : v.cc.countdown = u.cc.countdown) (next : v.cc.nextPan = u.cc.nextPan)
    (phase : v.cc.phase = q)
    (sound : firm → ∀ p, s.cc.nextPan = some p → v.Steady p ∧ (v.pc p).state ≠ .fault) : Legs firm s v where
  leg2 := leg2.trans h.leg2
  leg3 := leg3.trans h.leg3
  mark := mark.trans h.mark
  closed := closed.trans h.closed
  course := by
    rcases h.course with ⟨stands, before⟩ | ⟨-, aborted⟩
    · exact .inl ⟨countdown.trans stands, phase ▸ ahead stands (at' ▸ before)⟩
    · exact absurd (at'.symm.trans aborted) not
  next k := next.trans (h.next k)
  sound := sound

theorem Legs.same {firm : Prop} {s u v : State} (h : Legs firm s u) (cc : v.cc = u.cc) (closed : v.bi.closed = u.bi.closed)
    (sound : firm → ∀ p, s.cc.nextPan = some p → v.Steady p ∧ (v.pc p).state ≠ .fault) : Legs firm s v where
  leg2 := by rw [cc, h.leg2]
  leg3 := by rw [cc, h.leg3]
  mark := by rw [cc, h.mark]
  closed := closed.trans h.closed
  course := by rw [cc]; exact h.course
  next k := by rw [cc, h.next k]
  sound := sound

theorem State.enterStowing_cc (s : State) :
    s.enterStowing.cc = { s.cc with phase := .stowing } := by
  unfold State.enterStowing
  dsimp only
  split_ifs <;> simp

theorem Move.legs {firm : Prop} {s u v : State} (m : Move u v) (open' : s.cc.phase ≠ .closing) (h : Legs firm s u) :
    Legs firm s v := by
  have sound : firm → ∀ p, s.cc.nextPan = some p → v.Steady p ∧ (v.pc p).state ≠ .fault := fun k p e =>
    have eases := m.eases (h.sound k p e).1
    ⟨eases.steady m.ioc (h.sound k p e).1, eases.not_fault (h.sound k p e).2⟩
  have closed := m.closed
  induction m
  case fault im i =>
    obtain ⟨leg2, leg3, mark, course⟩ := State.reactFault_cc (h.not_closing open') im
    have whole : firm → u.reactFault im = u := fun k =>
      State.reactFault_of_sound (fun p e => (h.sound k p (h.next k ▸ e)).2) im
    refine ⟨leg2.trans h.leg2, leg3.trans h.leg3, mark.trans h.mark, closed.trans h.closed, ?_,
      fun k => by rw [whole k]; exact h.next k, sound⟩
    by_cases k : firm
    · rw [whole k]; exact h.course
    · rcases course with ⟨countdown, phase⟩ | aborted
      · rw [countdown, phase]; exact h.course
      · exact .inr ⟨k, aborted⟩
  case stow =>
    unfold State.reactOpening at *
    split_ifs at * with k
    · have cc := u.enterStowing_cc
      exact h.goesOn .opening .stowing k.1 (by decide)
        (fun _ before => Phase.stow_ahead before (h.closed.symm.trans k.2)) (by rw [cc]) (by rw [cc]) (by rw [cc]) closed
        (by rw [cc]) (by rw [cc]) (by rw [cc]) sound
    · exact h
  case stowed =>
    unfold State.reactStowing at *
    dsimp only at *
    split_ifs at * with k
    · exact h.goesOn .stowing .coasting k.1 (by decide) (fun _ before => Phase.coast_ahead before) rfl rfl rfl rfl rfl rfl
        rfl sound
    · exact h
  case coasted =>
    unfold State.reactCoasting at *
    split_ifs at * with k
    · exact h.goesOn .coasting .requalify k.1 (by decide)
        (fun stands before => Phase.requalify_ahead before (by rw [← stands, k.2]; rfl)) rfl rfl rfl rfl rfl rfl rfl sound
    · exact h
  case close im i =>
    rw [State.reactClosing_of_not (h.not_closing open')]
    exact h
  case requalify =>
    obtain ⟨next, countdown, leg2, leg3, mark, phase⟩ := u.reactRequalify_cc
    refine ⟨leg2.trans h.leg2, leg3.trans h.leg3, mark.trans h.mark, closed.trans h.closed, ?_,
      fun k => next.trans (h.next k), sound⟩
    rw [countdown, phase]
    exact h.course
  all_goals exact h.same (by simp) closed sound

theorem Moves.legs {firm : Prop} {s t : State} (m : Moves s t)
    (sound : firm → ∀ p, s.cc.nextPan = some p → s.Sound p) (open' : s.cc.phase ≠ .closing) : Legs firm s t :=
  m.keeps (fun _ _ m => m.legs open') (Legs.refl sound)

/-! ### The phases that no event ends in -/

/-- The Changeover Controller ends a round with OPENING only on a closed breaker and COASTING only with the countdown
running (R112, R116). -/
structure State.LegsTaken (s : State) : Prop where
  opening : s.cc.phase = .opening → s.bi.closed = true
  coasting : s.cc.phase = .coasting → s.cc.countdown ≠ .ended

theorem State.LegsTaken.congr {s t : State} (h : s.LegsTaken) (cc : t.cc = s.cc) (closed : t.bi.closed = s.bi.closed) :
    t.LegsTaken := by
  constructor
  · rw [cc, closed]; exact h.opening
  · rw [cc]; exact h.coasting

theorem State.reactOpening_opening {s : State} (h : s.reactOpening.cc.phase = .opening) : s.reactOpening.bi.closed = true := by
  unfold State.reactOpening at h ⊢
  split_ifs at h ⊢ with k
  · have stows : s.enterStowing.cc.phase = .stowing := by
      unfold State.enterStowing
      dsimp only
      split_ifs <;> simp
    rw [stows] at h
    cases h
  · cases c : s.bi.closed
    · exact absurd ⟨h, c⟩ k
    · rfl

theorem State.reactStowing_cc (s : State) :
    s.reactStowing = s ∨ (s.cc.phase = .stowing ∧ s.reactStowing = { s with cc := { s.cc with phase := .coasting } }) := by
  unfold State.reactStowing
  dsimp only
  split_ifs with k
  · exact .inr ⟨k.1, rfl⟩
  · exact .inl rfl

theorem State.reactCoasting_cases (s : State) :
    (s.reactCoasting = s ∧ ¬(s.cc.phase = .coasting ∧ s.cc.countdown = .ended)) ∨ s.reactCoasting.cc.phase = .requalify := by
  unfold State.reactCoasting
  split_ifs with k
  · exact .inr rfl
  · exact .inl ⟨rfl, k⟩

/-- The conditions of the phases take OPENING on an open breaker and COASTING at the end of leg 3 on, outside CLOSING. -/
theorem State.ccReact_legsTaken {s : State} (im : Image) (h : s.cc.phase ≠ .closing) : (s.ccReact im).LegsTaken := by
  unfold State.ccReact
  have opened := (s.reactFault im).reactOpening_opening
  have fault : (s.reactFault im).cc.phase ≠ .closing := by
    rcases (State.reactFault_cc h im).2.2.2 with ⟨-, phase⟩ | aborted
    · rw [phase]; exact h
    · rw [aborted]; decide
  have start : (s.reactFault im).reactOpening.cc.phase ≠ .closing := by
    unfold State.reactOpening
    split_ifs
    · unfold State.enterStowing
      dsimp only
      split_ifs <;> simp
    · exact fault
  generalize (s.reactFault im).reactOpening = t at opened start
  have stowed : (t.reactStowing.cc.phase = .opening → t.reactStowing.bi.closed = true) ∧ t.reactStowing.cc.phase ≠ .closing := by
    rcases t.reactStowing_cc with e | ⟨-, e⟩ <;> rw [e]
    · exact ⟨opened, start⟩
    · exact ⟨fun x => (nomatch x), fun x => (nomatch x)⟩
  generalize t.reactStowing = u at stowed
  have taken : u.reactCoasting.LegsTaken ∧ u.reactCoasting.cc.phase ≠ .closing := by
    rcases u.reactCoasting_cases with ⟨e, k⟩ | k
    · rw [e]
      exact ⟨⟨stowed.1, fun x y => k ⟨x, y⟩⟩, stowed.2⟩
    · exact ⟨⟨fun x => absurd (k.symm.trans x) (by decide), fun x => absurd (k.symm.trans x) (by decide)⟩,
        fun x => absurd (k.symm.trans x) (by decide)⟩
  generalize u.reactCoasting = v at taken
  rw [State.reactClosing_of_not taken.2]
  obtain ⟨-, countdown, -, -, -, phase⟩ := v.reactRequalify_cc
  constructor
  · rw [phase]; simpa using taken.1.opening
  · rw [phase, countdown]; exact taken.1.coasting

theorem State.others_legsTaken {s : State} {im : Image} (i : s.cl.image = some im) (h : s.cc.phase ≠ .closing) :
    s.others.LegsTaken := by
  have first : s.others = (((((((s.clearMarks).ccReact im).icuReact im).dsReact im).formProfile im).reactRaise
    im).reactScrape im) := State.ifGood_of_some i fun im s =>
    let t := (((s.clearMarks).ccReact im).icuReact im).dsReact im
    ((t.formProfile im).reactRaise im).reactScrape im
  rw [first]
  exact (State.ccReact_legsTaken (s := s.clearMarks) im (by simpa using h)).congr (by simp) (by simp)

/-- Every event on a good configuration that is not in CLOSING takes the legs of the section on. -/
theorem eventEnd_legsTaken {c : Instr} {s : State} {im : Image} (i : (direct c s).cl.image = some im)
    (open' : (direct c s).cc.phase ≠ .closing) : (eventEnd c s).LegsTaken := by
  obtain ⟨u, moves, settles⟩ := settle_succ_others 7 s (direct c s)
  have runs : eventEnd c s = finish s (asksTest c s) (asksStatus c s) (u.others.reportAndClear (acting c s)) := by
    rw [← settles]; rfl
  have at' : u.cc.phase ≠ .closing := (moves.legs (firm := False) (fun k => k.elim) open').not_closing open'
  rw [runs]
  exact (State.others_legsTaken (by rw [moves.cl]; exact i) at').congr (by simp) (by simp)

end Sys2Proof.Machine
end

section
/-! PROOFS. The odometer pulse: the train distance, the section countdown and the ends of its legs (R108, R194 to R197). -/

namespace Sys2Proof.Machine

/-! ### Lowering keeps a pantograph sound -/

/-- The sensors stand, and a pantograph keeps its state or goes from RISING or UP to LOWERING. -/
def Lowers (s t : State) : Prop :=
  t.ioc.levels = s.ioc.levels ∧
    ∀ p, (t.pc p).state = (s.pc p).state ∨ ((s.pc p).risingOrUp = true ∧ (t.pc p).state = .lowering)

theorem Lowers.of_fields {s t : State} (ioc : t.ioc.levels = s.ioc.levels) (a : t.pcA = s.pcA) (b : t.pcB = s.pcB) :
    Lowers s t :=
  ⟨ioc, fun p => .inl (by cases p <;> simp [State.pc, a, b])⟩

theorem Lowers.refl (s : State) : Lowers s s := .of_fields rfl rfl rfl

theorem Lowers.trans {s t u : State} (h : Lowers s t) (k : Lowers t u) : Lowers s u := by
  refine ⟨k.1.trans h.1, fun p => ?_⟩
  rcases h.2 p with e | ⟨raised, low⟩ <;> rcases k.2 p with e' | ⟨raised', low'⟩
  · exact .inl (e'.trans e)
  · exact .inr ⟨by simpa [PC.risingOrUp, e] using raised', low'⟩
  · exact .inr ⟨raised, e'.trans low⟩
  · exact .inr ⟨raised, low'⟩

theorem Lowers.ite {s t u : State} {q : Prop} [Decidable q] (h : Lowers s t) (k : Lowers s u) :
    Lowers s (if q then t else u) := by
  split_ifs
  · exact h
  · exact k

theorem Lowers.softLower (s : State) (p : Pan) : Lowers s (s.softLower p) := by
  refine ⟨by simp, fun q => ?_⟩
  by_cases e : q = p
  · subst e
    rw [State.softLower_pc]
    split_ifs
    · rcases (Ease.soft (closed := s.bi.closed) (up := false) (s.pc q) false).state with x | ⟨x, -⟩ | x
      · exact .inl x
      · cases x
      · exact .inr x
    · exact .inl rfl
  · rw [State.softLower_pc_ne _ e]
    exact .inl rfl

theorem Lowers.fastDrop (s : State) (p : Pan) : Lowers s (s.fastDrop p) := by
  refine ⟨by simp, fun q => ?_⟩
  by_cases e : q = p
  · subst e
    rw [State.fastDrop_pc]
    unfold PC.dropped
    split_ifs with _ raised low
    · exact .inr ⟨raised, by simp⟩
    all_goals exact .inl (by simp)
  · rw [State.fastDrop_pc_ne _ e]
    exact .inl rfl

theorem State.Sound.lowers {s t : State} {p : Pan} (h : s.Sound p) (k : Lowers s t) : t.Sound p := by
  obtain ⟨levels, state⟩ := k
  have air : t.airOk p = s.airOk p := by cases p <;> simp [State.airOk, levels]
  have sensor : t.downSensor p = s.downSensor p := by cases p <;> simp [State.downSensor, levels]
  unfold State.Sound at h ⊢
  rw [air, sensor]
  rcases state p with e | ⟨raised, low⟩
  · rw [e]; exact h
  · rcases h with down | ⟨-, rest⟩
    · simp [PC.risingOrUp, down] at raised
    · exact .inr ⟨by rw [low]; decide, rest⟩

theorem Lowers.enterStowing (s : State) : Lowers s s.enterStowing := by
  unfold State.enterStowing
  dsimp only
  have start : Lowers s { s with cc := { s.cc with phase := .stowing } } := .of_fields rfl rfl rfl
  have one := start.trans (.ite (q := ({ s with cc := { s.cc with phase := .stowing } } : State).excluded .a = true)
    (Lowers.softLower _ .a) (.refl _))
  exact one.trans (.ite (Lowers.softLower _ .b) (.refl _))

theorem Lowers.forcedDropStowing (s : State) : Lowers s s.forcedDropStowing := by
  unfold State.forcedDropStowing
  dsimp only
  refine .ite ?_ (.refl s)
  have one : Lowers s (if s.lateStowing .a then s.fastDrop .a else s) := .ite (.fastDrop s .a) (.refl s)
  exact (one.trans (.ite (.fastDrop _ .b) (.refl _))).trans (.of_fields rfl rfl rfl)

theorem Lowers.leg2Effect (s : State) : Lowers s s.leg2Effect := by
  unfold State.leg2Effect
  split
  · refine .ite ?_ ((Lowers.enterStowing s).trans (.forcedDropStowing _))
    exact ((Lowers.fastDrop s .a).trans (.fastDrop _ .b)).trans (.of_fields rfl rfl rfl)
  · exact .forcedDropStowing s
  · exact .refl s

theorem Lowers.countPulse (s : State) : Lowers s s.countPulse := by
  unfold State.countPulse
  split
  · split_ifs
    · split
      · exact .of_fields (by simp) (by simp) (by simp)
      · exact (Lowers.leg2Effect s).trans (.of_fields rfl rfl rfl)
      · exact .of_fields rfl rfl rfl
    · exact .of_fields rfl rfl rfl
  · exact .refl s

theorem Lowers.endScrape (s : State) (im : Image) (p : Pan) : Lowers s (s.endScrape im p) :=
  (Lowers.softLower s p).trans (.of_fields rfl rfl rfl)

theorem Lowers.countScrape (s : State) (im : Image) : Lowers s (s.countScrape im) := by
  unfold State.countScrape
  split
  · split_ifs
    · split
      · exact .endScrape s im _
      · exact .of_fields rfl rfl rfl
    · exact .of_fields rfl rfl rfl
  · exact .refl s

/-! ### The section at a pulse -/

theorem State.forcedDropStowing_cc (s : State) :
    s.forcedDropStowing.cc.phase = s.cc.phase ∧ s.forcedDropStowing.cc.leg3 = s.cc.leg3 ∧
      s.forcedDropStowing.cc.nextPan = s.cc.nextPan := by
  unfold State.forcedDropStowing
  dsimp only
  split_ifs <;> simp [State.markForcedDrop]

/-- The phase after the end of leg 2. -/
def Phase.afterLeg2 (closed : Bool) : Phase → Phase
  | .opening => if closed then .coasting else .stowing
  | p => p

/-- The end of leg 2 moves the phase, and loads leg 3. -/
theorem State.endLeg2_cc (s : State) :
    s.endLeg2.cc.phase = s.cc.phase.afterLeg2 s.bi.closed ∧ s.endLeg2.cc.leg3 = s.cc.leg3 ∧
      s.endLeg2.cc.nextPan = s.cc.nextPan ∧
      s.endLeg2.cc.countdown = if s.cc.leg3 ≤ 0 then .ended else .running .three s.cc.leg3.toNat := by
  have effect : s.leg2Effect.cc.phase = s.cc.phase.afterLeg2 s.bi.closed ∧ s.leg2Effect.cc.leg3 = s.cc.leg3 ∧
      s.leg2Effect.cc.nextPan = s.cc.nextPan := by
    unfold State.leg2Effect
    split
    case h_1 opening =>
      rw [opening]
      cases closed : s.bi.closed
      · obtain ⟨phase, leg3, next⟩ := s.enterStowing.forcedDropStowing_cc
        rw [State.enterStowing_cc] at phase leg3 next
        simpa [Phase.afterLeg2] using And.intro phase (And.intro leg3 next)
      · simp [Phase.afterLeg2, State.forcedDropAll, State.markForcedDrop]
    case h_2 stowing =>
      rw [stowing]
      have := s.forcedDropStowing_cc
      rwa [stowing] at this
    case h_3 other stowing =>
      refine ⟨?_, rfl, rfl⟩
      cases p : s.cc.phase <;> first | rfl | contradiction
  obtain ⟨phase, leg3, next⟩ := effect
  refine ⟨phase, leg3, next, ?_⟩
  rw [← leg3]
  rfl

theorem State.countPulse_more {s : State} {leg : Leg} {n : Nat} (h : s.cc.countdown = .running leg n) (k : 2 ≤ n) :
    s.countPulse = { s with cc := { s.cc with countdown := .running leg (n - 1) } } := by
  unfold State.countPulse
  rw [h]
  exact if_neg (by omega)

/-- The end of a leg. -/
def State.legEnd (s : State) : Leg → State
  | .one => s.endLeg1
  | .two => s.endLeg2
  | .three => s.endLeg3

theorem State.countPulse_last {s : State} {leg : Leg} {n : Nat} (h : s.cc.countdown = .running leg n) (k : n ≤ 1) :
    s.countPulse = s.legEnd leg := by
  unfold State.countPulse
  rw [h]
  dsimp only
  rw [if_pos k]
  cases leg <;> rfl

/-- The train distance and its remainder after a pulse (R195). -/
theorem IOC.runPulse_fields (c : IOC) (ppm : Nat) :
    (c.runPulse ppm).lastOdo = c.lastOdo ∧ (c.runPulse ppm).bucket = c.bucket ∧
      (c.runPulse ppm).stationary = c.stationary ∧ (c.runPulse ppm).stationaryT = c.stationaryT ∧
      (c.runPulse ppm).speed = c.speed ∧ (c.runPulse ppm).levels = c.levels ∧ (c.runPulse ppm).view = c.view ∧
      (c.remainder + 1 < ppm → (c.runPulse ppm).remainder = c.remainder + 1 ∧ (c.runPulse ppm).distance = c.distance) ∧
      (ppm ≤ c.remainder + 1 → (c.runPulse ppm).remainder = 0 ∧
        (c.runPulse ppm).distance = if c.distance < 4294967295 then c.distance + 1 else 0) := by
  unfold IOC.runPulse
  by_cases h : ppm ≤ c.remainder + 1
  · rw [if_pos h]
    exact ⟨rfl, rfl, rfl, rfl, rfl, rfl, rfl, fun k => absurd k (by omega), fun _ => ⟨rfl, rfl⟩⟩
  · rw [if_neg h]
    exact ⟨rfl, rfl, rfl, rfl, rfl, rfl, rfl, fun _ => ⟨rfl, rfl⟩, fun k => absurd k h⟩

/-- The state after a pulse at the clocks of the odometer. -/
def State.odoTaken (s : State) (im : Image) (us : Nat) : State := { s with ioc := (s.ioc.takePulse us).runPulse im.ppm }

theorem tooSoon_iff (last : Option Nat) (quiet now : Nat) :
    tooSoon last quiet now = false ↔ ∀ l, last = some l → l + quiet ≤ now := by
  cases last with
  | none => exact ⟨fun _ _ e => (nomatch e), fun _ => rfl⟩
  | some l =>
    change decide (now < l + quiet) = false ↔ _
    rw [decide_eq_false_iff_not, Nat.not_lt]
    exact ⟨fun h l' e => Option.some.inj e ▸ h, fun h => h l rfl⟩

theorem countedEdge_iff (inverted rising : Bool) : countedEdge inverted rising = true ↔ rising ≠ inverted := by
  cases inverted <;> cases rising <;> decide

theorem State.isPulse_iff (s : State) (rising : Bool) (us : Nat) :
    s.isPulse rising us = true ↔ rising ≠ s.odoInverted ∧ ∀ last, s.ioc.lastOdo = some last → last + 50 ≤ us := by
  unfold State.isPulse
  rw [Bool.and_eq_true, countedEdge_iff, Bool.not_eq_true', tooSoon_iff]
  rfl

theorem direct_pulse {s : State} {im : Image} {rising : Bool} {us : Nat} (i : s.cl.image = some im)
    (h : s.isPulse rising us = true) :
    direct (.odometerPulse rising us) s = ((s.odoTaken im us).countPulse.countCooldown).countScrape im := by
  change s.odoInput rising us = _
  unfold State.odoInput
  rw [if_pos h]
  exact State.ifGood_of_some (s := { s with ioc := s.ioc.takePulse us }) i fun im t => t.pulseReaders im

/-- What a pulse asks of the section countdown stands through the counts of the scrape pass. -/
theorem pulse_rest (t : State) (im : Image) :
    (t.countCooldown.countScrape im).cc = t.cc ∧ (t.countCooldown.countScrape im).bi.hold.cc = t.bi.hold.cc ∧
      (t.countCooldown.countScrape im).bi.closed = t.bi.closed ∧ (t.countCooldown.countScrape im).cl = t.cl ∧
      (t.countCooldown.countScrape im).ioc = t.ioc ∧ Lowers t (t.countCooldown.countScrape im) := by
  have cooled : Lowers t t.countCooldown := .of_fields (by simp) (by simp) (by simp)
  exact ⟨by simp, by simp, by simp, by simp, by simp, cooled.trans (.countScrape _ im)⟩

theorem Phase.afterLeg2_not_closing {p : Phase} (closed : Bool) (h : p ≠ .closing) : p.afterLeg2 closed ≠ .closing := by
  cases p <;> cases closed <;> first | exact h | decide

theorem State.sound_next {s : State} {p : Pan} (next : s.cc.nextPan = some p) (sound : s.Sound p) :
    ∀ q, s.cc.nextPan = some q → s.Sound q := by
  intro q e
  cases next.symm.trans e
  exact sound

/-! ### The pulse -/

/-- What the legs need of the state from which a pulse's reactions go on. -/
theorem pulse_legs {s : State} {im : Image} {rising : Bool} {us : Nat} (i : s.cl.image = some im)
    (h : s.isPulse rising us = true) (sound : ∀ p, s.cc.nextPan = some p → s.Sound p)
    (open' : (s.odoTaken im us).countPulse.cc.phase ≠ .closing)
    (next : (s.odoTaken im us).countPulse.cc.nextPan = s.cc.nextPan) :
    Legs True (direct (.odometerPulse rising us) s) (eventEnd (.odometerPulse rising us) s) ∧
      (eventEnd (.odometerPulse rising us) s).LegsTaken ∧
      (direct (.odometerPulse rising us) s).cc = (s.odoTaken im us).countPulse.cc ∧
      (direct (.odometerPulse rising us) s).bi.closed = s.bi.closed ∧
      (direct (.odometerPulse rising us) s).bi.hold.cc = (s.odoTaken im us).countPulse.bi.hold.cc := by
  obtain ⟨cc, hold, closed, cl, -, lowers⟩ := pulse_rest (s.odoTaken im us).countPulse im
  have before : Lowers s (s.odoTaken im us) :=
    .of_fields (IOC.runPulse_fields (s.ioc.takePulse us) im.ppm).2.2.2.2.2.1 rfl rfl
  have all := (before.trans (.countPulse _)).trans lowers
  have closed' := closed.trans ((s.odoTaken im us).countPulse_frame.2.2.2.2.1)
  rw [← direct_pulse i h] at cc hold closed closed' cl all
  refine ⟨(moves_eventEnd _ s).legs (fun _ p e => (sound p (next ▸ cc ▸ e)).lowers all) (cc ▸ open'),
    eventEnd_legsTaken (im := im) ?_ (cc ▸ open'), cc, closed', hold⟩
  rw [cl]
  simpa [State.odoTaken] using i

theorem Legs.course_firm {s u : State} (h : Legs True s u) :
    u.cc.countdown = s.cc.countdown ∧ u.cc.phase ∈ s.cc.phase.ahead s.bi.closed (s.cc.countdown == .ended) := by
  rcases h.course with x | ⟨x, -⟩
  · exact x
  · exact absurd trivial x

/-- Settles O46. The pulse counts in its readers; what the reactions leave of the section is `Legs`, and the phases that no
event ends in are those of `State.LegsTaken`. -/
theorem odometerPulseAdvancesTheTrain : Obligations.OdometerPulseAdvancesTheTrain := by
  unfold Obligations.OdometerPulseAdvancesTheTrain
  intro s rising us released
  have on := reacts_eventEnd (c := .odometerPulse rising us) (by simp) s
  refine ⟨fun no => ⟨_, exec_eq_event released rfl, ?_⟩, fun counted quiet => ⟨_, exec_eq_event released rfl, ?_⟩⟩
  · have quiet : s.isPulse rising us = false := by
      rw [← Bool.not_eq_true, State.isPulse_iff]
      rintro ⟨counted, quiet⟩
      rcases no with no | ⟨last, at', soon⟩
      · exact counted no
      · have := quiet last at'
        omega
    rwa [show direct (.odometerPulse rising us) s = s from by
      change s.odoInput rising us = s
      rw [State.odoInput, quiet]; rfl] at on
  have pulse := (s.isPulse_iff rising us).mpr ⟨counted, quiet⟩
  have ioc : (eventEnd (.odometerPulse rising us) s).ioc = (direct (.odometerPulse rising us) s).ioc := on.kept_ioc
  have pv : (eventEnd (.odometerPulse rising us) s).pv = s.pv := on.kept_pv.trans (by
    change (s.odoInput rising us).pv = s.pv
    simp)
  have cl : (eventEnd (.odometerPulse rising us) s).cl = s.cl := on.kept_cl.trans (by
    change (s.odoInput rising us).cl = s.cl
    simp)
  cases i : s.cl.image with
  | none =>
    have taken : (direct (.odometerPulse rising us) s).ioc = s.ioc.takePulse us := by
      change (s.odoInput rising us).ioc = _
      rw [State.odoInput, if_pos pulse, State.ifGood_of_none (s := { s with ioc := s.ioc.takePulse us }) i
        (fun im t => t.pulseReaders im)]
    rw [ioc, taken, pv, cl]
    exact ⟨rfl, rfl, rfl, rfl, rfl, rfl, rfl, rfl, rfl, fun im e => (nomatch e)⟩
  | some im =>
    have taken : (direct (.odometerPulse rising us) s).ioc = (s.ioc.takePulse us).runPulse im.ppm := by
      rw [direct_pulse i pulse]
      simp [State.odoTaken]
    obtain ⟨lastOdo, bucket, stationary, stationaryT, speed, levels, view, more, full⟩ :=
      IOC.runPulse_fields (s.ioc.takePulse us) im.ppm
    rw [ioc, taken, pv, cl]
    refine ⟨lastOdo, bucket, stationary, stationaryT, speed, levels, view, rfl, rfl, fun im' e => ?_⟩
    cases e
    refine ⟨more, full, ?_, ?_, ?_⟩
    · intro p n armed next sound running many
      have counts : (s.odoTaken im us).countPulse.cc = { s.cc with countdown := .running .one (n - 1) } := by
        rw [State.countPulse_more (s := s.odoTaken im us) running many]
        rfl
      obtain ⟨legs, -, cc, closed, -⟩ := pulse_legs i pulse (State.sound_next next sound)
        (by rw [counts]; change s.cc.phase ≠ _; rw [armed]; decide) (by rw [counts])
      obtain ⟨countdown, phase⟩ := legs.course_firm
      rw [cc, counts] at countdown phase
      refine ⟨?_, countdown⟩
      have : (eventEnd (.odometerPulse rising us) s).cc.phase ∈ Phase.ahead _ _ s.cc.phase := phase
      rw [armed] at this
      exact List.mem_singleton.mp this
    · intro p n armed next sound running last
      have ends : (s.odoTaken im us).countPulse = (s.odoTaken im us).endLeg1 :=
        State.countPulse_last (s := s.odoTaken im us) running last
      obtain ⟨legs, taken, cc, closed, hold⟩ := pulse_legs i pulse (State.sound_next next sound)
        (by rw [ends]; exact fun x => (nomatch x)) (by rw [ends]; rfl)
      obtain ⟨countdown, phase⟩ := legs.course_firm
      rw [ends] at cc hold
      rw [cc] at countdown phase
      have ahead : (eventEnd (.odometerPulse rising us) s).cc.phase ∈
          Phase.ahead (direct (.odometerPulse rising us) s).bi.closed false .opening := phase
      rw [closed] at ahead
      have holds : (eventEnd (.odometerPulse rising us) s).HoldsCC :=
        (moves_eventEnd _ s).keeps (fun _ _ m => m.holdsCC) (by rw [State.HoldsCC, cc, hold]; rfl)
      refine ⟨countdown, ?_, fun shut => ?_, fun open' => ?_⟩
      · rw [holds]
        cases shut : s.bi.closed <;> rw [shut] at ahead <;> simp [Phase.ahead] at ahead
        · rcases ahead with e | e | e <;> rw [e] <;> rfl
        · rw [ahead]; rfl
      · rw [shut] at ahead
        exact List.mem_singleton.mp ahead
      · have opening := taken.opening
        rw [legs.closed, closed, open'] at opening
        rw [open'] at ahead
        simp [Phase.ahead] at ahead
        rcases ahead with e | e | e
        · cases opening e
        · exact .inl e
        · exact .inr e
    · intro runs sound
      have open' : s.cc.phase ≠ .closing := by rcases runs with e | e | e <;> rw [e] <;> decide
      refine ⟨fun leg n other running many => ?_, fun n running last => ?_, fun n running last => ?_⟩
      · have counts : (s.odoTaken im us).countPulse.cc = { s.cc with countdown := .running leg (n - 1) } := by
          rw [State.countPulse_more (s := s.odoTaken im us) running many]
          rfl
        obtain ⟨legs, -, cc, -⟩ := pulse_legs i pulse sound (by rw [counts]; exact open') (by rw [counts])
        rw [legs.course_firm.1, cc, counts]
      · have ends : (s.odoTaken im us).countPulse = (s.odoTaken im us).endLeg2 :=
          State.countPulse_last (s := s.odoTaken im us) running last
        obtain ⟨phase, leg3, next, countdown⟩ := (s.odoTaken im us).endLeg2_cc
        obtain ⟨legs, -, cc, -⟩ := pulse_legs i pulse sound
          (by rw [ends, phase]; exact Phase.afterLeg2_not_closing _ open') (by rw [ends, next]; rfl)
        rw [legs.course_firm.1, cc, ends, countdown]
        rfl
      · have ends : (s.odoTaken im us).countPulse = (s.odoTaken im us).endLeg3 :=
          State.countPulse_last (s := s.odoTaken im us) running last
        obtain ⟨legs, taken, cc, -⟩ := pulse_legs i pulse sound (by rw [ends]; exact open') (by rw [ends]; rfl)
        obtain ⟨countdown, phase⟩ := legs.course_firm
        rw [cc, ends] at countdown phase
        refine ⟨countdown, fun coasting => ?_⟩
        have ahead : (eventEnd (.odometerPulse rising us) s).cc.phase ∈ Phase.ahead _ true s.cc.phase := phase
        rw [coasting] at ahead
        simp [Phase.ahead] at ahead
        rcases ahead with e | e
        · exact absurd countdown (taken.coasting e)
        · exact e

end Sys2Proof.Machine
end

section
/-! PROOFS. The set-up of a section, what is taken up by the phases, and the end of leg 1 (R101 to R107, R111, R112, R121). -/

namespace Sys2Proof.Machine

/-! ### The next collecting pantograph (R106) -/

theorem State.candidate_iff (s : State) (im : Image) (next : LineClass) (p : Pan) :
    s.candidate im next p = true ↔ (im.pan p).present = true ∧ (s.pc p).state ≠ .fault ∧
      ∃ set, (im.pan p).set = some set ∧ set.contains next = true := by
  simp [State.candidate, Option.any_eq_true, and_assoc]

/-- A candidate that collects in RISING or UP. -/
def State.candidateNow (s : State) (im : Image) (next : LineClass) (p : Pan) : Bool :=
  s.candidate im next p && (s.pc p).risingOrUp && (s.pc p).disc

theorem State.chooseNext_eq (s : State) (im : Image) (next : LineClass) :
    s.chooseNext im next = if s.candidateNow im next .a then some .a
      else if s.candidateNow im next .b then some .b
      else if s.candidate im next .a then some .a
      else if s.candidate im next .b then some .b
      else none := rfl

theorem State.candidate_of_now {s : State} {im : Image} {next : LineClass} {p : Pan}
    (h : s.candidateNow im next p = true) : s.candidate im next p = true := by
  simp only [State.candidateNow, Bool.and_eq_true] at h
  exact h.1.1

theorem State.chooseNext_none {s : State} {im : Image} {next : LineClass} (h : ∀ p, s.candidate im next p = false) :
    s.chooseNext im next = none := by
  rw [State.chooseNext_eq]
  simp [State.candidateNow, h]

theorem State.chooseNext_some {s : State} {im : Image} {next : LineClass} {p : Pan} (h : s.candidate im next p = true) :
    ∃ n, s.chooseNext im next = some n ∧ s.candidate im next n = true ∧
      ((∃ q, s.candidateNow im next q = true) → s.candidateNow im next n = true) ∧
      (n = .b → s.candidate im next .a = false ∨
        (s.candidateNow im next .b = true ∧ s.candidateNow im next .a = false)) := by
  rw [State.chooseNext_eq]
  by_cases a : s.candidateNow im next .a = true
  · exact ⟨.a, if_pos a, State.candidate_of_now a, fun _ => a, fun e => (nomatch e)⟩
  by_cases b : s.candidateNow im next .b = true
  · exact ⟨.b, by rw [if_neg a, if_pos b], State.candidate_of_now b, fun _ => b, fun _ => .inr ⟨b, by simpa using a⟩⟩
  have none : ¬∃ q, s.candidateNow im next q = true := by
    rintro ⟨q, k⟩
    cases q
    · exact a k
    · exact b k
  by_cases fits : s.candidate im next .a = true
  · exact ⟨.a, by rw [if_neg a, if_neg b, if_pos fits], fits, fun k => absurd k none, fun e => (nomatch e)⟩
  · have other : s.candidate im next .b = true := by
      cases p
      · exact absurd h fits
      · exact h
    exact ⟨.b, by rw [if_neg a, if_neg b, if_neg fits, if_pos other], other, fun k => absurd k none,
      fun _ => .inl (by simpa using fits)⟩

theorem State.setUp_none {s : State} {im : Image} {sec : CurrentSection} (h : s.chooseNext im sec.next = none) :
    s.setUp im sec =
      ({ s with cc := { s.cc with current := some sec, countdown := .stopped, nextPan := none } } : State).abort := by
  unfold State.setUp
  dsimp only
  rw [show State.chooseNext { s with cc := { s.cc with current := some sec, countdown := .stopped, nextPan := none } } im
    sec.next = none from h]

theorem State.setUp_some {s : State} {im : Image} {sec : CurrentSection} {n : Pan}
    (h : s.chooseNext im sec.next = some n) :
    s.setUp im sec = ({ s with
      cc := { s.cc with
        phase := .armed, current := some sec, countdown := .stopped, nextPan := some n, leg2 := (im.mOpen : Int) * im.ppm,
        leg3 := (sec.len + im.mClose + s.lead im n - s.eMin im n : Int) * im.ppm } } : State).loadLeg1
      ((sec.dist + s.eMin im n - im.mOpen) * im.ppm) := by
  unfold State.setUp
  dsimp only
  rw [show State.chooseNext { s with cc := { s.cc with current := some sec, countdown := .stopped, nextPan := none } } im
    sec.next = some n from h]
  rfl

theorem State.eMin_of {s : State} {im : Image} {n : Pan} {e : Nat}
    (h : (s.pcA.raisedCollecting = true ∧ e = s.lead im .a) ∨
      (s.pcA.raisedCollecting = false ∧ s.pcB.raisedCollecting = true ∧ e = s.lead im .b) ∨
      (s.pcA.raisedCollecting = false ∧ s.pcB.raisedCollecting = false ∧ e = s.lead im n)) :
    s.eMin im n = e := by
  rcases h with ⟨a, rfl⟩ | ⟨a, b, rfl⟩ | ⟨a, b, rfl⟩ <;> simp_all [State.eMin, State.findPan]

/-- The set-up of a section without a candidate is ABORTED (R106). -/
theorem State.setUp_aborts {s : State} {im : Image} {sec : CurrentSection}
    (h : ∀ p, s.candidate im sec.next p = false) :
    (s.setUp im sec).cc.current = some sec ∧ (s.setUp im sec).cc.nextPan = none ∧
      (s.setUp im sec).cc.phase = .aborted ∧ (s.setUp im sec).cc.countdown = .stopped ∧
      (s.setUp im sec).al.requested .changeoverFail = true ∧ (s.setUp im sec).bi.hold.cc = true := by
  rw [State.setUp_none (State.chooseNext_none h)]
  exact ⟨rfl, rfl, rfl, rfl, State.request_self _ _, rfl⟩

/-- The legs of a section that is set up, by the length of leg 1 (R107). -/
theorem State.setUp_legs {s : State} {im : Image} {sec : CurrentSection} {n : Pan}
    (h : s.chooseNext im sec.next = some n) :
    (s.setUp im sec).cc.current = some sec ∧ (s.setUp im sec).cc.nextPan = some n ∧
      (s.setUp im sec).cc.leg2 = im.mOpen * im.ppm ∧
      (s.setUp im sec).cc.leg3 = (sec.len + im.mClose + s.lead im n - s.eMin im n : Int) * im.ppm ∧
      (0 < (sec.dist + s.eMin im n - im.mOpen) * im.ppm → (s.setUp im sec).cc.phase = .armed ∧
        (s.setUp im sec).cc.countdown = .running .one ((sec.dist + s.eMin im n - im.mOpen) * im.ppm).toNat) ∧
      ((sec.dist + s.eMin im n - im.mOpen) * im.ppm ≤ 0 → (s.setUp im sec).cc.phase = .opening ∧
        (s.setUp im sec).cc.countdown = .running .two (s.setUp im sec).cc.leg2.toNat ∧
        (s.setUp im sec).bi.hold.cc = true) := by
  rw [State.setUp_some h]
  unfold State.loadLeg1
  by_cases ended : (sec.dist + s.eMin im n - im.mOpen) * im.ppm ≤ 0
  · rw [if_pos ended]
    exact ⟨rfl, rfl, rfl, rfl, fun k => absurd ended (by omega), fun _ => ⟨rfl, rfl, rfl⟩⟩
  · rw [if_neg ended]
    exact ⟨rfl, rfl, rfl, rfl, fun _ => ⟨rfl, rfl⟩, fun k => absurd k ended⟩

/-! ### What the section part takes (R101 to R105, R121, R123, R126) -/

theorem State.restoreCC_aborted {s : State} (im : Image) (h : s.cc.phase = .aborted) : s.restoreCC im = s.returnToNormal im :=
  if_pos h

theorem State.restoreCC_other {s : State} (im : Image) (h : s.cc.phase ≠ .aborted) : s.restoreCC im = s := if_neg h

/-- A RESTORE leaves ABORTED, and nothing else (R123). -/
theorem State.restored_or (s : State) (im : Image) (restore : Bool) :
    (restore = true → s.cc.phase = .aborted → (if restore then s.restoreCC im else s) = s.returnToNormal im) ∧
      (restore = false ∨ s.cc.phase ≠ .aborted → (if restore then s.restoreCC im else s) = s) := by
  cases restore
  · exact ⟨fun h => (nomatch h), fun _ => rfl⟩
  · refine ⟨fun _ h => State.restoreCC_aborted im h, fun h => ?_⟩
    rcases h with h | h
    · cases h
    · exact State.restoreCC_other im h

theorem State.takeUpPending_some {s : State} {im : Image} {w : PendingSection} (h : s.cc.pendingSec = some w) :
    s.takeUpPending im = ({ s with cc := { s.cc with pendingSec := none } } : State).setUp im ⟨w.record.id,
      (w.record.dist : Int) - ((s.ioc.distance + 4294967296 - w.takenAt) % 4294967296 : Nat), w.record.len,
      w.record.next, true⟩ := by
  unfold State.takeUpPending
  rw [h]
  rfl

theorem State.takeUpPending_none {s : State} {im : Image} (h : s.cc.pendingSec = none) : s.takeUpPending im = s := by
  unfold State.takeUpPending
  rw [h]

/-! ### The heaters at the end of an event (R141) -/

/-- At the end of an event on a good configuration the heaters are guarded, on the wired pantographs as they stand. -/
theorem State.guard_icu {s : State} {im : Image} (i : s.cl.image = some im) :
    s.guard.icu = (((s.watchIsolated .a).watchIsolated .b).guardHeaters im).icu := by
  unfold State.guard
  rw [State.ifGood_of_some (s := (s.watchIsolated .a).watchIsolated .b) (im := im) (by simpa using i)
    fun im s => s.guardHeaters im]
  rfl

theorem State.guard_heaters {s : State} {im : Image} (i : s.cl.image = some im) (late : s.cc.phase.early = false) :
    s.guard.icu.heaterA = false ∧ s.guard.icu.heaterB = false ∧ s.guard.icu.draw = 0 := by
  rw [State.guard_icu i]
  have off : ∀ p, ((s.watchIsolated .a).watchIsolated .b).heaterMayRun p = false := fun p => by
    simp [State.heaterMayRun, late]
  simp [State.guardHeaters, off, drawOf]

/-! ### The end of leg 1 -/

theorem Phase.late_of_ahead {q : Phase} {closed : Bool} (h : q ∈ Phase.ahead closed false .opening) :
    q.early = false ∧ q.holds = true ∧ q ≠ .closing := by
  cases q <;> cases closed <;> revert h <;> decide

theorem exec_leg1_more {s : State} {n : Nat} (running : s.cc.countdown = .running .one n) (many : 2 ≤ n) :
    ∃ t, exec .leg1End s = .next t ∧ State.Reacts s t := by
  cases released : s.released
  · exact ⟨s, congrArg Host.Outcome.next (if_neg (by rw [released]; decide)), .refl s⟩
  · have due : s.cc.leg1Due = false := by
      rw [CC.leg1Due, running]
      exact decide_eq_false (by omega)
    have on := reacts_eventEnd (c := .leg1End) (by simp) s
    rw [show direct .leg1End s = s from if_neg (by rw [due]; decide)] at on
    exact ⟨_, exec_eq_event released rfl, on⟩

/-- The end of leg 1 on a next collecting pantograph that cannot come to FAULT (R111, R112). -/
theorem exec_leg1_last {s : State} {im : Image} {n : Nat} {p : Pan} (released : s.released = true)
    (i : s.cl.image = some im) (running : s.cc.countdown = .running .one n) (last : n ≤ 1)
    (next : s.cc.nextPan = some p) (sound : s.Sound p) :
    ∃ t, exec .leg1End s = .next t ∧
      (s.bi.closed = true → t.cc.phase = .opening) ∧
      (s.bi.closed = false → t.cc.phase = .stowing ∨ t.cc.phase = .coasting) ∧
      t.cc.countdown = .running .two s.cc.leg2.toNat ∧ t.cc.nextPan = some p ∧ t.bi.hold.cc = true ∧
      t.bi.permit = false ∧ t.icu.heaterA = false ∧ t.icu.heaterB = false ∧ t.icu.draw = 0 := by
  have due : s.cc.leg1Due = true := by
    rw [CC.leg1Due, running]
    exact decide_eq_true last
  have ends : direct .leg1End s = s.endLeg1 := if_pos due
  have sound' : ∀ q, s.endLeg1.cc.nextPan = some q → s.endLeg1.Sound q := fun q e =>
    (State.sound_next next sound q e).lowers (.of_fields (by simp) (by simp) (by simp))
  have moves := moves_eventEnd .leg1End s
  rw [ends] at moves
  have legs := moves.legs (firm := True) (fun _ => sound') (fun x => (nomatch x))
  have taken : (eventEnd .leg1End s).LegsTaken :=
    eventEnd_legsTaken (im := im) (by rw [ends]; simpa using i) (by rw [ends]; exact fun x => (nomatch x))
  have holds : (eventEnd .leg1End s).HoldsCC := moves.keeps (fun _ _ m => m.holdsCC) rfl
  obtain ⟨countdown, phase⟩ := legs.course_firm
  have ahead : (eventEnd .leg1End s).cc.phase ∈ Phase.ahead s.bi.closed false .opening := by
    have closed : s.endLeg1.bi.closed = s.bi.closed := by simp
    rw [← closed]
    exact phase
  have late : (eventEnd .leg1End s).cc.phase.early = false ∧ (eventEnd .leg1End s).cc.phase.holds = true ∧
      (eventEnd .leg1End s).cc.phase ≠ .closing :=
    Phase.late_of_ahead ahead
  have settledImage : (settled .leg1End s).cl.image = some im := by
    rw [(moves_settled (x := True) .leg1End s).cl, ends]
    simpa using i
  have icu : (eventEnd .leg1End s).icu = (settled .leg1End s).guard.icu := by simp [eventEnd]
  have off := State.guard_heaters settledImage (by
    have : (eventEnd .leg1End s).cc = (settled .leg1End s).cc := by simp [eventEnd]
    rw [← this]
    exact late.1)
  refine ⟨_, exec_eq_event released rfl, fun shut => ?_, fun open' => ?_, countdown, (legs.next trivial).trans next, ?_, ?_, ?_⟩
  · rw [shut] at ahead
    exact List.mem_singleton.mp ahead
  · have opening := taken.opening
    rw [legs.closed, show s.endLeg1.bi.closed = s.bi.closed by simp, open'] at opening
    rw [open'] at ahead
    simp [Phase.ahead] at ahead
    rcases ahead with e | e | e
    · cases opening e
    · exact .inl e
    · exact .inr e
  · rw [holds]; exact late.2.1
  · rw [eventEnd, finish_permit]
    have phase : (eventEnd .leg1End s).cc.phase ≠ .normal := fun e => by rw [e] at late; cases late.1
    change (eventEnd .leg1End s).permitGiven = false
    simp [State.permitGiven, phase, late.2.2]
  · rw [icu]
    exact off

/-- A section is set up (R106, R107). -/
theorem State.setUp_cases (s : State) (im : Image) (sec : CurrentSection) :
    let fits (p : Pan) : Prop := s.candidate im sec.next p = true
    let now (p : Pan) : Prop := s.candidateNow im sec.next p = true
    let t := s.setUp im sec
    t.cc.current = some sec ∧
    ((∀ p, ¬fits p) → t.cc.nextPan = none ∧ t.cc.phase = .aborted ∧ t.cc.countdown = .stopped ∧
      t.al.requested .changeoverFail = true ∧ t.bi.hold.cc = true) ∧
    ((∃ p, fits p) → ∃ n, t.cc.nextPan = some n ∧ fits n ∧ ((∃ p, now p) → now n) ∧
      (n = .b → ¬fits .a ∨ (now .b ∧ ¬now .a)) ∧
      ∀ eMin : Nat, s.eMin im n = eMin →
        let leg1 := (sec.dist + eMin - im.mOpen) * im.ppm
        t.cc.leg2 = im.mOpen * im.ppm ∧ t.cc.leg3 = (sec.len + im.mClose + s.lead im n - eMin : Int) * im.ppm ∧
        (0 < leg1 → t.cc.phase = .armed ∧ t.cc.countdown = .running .one leg1.toNat) ∧
        (leg1 ≤ 0 → t.cc.phase = .opening ∧ t.cc.countdown = .running .two t.cc.leg2.toNat ∧ t.bi.hold.cc = true)) := by
  intro fits now t
  by_cases some' : ∃ p, fits p
  · obtain ⟨p, h⟩ := some'
    obtain ⟨n, chosen, candidate, best, order⟩ := State.chooseNext_some h
    obtain ⟨current, next, leg2, leg3, armed, opening⟩ := State.setUp_legs chosen
    refine ⟨current, fun none => absurd h (none p), fun _ => ⟨n, next, candidate, best, fun e => ?_, ?_⟩⟩
    · rcases order e with x | ⟨x, y⟩
      · exact .inl (Bool.eq_false_iff.mp x)
      · exact .inr ⟨x, Bool.eq_false_iff.mp y⟩
    · rintro eMin rfl
      exact ⟨leg2, leg3, armed, opening⟩
  · obtain ⟨current, next, phase, countdown, request, hold⟩ := State.setUp_aborts (s := s) (im := im) (sec := sec) fun p => by
      rw [← Bool.not_eq_true]
      exact fun k => some' ⟨p, k⟩
    exact ⟨current, fun _ => ⟨next, phase, countdown, request, hold⟩, fun k => absurd k some'⟩

/-- The demand in force at the Changeover Controller while the learning period runs (R126). -/
theorem State.ccHanded_cases (s : State) (im : Image) (d : DemandInForce) (restore : Bool) :
    (s.pv.learning = false ∨ d.sect = none → s.ccHanded im d restore = s.ccDemand im d restore) ∧
      (s.pv.learning = true → ∀ r, d.sect = some r →
        s.ccHanded im d restore = if restore then s.restoreCC im else s) := by
  unfold State.ccHanded
  refine ⟨fun h => if_neg ?_, fun learning r e => if_pos (by simp [learning, e])⟩
  rcases h with h | h <;> simp [h]

/-- A section record by its id (R101, R102). -/
theorem State.sectionRecord_cases (s : State) (im : Image) (r : SectionRecord) (restore : Bool) :
    (s.cc.currentId = some r.id → s.sectionRecord im r restore = if restore then s.restoreCC im else s) ∧
      (s.cc.currentId ≠ some r.id → s.cc.pendingId = some r.id → s.sectionRecord im r restore = s.restoreCC im) ∧
      (s.cc.currentId ≠ some r.id → s.cc.pendingId ≠ some r.id → s.sectionRecord im r restore = s.takeRecord im r) := by
  unfold State.sectionRecord
  exact ⟨fun h => if_pos h, fun h k => by rw [if_neg h, if_pos k], fun h k => by rw [if_neg h, if_neg k]⟩

theorem State.takeRecord_cases (s : State) (im : Image) (r : SectionRecord) :
    s.takeRecord im r = match s.cc.phase with
      | .normal | .armed => s.setUp im ⟨r.id, r.dist, r.len, r.next, true⟩
      | .aborted => (s.keepPending r).returnToNormal im
      | _ => s.keepPending r := by
  unfold State.takeRecord
  cases s.cc.phase <;> rfl

theorem State.ccDemand_sect {s : State} {im : Image} {d : DemandInForce} {restore : Bool} {r : SectionRecord}
    (present : d.presence ≠ .none) (sect : d.sect = some r) : s.ccDemand im d restore = s.sectionRecord im r restore := by
  unfold State.ccDemand
  split
  · exact absurd ‹_› present
  · rw [sect]

theorem State.ccDemand_zero {s : State} {im : Image} {d : DemandInForce} {restore : Bool}
    (present : d.presence ≠ .none) (sect : d.sect = none) : s.ccDemand im d restore = s.takeIdZero im := by
  unfold State.ccDemand
  split
  · exact absurd ‹_› present
  · rw [sect]

theorem State.ccDemand_none {s : State} {im : Image} {d : DemandInForce} {restore : Bool}
    (none : d.presence = .none) : s.ccDemand im d restore = if restore then s.restoreCC im else s := by
  unfold State.ccDemand
  rw [none]

/-- A change of direction by the phase (R104). -/
theorem State.ccDirection_cases (s : State) (im : Image) :
    let t := s.ccDirection im
    let u : State := { s with cc := { s.cc with pendingSec := none } }
    (s.cc.phase = .normal ∨ s.cc.phase = .aborted → t = u) ∧ (s.cc.phase = .armed → t = u.returnToNormal im) ∧
    (s.cc.phase ≠ .normal → s.cc.phase ≠ .armed → t.cc.phase = .aborted ∧ t.cc.pendingSec = none) ∧
    (s.cc.phase ≠ .normal → s.cc.phase ≠ .armed → s.cc.phase ≠ .aborted → t.al.requested .changeoverFail = true) := by
  intro t u
  have e : t = match s.cc.phase with
      | .normal | .aborted => u
      | .armed => u.returnToNormal im
      | _ => u.abort := by
    change s.ccDirection im = _
    unfold State.ccDirection
    cases s.cc.phase <;> rfl
  refine ⟨fun h => ?_, fun h => by rw [e, h], fun normal armed => ?_, fun normal armed aborted => ?_⟩
  · rcases h with h | h <;> rw [e, h]
  · rw [e]
    cases p : s.cc.phase
    case normal => exact absurd p normal
    case armed => exact absurd p armed
    case aborted => exact ⟨p, rfl⟩
    all_goals exact ⟨rfl, rfl⟩
  · rw [e]
    cases p : s.cc.phase
    case normal => exact absurd p normal
    case armed => exact absurd p armed
    case aborted => exact absurd p aborted
    all_goals exact State.request_self _ _

/-- Settles O47. The set-up, the section part and the return to NORMAL by their cases, and the end of leg 1 as the legs of the
section go on from it. -/
theorem leg1EndOpensTheBreaker : Obligations.Leg1EndOpensTheBreaker := by
  unfold Obligations.Leg1EndOpensTheBreaker
  refine ⟨fun s im sec => ?_, fun s im d restore => ?_, fun s im => s.ccDirection_cases im, fun s im => ?_,
    fun s n running many => exec_leg1_more running many, fun s im n p released i _ running last next sound =>
    exec_leg1_last released i running last next sound⟩
  · have now : ∀ p, s.candidateNow im sec.next p = true ↔
        s.candidate im sec.next p = true ∧ (s.pc p).risingOrUp = true ∧ (s.pc p).disc = true := fun p => by
      simp [State.candidateNow, and_assoc]
    simp only [← State.candidate_iff, ← now]
    obtain ⟨current, aborts, legs⟩ := s.setUp_cases im sec
    refine ⟨current, aborts, fun h => ?_⟩
    obtain ⟨n, next, candidate, best, order, lengths⟩ := legs h
    exact ⟨n, next, candidate, best, order, fun eMin k => lengths eMin (State.eMin_of k)⟩
  · obtain ⟨demand, learning⟩ := s.ccHanded_cases im d restore
    obtain ⟨restored, other⟩ := s.restored_or im restore
    refine ⟨demand, fun h r e => ?_, fun none => ?_, fun present sect => ?_, fun r present sect => ?_⟩
    · rw [learning h r e]
      exact ⟨restored, other⟩
    · rw [State.ccDemand_none none]
      exact ⟨restored, other⟩
    · rw [State.ccDemand_zero present sect]
      unfold State.takeIdZero
      cases s.cc.phase <;> rfl
    · rw [State.ccDemand_sect present sect]
      obtain ⟨current, pending, new⟩ := s.sectionRecord_cases im r restore
      refine ⟨fun e => ?_, fun e k => ?_, fun e k => ?_⟩
      · rw [current e]
        exact ⟨restored, other⟩
      · rw [pending e k]
        rfl
      · rw [new e k, State.takeRecord_cases]
        cases s.cc.phase <;> rfl
  · refine ⟨fun none => ?_, fun w e => ?_⟩
    · refine (State.takeUpPending_none ?_).trans ?_
      · exact none
      · simp only [State.holdCC, none]
    · refine (State.takeUpPending_some (w := w) ?_).trans ?_
      · exact e
      · rfl

end Sys2Proof.Machine
end

section
/-! PROOFS. Calm reactions: what an event does once no sensor asks anything, no maskable cause comes in and the roof wiring
stands. -/

namespace Sys2Proof.Machine

/-! ### Calm controllers -/

/-- A controller with its force target aside. -/
def PC.Same (c d : PC) : Prop := ∃ n, d = { c with target := n }

theorem PC.Same.refl (c : PC) : c.Same c := ⟨c.target, rfl⟩

theorem PC.Same.trans {c d e : PC} (h : c.Same d) (k : d.Same e) : c.Same e := by
  obtain ⟨m, rfl⟩ := h
  obtain ⟨n, rfl⟩ := k
  exact ⟨n, rfl⟩

theorem PC.Same.fields {c d : PC} (h : c.Same d) :
    d.state = c.state ∧ d.disc = c.disc ∧ d.lowering = c.lowering ∧ d.valve = c.valve ∧ d.fset = c.fset ∧
      d.duty = c.duty ∧ d.raiseT = c.raiseT := by
  obtain ⟨n, rfl⟩ := h
  exact ⟨rfl, rfl, rfl, rfl, rfl, rfl, rfl⟩

theorem PC.Same.vent {c d : PC} (h : c.Same d) : c.vent.Same d.vent := by
  obtain ⟨n, rfl⟩ := h
  exact ⟨n, rfl⟩

/-- The sensors ask nothing of a pantograph, and it is not being lowered. -/
structure State.Quiet (s : State) (p : Pan) : Prop where
  rising : (s.pc p).state = .rising → s.airOk p = true ∧ s.upSensor p = false ∧ (s.pc p).lowering = none
  up : (s.pc p).state = .up → s.airOk p = true ∧ s.downSensor p = false ∧ (s.pc p).lowering = none
  lowering : s.acts p = true → (s.pc p).state = .lowering → s.downSensor p = false
  fault : s.acts p = true → (s.pc p).state = .fault → s.downSensor p = true → (s.pc p).disc = false

theorem State.Quiet.raised {s : State} {p : Pan} (h : s.Quiet p) (raised : (s.pc p).risingOrUp = true) :
    s.airOk p = true ∧ (s.pc p).lowering = none := by
  have : (s.pc p).state = .rising ∨ (s.pc p).state = .up := by simpa [PC.risingOrUp] using raised
  rcases this with x | x
  · exact ⟨(h.rising x).1, (h.rising x).2.2⟩
  · exact ⟨(h.up x).1, (h.up x).2.2⟩

/-- The sensors of a quiet pantograph do nothing to its controller. -/
theorem State.Quiet.sense {s : State} {p : Pan} (h : s.Quiet p) : (s.sense p).pc p = s.pc p ∧ (s.sense p).ds = s.ds := by
  rcases s.senses p with ⟨-, e⟩ | ⟨acts, k⟩
  · rw [e]; exact ⟨rfl, rfl⟩
  generalize s.sense p = t at k ⊢
  cases k
  case none => exact ⟨rfl, rfl⟩
  case airLoss raised air => rw [(h.raised raised).1] at air; cases air
  case up rising _ up => rw [(h.rising rising).2.1] at up; cases up
  case drop up _ down => rw [(h.up up).2.1] at down; cases down
  case down low sensor _ => rw [h.lowering acts low] at sensor; cases sensor
  case fault low sensor _ _ => rw [h.lowering acts low] at sensor; cases sensor
  case off fault sensor =>
    have off := h.fault acts fault sensor
    refine ⟨?_, by simp⟩
    rw [State.downInFault_pc, ← off]

theorem State.Quiet.advance {s : State} {p : Pan} (h : s.Quiet p) : (s.advancePan p).pc p = s.pc p := by
  rw [State.advancePan_pc]
  rcases (s.pc p).advance_cases s.bi.closed with e | ⟨-, up, l, -⟩ | ⟨-, up, l, -⟩
  · exact e
  · rw [(h.raised up).2] at l; cases l
  · rw [(h.raised up).2] at l; cases l

/-- A controller is as it was, or its isolated pantograph has been lowered by the watch (R34). -/
def State.Calmed (b : State) (p : Pan) (d : PC) : Prop :=
  (b.pc p).Same d ∨ (b.watched p = true ∧ (b.pc p).vent.Same d)

/-! ### Calm states -/

/-- A state from which the reactions are calm, given that the roof wiring stands; with `ice` also CLEARING stands, and the phase
with it. -/
structure State.Calmable (ice : Prop) (im : Image) (b : State) : Prop where
  image : b.cl.image = some im
  quiet : ∀ p, b.Quiet p
  watch : ∀ p, b.watched p = true → b.downSensor p = false
  stow : b.cc.phase = .opening → b.bi.closed = false → ∀ p, b.excluded p = true → (b.pc p).risingOrUp = false
  closing : b.cc.phase ≠ .closing ∨ b.anyUpCollecting = false
  silent : b.pv.silence = .expired → b.ds.cause.controlSilent = true
  wrong : b.wrongSystemCause im = true → b.ds.cause.wrongSystem = true
  lost : b.lineLostCause im = true → b.ds.cause.lineLost = true
  severe : im.tSevere ≤ b.icu.arcSum → b.ds.cause.arcSevere = true
  pass : b.icu.scrape = none ∨ (ice ∧ ∃ q, b.icu.scrape = some q ∧ b.scrapeGoesOn q = true) ∨
    (¬ice ∧ ∀ p, (b.pc p).risingOrUp = false)
  stands : ice → b.IceStands im ∧
    (b.cc.phase.executing = false ∨ ∀ p, b.cc.nextPan = some p → (b.pc p).state ≠ .fault)

/-- Outside the sequence no FAULT of a next collecting pantograph is looked at. -/
theorem State.reactFault_of_idle {s : State} (h : s.cc.phase.executing = false) (im : Image) : s.reactFault im = s := by
  unfold State.reactFault
  split
  · simp [h]
  · rfl

/-- What calm reactions leave of a state. -/
structure Calm (ice : Prop) (im : Image) (b u : State) : Prop where
  cl : u.cl = b.cl
  ioc : u.ioc = b.ioc
  closed : u.bi.closed = b.bi.closed
  lq : u.lq = b.lq
  silence : u.pv.silence = b.pv.silence
  pcs : ∀ p, b.Calmed p (u.pc p)
  arcSum : u.icu.arcSum = b.icu.arcSum
  scrape : u.icu.scrape = b.icu.scrape ∨ (¬ice ∧ u.icu.scrape = none)
  current : u.cc.current = b.cc.current
  normal : u.cc.phase = .normal ↔ b.cc.phase = .normal
  opening : u.cc.phase = .opening → b.cc.phase = .opening
  closing : u.cc.phase ≠ .closing ∨ b.anyUpCollecting = false
  silent : b.pv.silence = .expired → u.ds.cause.controlSilent = true
  wrong : b.wrongSystemCause im = true → u.ds.cause.wrongSystem = true
  lost : b.lineLostCause im = true → u.ds.cause.lineLost = true
  severe : im.tSevere ≤ b.icu.arcSum → u.ds.cause.arcSevere = true
  stands : ice → u.icu.state = b.icu.state ∧ u.icu.clearStreak = b.icu.clearStreak ∧ u.icu.mode = b.icu.mode ∧
    u.cc.phase = b.cc.phase ∧ u.cc.nextPan = b.cc.nextPan

theorem State.Calmable.calm {ice : Prop} {im : Image} {b : State} (h : b.Calmable ice im) : Calm ice im b b where
  cl := rfl
  ioc := rfl
  closed := rfl
  lq := rfl
  silence := rfl
  pcs _ := .inl (.refl _)
  arcSum := rfl
  scrape := .inl rfl
  current := rfl
  normal := .rfl
  opening := id
  closing := h.closing
  silent := h.silent
  wrong := h.wrong
  lost := h.lost
  severe := h.severe
  stands _ := ⟨rfl, rfl, rfl, rfl, rfl⟩

section
variable {ice : Prop} {im : Image} {b u v : State}

theorem State.watched_raised {s : State} {p : Pan} (h : s.watched p = true) :
    (s.pc p).risingOrUp = true ∧ (s.pc p).disc = false := by
  simp only [State.watched, Bool.and_eq_true, Bool.not_eq_true'] at h
  exact ⟨h.1.1.2, h.1.2⟩

theorem Calm.disc (h : Calm ice im b u) (p : Pan) : (u.pc p).disc = (b.pc p).disc := by
  rcases h.pcs p with same | ⟨-, same⟩
  · exact same.fields.2.1
  · exact same.fields.2.1.trans (by simp)

theorem Calm.upCollecting (h : Calm ice im b u) (p : Pan) : (u.pc p).upCollecting = (b.pc p).upCollecting := by
  rcases h.pcs p with same | ⟨watched, same⟩
  · simp [PC.upCollecting, same.fields.1, same.fields.2.1]
  · simp [PC.upCollecting, same.fields.1, (State.watched_raised watched).2]

theorem Calm.anyUpCollecting (h : Calm ice im b u) : u.anyUpCollecting = b.anyUpCollecting := by
  have a := h.upCollecting .a
  have b' := h.upCollecting .b
  simp only [State.pc_a, State.pc_b] at a b'
  simp [State.anyUpCollecting, a, b']

/-- The sensors stay quiet. -/
theorem Calm.quiet (h : Calm ice im b u) (k : b.Calmable ice im) (p : Pan) : u.Quiet p := by
  have air := State.airOk_congr h.ioc p
  have down := State.downSensor_congr h.ioc p
  have up := State.upSensor_congr h.ioc p
  have acts := State.acts_congr h.cl p
  obtain ⟨q1, q2, q3, q4⟩ := k.quiet p
  rcases h.pcs p with same | ⟨watched, same⟩
  · obtain ⟨state, disc, lowering, -⟩ := same.fields
    constructor
    · rw [state, lowering, air, up]; exact q1
    · rw [state, lowering, air, down]; exact q2
    · rw [state, acts, down]; exact q3
    · rw [state, disc, acts, down]; exact q4
  · have low : (u.pc p).state = .lowering := same.fields.1.trans (by simp)
    constructor
    · rw [low]; exact fun x => (nomatch x)
    · rw [low]; exact fun x => (nomatch x)
    · rw [down]; exact fun _ _ => k.watch p watched
    · rw [low]; exact fun _ x => (nomatch x)

/-- A pantograph that the watch lowers now is one that it lowered from the first. -/
theorem Calm.watched (h : Calm ice im b u) {p : Pan} (w : u.watched p = true) :
    b.watched p = true ∧ (b.pc p).Same (u.pc p) := by
  rcases h.pcs p with same | ⟨-, same⟩
  · refine ⟨?_, same⟩
    obtain ⟨state, disc, -⟩ := same.fields
    have e : u.watched p = b.watched p := by
      simp [State.watched, State.acts_congr h.cl p, PC.risingOrUp, state, disc, h.upCollecting, h.normal]
    exact e ▸ w
  · have low : (u.pc p).state = .lowering := same.fields.1.trans (by simp)
    have := (State.watched_raised w).1
    simp [PC.risingOrUp, low] at this

/-- A raised pantograph was raised from the first. -/
theorem Calm.raised (h : Calm ice im b u) {p : Pan} (w : (u.pc p).risingOrUp = true) : (b.pc p).risingOrUp = true := by
  rcases h.pcs p with same | ⟨watched, -⟩
  · simpa [PC.risingOrUp, same.fields.1] using w
  · exact (State.watched_raised watched).1

theorem Calm.not_fault (h : Calm ice im b u) {p : Pan} (w : (b.pc p).state ≠ .fault) : (u.pc p).state ≠ .fault := by
  rcases h.pcs p with same | ⟨-, same⟩
  · rw [same.fields.1]; exact w
  · rw [same.fields.1]; simp

/-- A change of the phase that is not one into NORMAL, OPENING or CLOSING, or the end of a scrape pass, and beside it of nothing
that is calm. -/
theorem Calm.of_icu (h : Calm ice im b u) (pcs : ∀ p, b.Calmed p (v.pc p)) (cl : v.cl = u.cl) (ioc : v.ioc = u.ioc)
    (closed : v.bi.closed = u.bi.closed) (lq : v.lq = u.lq) (silence : v.pv.silence = u.pv.silence)
    (cause : v.ds.cause = u.ds.cause) (icu : v.icu.arcSum = u.icu.arcSum ∧ (v.icu.scrape = u.icu.scrape ∨ (¬ice ∧ v.icu.scrape = none)) ∧
      (ice → v.icu.state = u.icu.state ∧ v.icu.clearStreak = u.icu.clearStreak ∧ v.icu.mode = u.icu.mode))
    (current : v.cc.current = u.cc.current)
    (phase : v.cc.phase = u.cc.phase ∨ (¬ice ∧ u.cc.phase ≠ .normal ∧ v.cc.phase ≠ .normal ∧ v.cc.phase ≠ .opening ∧
      v.cc.phase ≠ .closing))
    (next : ice → v.cc.nextPan = u.cc.nextPan) : Calm ice im b v where
  cl := cl.trans h.cl
  ioc := ioc.trans h.ioc
  closed := closed.trans h.closed
  lq := lq.trans h.lq
  silence := silence.trans h.silence
  pcs := pcs
  arcSum := icu.1.trans h.arcSum
  scrape := by
    rcases icu.2.1 with e | ended
    · rw [e]; exact h.scrape
    · exact .inr ended
  current := current.trans h.current
  normal := by
    rcases phase with e | ⟨-, was, now, -⟩
    · rw [e]; exact h.normal
    · exact ⟨fun x => absurd x now, fun x => absurd (h.normal.mpr x) was⟩
  opening := by
    rcases phase with e | ⟨-, -, -, now, -⟩
    · rw [e]; exact h.opening
    · exact fun x => absurd x now
  closing := by
    rcases phase with e | ⟨-, -, -, -, now⟩
    · rw [e]; exact h.closing
    · exact .inl now
  silent := by rw [cause]; exact h.silent
  wrong := by rw [cause]; exact h.wrong
  lost := by rw [cause]; exact h.lost
  severe := by rw [cause]; exact h.severe
  stands k := by
    obtain ⟨state, streak, mode, at', next'⟩ := h.stands k
    obtain ⟨state', streak', mode'⟩ := icu.2.2 k
    refine ⟨state'.trans state, streak'.trans streak, mode'.trans mode, ?_, (next k).trans next'⟩
    rcases phase with e | ⟨no, -⟩
    · exact e.trans at'
    · exact absurd k no

theorem Calm.of_cc (h : Calm ice im b u) (pcs : ∀ p, b.Calmed p (v.pc p)) (cl : v.cl = u.cl) (ioc : v.ioc = u.ioc)
    (closed : v.bi.closed = u.bi.closed) (lq : v.lq = u.lq) (silence : v.pv.silence = u.pv.silence)
    (cause : v.ds.cause = u.ds.cause) (icu : v.icu.arcSum = u.icu.arcSum ∧ v.icu.scrape = u.icu.scrape ∧
      (ice → v.icu.state = u.icu.state ∧ v.icu.clearStreak = u.icu.clearStreak ∧ v.icu.mode = u.icu.mode))
    (current : v.cc.current = u.cc.current)
    (phase : v.cc.phase = u.cc.phase ∨ (¬ice ∧ u.cc.phase ≠ .normal ∧ v.cc.phase ≠ .normal ∧ v.cc.phase ≠ .opening ∧
      v.cc.phase ≠ .closing))
    (next : ice → v.cc.nextPan = u.cc.nextPan) : Calm ice im b v :=
  h.of_icu pcs cl ioc closed lq silence cause ⟨icu.1, .inl icu.2.1, icu.2.2⟩ current phase next

/-- What of the other blocks the calm of the reactions is measured on. -/
def State.calmPart (s : State) :=
  (s.cl, s.ioc, s.bi.closed, s.lq, s.pv.silence, s.ds.cause, s.icu.arcSum, s.icu.scrape, s.icu.state, s.icu.clearStreak,
    s.icu.mode, s.cc.current, s.cc.phase, s.cc.nextPan)

theorem Calm.of_part (h : Calm ice im b u) (pcs : ∀ p, b.Calmed p (v.pc p)) (part : v.calmPart = u.calmPart) :
    Calm ice im b v := by
  simp only [State.calmPart, Prod.mk.injEq] at part
  obtain ⟨cl, ioc, closed, lq, silence, cause, sum, scrape, state, streak, mode, current, phase, next⟩ := part
  exact h.of_cc pcs cl ioc closed lq silence cause ⟨sum, scrape, fun _ => ⟨state, streak, mode⟩⟩ current (.inl phase)
    fun _ => next

theorem Calm.pcs_of (h : Calm ice im b u) (pc : ∀ p, v.pc p = u.pc p) : ∀ p, b.Calmed p (v.pc p) := fun p => by
  rw [pc p]; exact h.pcs p

theorem Calm.pcs_same (h : Calm ice im b u) (pc : ∀ p, (u.pc p).Same (v.pc p)) : ∀ p, b.Calmed p (v.pc p) := fun p => by
  rcases h.pcs p with same | ⟨w, same⟩
  · exact .inl (same.trans (pc p))
  · exact .inr ⟨w, same.trans (pc p)⟩

/-- Where the conditions of CLEARING stand, it does not end. -/
theorem Calm.clearing (h : Calm ice im b u) (k : b.Calmable ice im) (i : ice) :
    u.icu.state = .clearing ∧ u.clearingEnds im = false ∧ u.cc.phase.early = true := by
  obtain ⟨state, streak, mode, phase, -⟩ := h.stands i
  obtain ⟨⟨clearing, off, hold, low⟩, -⟩ := k.stands i
  have off' : u.iceOff im = b.iceOff im := by simp [State.iceOff, mode, State.cold, State.warm, h.ioc]
  have hold' : u.iceHold = b.iceHold := by simp [State.iceHold, phase, h.closed, h.anyUpCollecting]
  refine ⟨state.trans clearing, ?_, ?_⟩
  · simp [State.clearingEnds, off', off, hold', hold, mode, streak]
    simpa [Config.clearAdvances] using low
  · rw [phase]
    simp only [State.iceHold, Bool.or_eq_false_iff, Bool.not_eq_false'] at hold
    exact hold.1.1

theorem State.formIce_scrape (s : State) (im : Image) :
    (s.formIce im).icu.scrape = s.icu.scrape ∨ (s.formIce im).icu.scrape = none := by
  have left : (s.leaveClearing im).icu.scrape = s.icu.scrape ∨ (s.leaveClearing im).icu.scrape = none := by
    unfold State.leaveClearing State.endPass
    split
    · exact .inr rfl
    · exact .inl (by simp [State.heatersOff])
  unfold State.formIce
  dsimp only
  split_ifs
  · exact left
  · exact left
  · exact .inl rfl
  · exact .inl rfl

theorem State.reactPass_scrape (s : State) (im : Image) :
    (s.reactPass im).icu.scrape = s.icu.scrape ∨ (s.reactPass im).icu.scrape = none := by
  unfold State.reactPass
  split
  · split_ifs
    · exact .inl rfl
    · exact .inr rfl
  · exact .inl rfl

theorem State.PassEnds.of_none {s t : State} (h : s.PassEnds t) (no : s.icu.scrape = none) (p : Pan) : t.pc p = s.pc p := by
  rcases h with same | ⟨q, runs, -⟩
  · exact congrArg Prod.fst (same p)
  · rw [no] at runs; cases runs

/-- The end of a pass asks nothing of pantographs that are not raised. -/
theorem State.PassEnds.of_low {s t : State} (h : s.PassEnds t) (low : ∀ p, (s.pc p).risingOrUp = false) (p : Pan) :
    t.pc p = s.pc p := by
  rcases h with same | ⟨q, -, same⟩
  · exact congrArg Prod.fst (same p)
  · refine (congrArg Prod.fst (same p)).trans ?_
    change (s.softLower q).pc p = s.pc p
    unfold State.softLower
    simp [low q]

theorem State.enterStowing_of_stowed {s : State} (h : ∀ p, s.excluded p = true → (s.pc p).risingOrUp = false) :
    s.enterStowing = { s with cc := { s.cc with phase := .stowing } } := by
  have stays : ∀ p, (if ({ s with cc := { s.cc with phase := .stowing } } : State).excluded p
      then ({ s with cc := { s.cc with phase := .stowing } } : State).softLower p
      else { s with cc := { s.cc with phase := .stowing } }) = { s with cc := { s.cc with phase := .stowing } } := by
    intro p
    split_ifs with excluded
    · have low := h p excluded
      unfold State.softLower
      rw [if_neg (by
        change ¬(_ && (s.pc p).risingOrUp && _) = true
        simp [low])]
    · rfl
  unfold State.enterStowing
  dsimp only
  rw [stays .a, stays .b]

/-- A cause that comes in no more than it has is only taken. -/
theorem State.judgeCause_calm {s : State} {im : Image} {c : DropCondition}
    (h : s.maskableCause im c = true → s.ds.cause.get c = true) :
    s.judgeCause im c = s.setCause c (s.maskableCause im c) := by
  unfold State.judgeCause
  dsimp only
  rw [if_neg]
  intro new
  simp only [Bool.and_eq_true, Bool.not_eq_true'] at new
  rw [h new.1] at new
  cases new.2

theorem State.wrongSystemCause_calm (h : Calm ice im b u) : u.wrongSystemCause im = b.wrongSystemCause im := by
  have on : ∀ p, u.wrongOn im p = b.wrongOn im p := fun p => by
    unfold State.wrongOn
    rw [h.upCollecting, h.lq]
  simp [State.wrongSystemCause, h.normal, on]

theorem State.lineLostCause_calm (h : Calm ice im b u) : u.lineLostCause im = b.lineLostCause im := by
  simp [State.lineLostCause, h.normal, h.anyUpCollecting, h.lq]

/-- The reactions to a FAULT of the next collecting pantograph lead into no phase of the sequence but REQUALIFY. -/
theorem State.reactFault_phase (s : State) (im : Image) :
    (s.reactFault im).cc.current = s.cc.current ∧
      ((s.reactFault im).cc.phase = s.cc.phase ∨ (s.cc.phase.executing = true ∧
        ((s.reactFault im).cc.phase = .aborted ∨ (s.reactFault im).cc.phase = .requalify))) := by
  unfold State.reactFault
  split
  · split_ifs with k
    · have executing : s.cc.phase.executing = true := (Bool.and_eq_true _ _ ▸ k).1
      split
      · exact ⟨rfl, .inr ⟨executing, .inl rfl⟩⟩
      · dsimp only
        split
        · exact ⟨rfl, .inl rfl⟩
        · exact ⟨rfl, .inr ⟨executing, .inr rfl⟩⟩
        · exact ⟨rfl, .inl rfl⟩
    · exact ⟨rfl, .inl rfl⟩
  · exact ⟨rfl, .inl rfl⟩

/-- No maskable cause comes in. -/
theorem Calm.cause (h : Calm ice im b u) (c : DropCondition) (now : u.icu.severe = decide (im.tSevere ≤ u.icu.arcSum))
    (stands : u.maskableCause im c = true) : u.ds.cause.get c = true := by
  cases c
  case wrongSystem => exact h.wrong (State.wrongSystemCause_calm h ▸ stands)
  case controlSilent => exact h.silent (h.silence ▸ of_decide_eq_true stands)
  case lineLost => exact h.lost (State.lineLostCause_calm h ▸ stands)
  case arcSevere => exact h.severe (h.arcSum ▸ of_decide_eq_true (now.symm.trans stands))
  all_goals cases stands

theorem Calm.judge (h : Calm ice im b u) (c : DropCondition)
    (now : u.icu.severe = decide (im.tSevere ≤ u.icu.arcSum)) : Calm ice im b (u.judgeCause im c) := by
  have severe : u.icu.severe = decide (im.tSevere ≤ b.icu.arcSum) := by rw [now, h.arcSum]
  have keeps : ∀ k, (b.pv.silence = .expired ∧ k = .controlSilent) ∨ (b.wrongSystemCause im = true ∧ k = .wrongSystem) ∨
      (b.lineLostCause im = true ∧ k = .lineLost) ∨ (im.tSevere ≤ b.icu.arcSum ∧ k = .arcSevere) →
      u.ds.cause.get k = true → (u.ds.cause.set c (u.maskableCause im c)).get k = true := by
    intro k holds was
    rw [DropSet.get_set]
    split_ifs with same
    · subst same
      rcases holds with ⟨x, rfl⟩ | ⟨x, rfl⟩ | ⟨x, rfl⟩ | ⟨x, rfl⟩
      · exact decide_eq_true (h.silence.trans x)
      · exact (State.wrongSystemCause_calm h).trans x
      · exact (State.lineLostCause_calm h).trans x
      · exact severe.trans (decide_eq_true x)
    · exact was
  rw [State.judgeCause_calm (h.cause c now)]
  exact
    { cl := h.cl, ioc := h.ioc, closed := h.closed, lq := h.lq, silence := h.silence, pcs := h.pcs_of fun p => by cases p <;> rfl
      arcSum := h.arcSum, scrape := h.scrape, current := h.current, normal := h.normal, opening := h.opening
      closing := h.closing, stands := h.stands
      silent := fun x => keeps .controlSilent (.inl ⟨x, rfl⟩) (h.silent x)
      wrong := fun x => keeps .wrongSystem (.inr (.inl ⟨x, rfl⟩)) (h.wrong x)
      lost := fun x => keeps .lineLost (.inr (.inr (.inl ⟨x, rfl⟩))) (h.lost x)
      severe := fun x => keeps .arcSevere (.inr (.inr (.inr ⟨x, rfl⟩))) (h.severe x) }

/-- Where the conditions of CLEARING stand, the table of R135 asks nothing. -/
theorem Calm.formIce_same (h : Calm ice im b u) (k : b.Calmable ice im) (i : ice) : u.formIce im = u := by
  obtain ⟨clearing, stays, -⟩ := h.clearing k i
  unfold State.formIce
  rw [if_pos clearing, stays]
  rfl

/-- Where the conditions of CLEARING stand, a pass goes on. -/
theorem Calm.reactPass_same (h : Calm ice im b u) (k : b.Calmable ice im) (i : ice) (im' : Image) : u.reactPass im' = u := by
  unfold State.reactPass
  split
  · rename_i q runs
    have runs' : b.icu.scrape = some q := by
      rcases h.scrape with e | ⟨no, -⟩
      · rw [← e]; exact runs
      · exact absurd i no
    rcases k.pass with no | ⟨-, q', at', goes⟩ | ⟨no, -⟩
    · rw [no] at runs'; cases runs'
    · obtain rfl := Option.some.inj (at'.symm.trans runs')
      obtain ⟨clearing, -⟩ := h.clearing k i
      simp only [State.scrapeGoesOn, Bool.and_eq_true, decide_eq_true_eq] at goes
      obtain ⟨⟨⟨-, other⟩, normal⟩, raised⟩ := goes
      have raised' : (u.pc q').risingOrUp = true := by
        rcases h.pcs q' with same | ⟨w, -⟩
        · simpa [PC.risingOrUp, same.fields.1] using raised
        · simp [State.watched, other, normal] at w
      rw [if_pos]
      simp [State.scrapeGoesOn, clearing, h.upCollecting, other, h.normal.mpr normal, raised']
    · exact absurd i no
  · rfl

/-- Outside the conditions of CLEARING the end of a pass finds none, or nothing that is raised. -/
theorem Calm.passEnds (h : Calm ice im b u) (k : b.Calmable ice im) (i : ¬ice) (ends : u.PassEnds v) (p : Pan) :
    v.pc p = u.pc p := by
  rcases k.pass with no | ⟨x, -⟩ | ⟨-, low⟩
  · refine ends.of_none ?_ p
    rcases h.scrape with e | ⟨-, e⟩
    · exact e.trans no
    · exact e
  · exact absurd x i
  · refine ends.of_low (fun q => ?_) p
    rw [← Bool.not_eq_true]
    intro raised
    have was := h.raised raised
    rw [low q] at was
    cases was

theorem Calm.of_claims (h : Calm ice im b u) (frame : u.OnlyClaims v) : Calm ice im b v := by
  obtain ⟨lq, pcA, pcB, bi, pv, cc, icu, ds, -, ioc, cl, -⟩ := frame
  exact h.of_part (h.pcs_of fun p => by cases p <;> assumption)
    (by simp only [State.calmPart, lq, bi, pv, cc, icu, ds, ioc, cl])

theorem Calm.of_wants (h : Calm ice im b u) (frame : u.OnlyWants v) : Calm ice im b v := by
  obtain ⟨lq, pcA, pcB, bi, pv, cc, icu, ds, -, -, ioc, cl, -⟩ := frame
  exact h.of_part (h.pcs_of fun p => by cases p <;> assumption)
    (by simp only [State.calmPart, lq, bi, pv, cc, icu, ds, ioc, cl])

/-- The reactions on a standing roof wiring stay calm. -/
theorem Reaction.calm (k : b.Calmable ice im) (m : Reaction False True u v) (h : Calm ice im b u) : Calm ice im b v := by
  have image : u.cl.image = some im := by rw [h.cl]; exact k.image
  induction m
  case sense q =>
    have quiet := (h.quiet k q).sense
    refine h.of_part (h.pcs_of fun p => ?_) (by simp [State.calmPart, quiet.2])
    by_cases e : p = q
    · subst e; exact quiet.1
    · exact u.sense_pc_ne e
  case advance q =>
    refine h.of_part (h.pcs_of fun p => ?_) (by simp [State.calmPart])
    by_cases e : p = q
    · subst e; exact (h.quiet k p).advance
    · exact u.advancePan_pc_ne e
  case watch q =>
    refine h.of_part (fun p => ?_) (by simp [State.calmPart])
    by_cases e : p = q
    · subst e
      rw [State.watchIsolated_pc]
      split_ifs with w
      · obtain ⟨w', same⟩ := h.watched w
        exact .inr ⟨w', same.vent⟩
      · exact h.pcs p
    · rw [u.watchIsolated_pc_ne e]
      exact h.pcs p
  case abandon w => exact w.elim
  case arcPan w => exact w.elim
  case fault im' i =>
    obtain ⟨current, phase⟩ := u.reactFault_phase im'
    have idle : ice → u.reactFault im' = u := fun i => by
      obtain ⟨-, -, -, phase, next⟩ := h.stands i
      rcases (k.stands i).2 with idle | sound
      · exact State.reactFault_of_idle (phase ▸ idle) im'
      · exact State.reactFault_of_sound (fun p e => h.not_fault (sound p (next ▸ e))) im'
    refine h.of_cc (h.pcs_of fun p => by cases p <;> simp [State.pc]) (by simp) (by simp) (by simp) (by simp) (by simp)
      (by simp) ⟨by simp, by simp, fun _ => by simp⟩ current ?_ fun i => ?_
    · by_cases i : ice
      · exact .inl (by rw [idle i])
      · rcases phase with e | ⟨executing, e⟩
        · exact .inl e
        · refine .inr ⟨i, (fun n => by rw [n] at executing; exact (nomatch executing)), ?_⟩
          rcases e with e | e <;> rw [e] <;> decide
    · rw [idle i]
  case stow =>
    unfold State.reactOpening
    split_ifs with o
    · have low : ∀ p, u.excluded p = true → (u.pc p).risingOrUp = false := fun p excluded => by
        have e : u.excluded p = b.excluded p := by
          unfold State.excluded
          rw [h.cl, h.current]
        have rest := k.stow (h.opening o.1) (h.closed.symm.trans o.2) p (e ▸ excluded)
        rw [← Bool.not_eq_true]
        intro raised
        rw [h.raised raised] at rest
        cases rest
      rw [State.enterStowing_of_stowed low]
      refine h.of_cc (h.pcs_of fun p => by cases p <;> rfl) rfl rfl rfl rfl rfl rfl ⟨rfl, rfl, fun _ => ⟨rfl, rfl, rfl⟩⟩ rfl
        (.inr ⟨fun i => ?_, by rw [o.1]; decide, fun x => (nomatch x), fun x => (nomatch x), fun x => (nomatch x)⟩) fun _ => rfl
      have early := (h.clearing k i).2.2
      rw [o.1] at early
      cases early
    · exact h
  case stowed =>
    rcases u.reactStowing_cc with e | ⟨o, e⟩
    · rw [e]; exact h
    · rw [e]
      refine h.of_cc (h.pcs_of fun p => by cases p <;> rfl) rfl rfl rfl rfl rfl rfl ⟨rfl, rfl, fun _ => ⟨rfl, rfl, rfl⟩⟩ rfl
        (.inr ⟨fun i => ?_, by rw [o]; decide, fun x => (nomatch x), fun x => (nomatch x), fun x => (nomatch x)⟩) fun _ => rfl
      have early := (h.clearing k i).2.2
      rw [o] at early
      cases early
  case coasted =>
    unfold State.reactCoasting
    split_ifs with o
    · refine h.of_cc (h.pcs_of fun p => by cases p <;> rfl) rfl rfl rfl rfl rfl rfl ⟨rfl, rfl, fun _ => ⟨rfl, rfl, rfl⟩⟩ rfl
        (.inr ⟨fun i => ?_, by rw [o.1]; decide, fun x => (nomatch x), fun x => (nomatch x), fun x => (nomatch x)⟩) fun _ => rfl
      have early := (h.clearing k i).2.2
      rw [o.1] at early
      cases early
    · exact h
  case close im' i =>
    by_cases o : u.cc.phase = .closing
    · have none : u.nextUp = false := by
        have no : u.anyUpCollecting = false := h.anyUpCollecting.trans (h.closing.resolve_left fun x => x o)
        simp only [State.anyUpCollecting, Bool.or_eq_false_iff] at no
        unfold State.nextUp
        cases u.cc.nextPan with
        | none => rfl
        | some p => cases p <;> [exact no.1; exact no.2]
      unfold State.reactClosing
      rw [if_pos o, if_pos (by simp [none])]
      refine h.of_cc (h.pcs_of fun p => by cases p <;> rfl) rfl rfl rfl rfl rfl rfl ⟨rfl, rfl, fun _ => ⟨rfl, rfl, rfl⟩⟩ rfl
        (.inr ⟨fun i => ?_, by rw [o]; decide, fun x => (nomatch x), fun x => (nomatch x), fun x => (nomatch x)⟩) fun _ => rfl
      have early := (h.clearing k i).2.2
      rw [o] at early
      cases early
    · rw [State.reactClosing_of_not o]
      exact h
  case requalify =>
    obtain ⟨next, -, -, -, -, phase⟩ := u.reactRequalify_cc
    have current : u.reactRequalify.cc.current = u.cc.current := by
      unfold State.reactRequalify
      split_ifs <;> rfl
    exact h.of_part (h.pcs_of fun p => by cases p <;> simp [State.pc]) (by simp [State.calmPart, current, phase, next])
  case severe im' i =>
    have part : (u.judgeSevere im').calmPart = u.calmPart := by
      unfold State.judgeSevere
      dsimp only
      split_ifs <;> rfl
    exact h.of_part (h.pcs_of fun p => by cases p <;> simp [State.pc]) part
  case ice im' i =>
    obtain rfl := Option.some.inj (i.symm.trans image)
    by_cases i : ice
    · rw [h.formIce_same k i]; exact h
    · have arcs := u.formIce_arcs im'
      simp only [ICU.arcs, Prod.mk.injEq] at arcs
      exact h.of_icu (h.pcs_of (h.passEnds k i (u.formIce_ends im'))) (by simp) (by simp) (by simp) (by simp) (by simp)
        (by simp) ⟨arcs.1.2.1, (u.formIce_scrape im').imp_right fun e => ⟨i, e⟩, fun x => absurd x i⟩ (by simp)
        (.inl (by simp)) fun _ => by simp
  case pass im' i =>
    by_cases i : ice
    · rw [h.reactPass_same k i im']; exact h
    · have arcs := u.reactPass_arcs im'
      simp only [ICU.arcs, Prod.mk.injEq] at arcs
      exact h.of_icu (h.pcs_of (h.passEnds k i (u.reactPass_ends im'))) (by simp) (by simp) (by simp) (by simp) (by simp)
        (by simp) ⟨arcs.1.2.1, (u.reactPass_scrape im').imp_right fun e => ⟨i, e⟩, fun x => absurd x i⟩ (by simp)
        (.inl (by simp)) fun _ => by simp
  case guardHeaters im' i =>
    exact h.of_part (h.pcs_of fun p => by cases p <;> rfl) rfl
  case loadScrape im' i =>
    have part : (u.loadScrape im').calmPart = u.calmPart := by
      unfold State.loadScrape
      split
      · split_ifs <;> rfl
      · rfl
    exact h.of_part (h.pcs_of fun p => by cases p <;> simp [State.pc]) part
  case judge im' c i _ now =>
    obtain rfl := Option.some.inj (i.symm.trans image)
    exact h.judge c now
  case restore im' i =>
    exact h.of_part (h.pcs_of fun p => by cases p <;> simp [State.pc]) (by simp [State.calmPart, State.formRestore_cause])
  case clear a =>
    have part : (u.reportAndClear a).calmPart = u.calmPart := by
      unfold State.reportAndClear
      dsimp only
      split_ifs <;> rfl
    exact h.of_part (h.pcs_of fun p => by cases p <;> simp [State.pc]) part
  case targets =>
    exact h.of_part (h.pcs_same fun p => by cases p <;> exact ⟨_, rfl⟩) rfl
  case marks => exact h.of_wants u.clearMarks_frame
  case profile im' _ => exact h.of_wants (u.formProfile_frame im')
  case conflict im' _ => exact h.of_wants (u.evaluateConflict_frame im')
  case raise im' _ => exact h.of_claims (u.reactRaise_frame im')
  case scrape im' _ => exact h.of_claims (u.reactScrape_frame im')
  case heat im' _ => exact h.of_claims (u.formHeat_frame im')
  case test im' _ => exact h.of_claims (u.claimTest_frame im')
  case permit | alerts => exact h.of_part h.pcs rfl
  case report => exact h.of_part (h.pcs_of fun p => by cases p <;> simp [State.pc]) (by simp [State.calmPart])

end

end Sys2Proof.Machine
end

section
/-! PROOFS. The first round of a calm event, in which the pantographs take their sensors, and the whole event after it. -/

namespace Sys2Proof.Machine

/-! ### The sensors of a calm state -/

/-- No sensor asks anything of a raised pantograph. -/
def State.Tranquil (s : State) (p : Pan) : Prop :=
  (s.pc p).risingOrUp = true → s.airOk p = true ∧ ((s.pc p).state = .rising → s.upSensor p = false) ∧
    ((s.pc p).state = .up → s.downSensor p = false) ∧ (s.pc p).lowering = none

/-- What a pantograph of which no sensor asks anything while it is raised comes to by its sensors. -/
inductive Settles (s : State) (p : Pan) : PC → Prop
  | stays (low : s.acts p = true → (s.pc p).state = .lowering → s.downSensor p = false)
    (fault : s.acts p = true → (s.pc p).state = .fault → s.downSensor p = true → (s.pc p).disc = false) : Settles s p (s.pc p)
  | down (c : PC) (low : (s.pc p).state = .lowering) (is : c.state = .down) (disc : c.disc = (s.pc p).disc) : Settles s p c
  | fault (c : PC) (acts : s.acts p = true) (low : (s.pc p).state = .lowering ∨ (s.pc p).state = .fault) (sensor : s.downSensor p = true)
    (is : c.state = .fault) (disc : c.disc = false) : Settles s p c

theorem State.Tranquil.settles {s : State} {p : Pan} (h : s.Tranquil p) :
    Settles s p ((s.sense p).pc p) ∧ (s.sense p).ds = s.ds := by
  rcases s.senses p with ⟨idle, e⟩ | ⟨acts, k⟩
  · rw [e]
    exact ⟨.stays (fun a => absurd a (by simp [idle])) fun a => absurd a (by simp [idle]), rfl⟩
  have taken : (s.pc p).state = .lowering → s.downSensor p = true → s.sense p = s.downInLowering p := fun low sensor => by
    simp [State.sense, acts, low, sensor]
  have off : (s.pc p).state = .fault → s.downSensor p = true → s.sense p = s.downInFault p := fun fault sensor => by
    simp [State.sense, acts, fault, sensor]
  generalize t : s.sense p = u at k
  cases k
  case none =>
    refine ⟨?_, rfl⟩
    by_cases low : (s.pc p).state = .lowering
    · refine .stays (fun _ _ => ?_) fun _ fault => by rw [low] at fault; cases fault
      rw [← Bool.not_eq_true]
      intro sensor
      have same := congrArg (fun v => (v.pc p).state) ((taken low sensor).symm.trans t)
      unfold State.downInLowering at same
      split at same
      · simp [State.enterFault_pc, PC.faultedBy, sensor, low] at same
      · simp [low] at same
    · refine .stays (fun _ x => absurd x low) fun _ fault sensor => ?_
      have same := congrArg (fun v => (v.pc p).disc) ((off fault sensor).symm.trans t)
      simpa [State.downInFault_pc] using same.symm
  case airLoss raised air => rw [(h raised).1] at air; cases air
  case up rising _ up =>
    obtain ⟨-, quiet, -⟩ := h (by simp [PC.risingOrUp, rising])
    rw [quiet rising] at up; cases up
  case drop up _ down =>
    obtain ⟨-, -, quiet, -⟩ := h (by simp [PC.risingOrUp, up])
    rw [quiet up] at down; cases down
  case down low _ _ => exact ⟨.down _ low (by simp) (by simp), by simp⟩
  case fault low sensor c _ =>
    exact ⟨.fault _ acts (.inl low) sensor (by simp [State.enterFault_pc, PC.faultedBy]) (by simp [State.enterFault_pc, PC.faultedBy, sensor]), by simp⟩
  case off fault sensor =>
    exact ⟨.fault _ acts (.inr fault) sensor (by simp [State.downInFault_pc, fault]) (by simp [State.downInFault_pc]), by simp⟩

theorem State.Tranquil.congr {s t : State} {p : Pan} (h : s.Tranquil p) (ioc : t.ioc = s.ioc) (pc : t.pc p = s.pc p) :
    t.Tranquil p := by
  unfold State.Tranquil
  rw [pc, State.airOk_congr ioc p, State.downSensor_congr ioc p, State.upSensor_congr ioc p]
  exact h

theorem State.Quiet.congr {s t : State} {p : Pan} (h : s.Quiet p) (ioc : t.ioc = s.ioc) (cl : t.cl = s.cl)
    (pc : t.pc p = s.pc p) : t.Quiet p := by
  obtain ⟨rising, up, lowering, fault⟩ := h
  constructor <;>
    rw [pc] <;> simp only [State.airOk_congr ioc p, State.downSensor_congr ioc p, State.upSensor_congr ioc p, State.acts_congr cl p] <;>
    assumption

theorem Settles.congr {s t : State} {p : Pan} {c : PC} (h : Settles s p c) (ioc : t.ioc = s.ioc) (cl : t.cl = s.cl)
    (pc : t.pc p = s.pc p) : Settles t p c := by
  cases h
  case stays low fault =>
    rw [← pc]
    refine .stays ?_ ?_ <;>
      rw [pc] <;> simpa only [State.downSensor_congr ioc p, State.acts_congr cl p]
  case down low is disc => exact .down c (pc ▸ low) is (pc ▸ disc)
  case fault acts low sensor is disc =>
    exact .fault c ((State.acts_congr cl p).trans acts) (pc ▸ low) ((State.downSensor_congr ioc p).trans sensor) is disc

section
variable {s : State} {p : Pan} {c : PC}

theorem Settles.raised (h : Settles s p c) (raised : (s.pc p).risingOrUp = true) : c = s.pc p := by
  cases h
  case stays => rfl
  case down low _ _ => simp [PC.risingOrUp, low] at raised
  case fault _ low _ _ _ => rcases low with low | low <;> simp [PC.risingOrUp, low] at raised

theorem Settles.risingOrUp (h : Settles s p c) : c.risingOrUp = (s.pc p).risingOrUp := by
  cases h
  case stays => rfl
  case down low is _ => simp [PC.risingOrUp, low, is]
  case fault _ low _ is _ => rcases low with low | low <;> simp [PC.risingOrUp, low, is]

theorem Settles.upCollecting (h : Settles s p c) : c.upCollecting = (s.pc p).upCollecting := by
  cases h
  case stays => rfl
  case down low is _ => simp [PC.upCollecting, low, is]
  case fault _ low _ is _ => rcases low with low | low <;> simp [PC.upCollecting, low, is]

/-- A settled pantograph has nothing more to react to. -/
theorem Settles.quiet {t : State} (h : Settles s p (t.pc p)) (calm : s.Tranquil p) (ioc : t.ioc = s.ioc) (cl : t.cl = s.cl) :
    t.Quiet p := by
  have rest : (s.pc p).state = .rising ∨ (s.pc p).state = .up → t.pc p = s.pc p := fun x =>
    h.raised (by simpa [PC.risingOrUp] using x)
  have back : (t.pc p).state = .rising ∨ (t.pc p).state = .up → t.pc p = s.pc p ∧ (s.pc p).risingOrUp = true := fun x => by
    have raised : (s.pc p).risingOrUp = true := h.risingOrUp ▸ (by simpa [PC.risingOrUp] using x)
    exact ⟨h.raised raised, raised⟩
  have down := State.downSensor_congr ioc p
  constructor
  · intro x
    obtain ⟨same, raised⟩ := back (.inl x)
    obtain ⟨air, up, -, low⟩ := calm raised
    exact ⟨(State.airOk_congr ioc p).trans air, (State.upSensor_congr ioc p).trans (up (same ▸ x)), same ▸ low⟩
  · intro x
    obtain ⟨same, raised⟩ := back (.inr x)
    obtain ⟨air, -, down', low⟩ := calm raised
    exact ⟨(State.airOk_congr ioc p).trans air, down.trans (down' (same ▸ x)), same ▸ low⟩
  · intro acts x
    rw [State.acts_congr cl p] at acts
    rw [down]
    generalize t.pc p = c at h x
    cases h
    case stays low _ => exact low acts x
    case down _ is _ => rw [is] at x; cases x
    case fault _ _ _ is _ => rw [is] at x; cases x
  · intro acts x sensor
    rw [State.acts_congr cl p] at acts
    rw [down] at sensor
    generalize t.pc p = c at h x ⊢
    cases h
    case stays _ fault => exact fault acts x sensor
    case down _ is _ => rw [is] at x; cases x
    case fault disc => exact disc

end

/-- What the pantographs of a calm state do: their sensors and the isolated watch. -/
structure Calmly (s t : State) : Prop where
  settles : ∀ p, (s.watched p = false ∧ Settles s p (t.pc p)) ∨ (s.watched p = true ∧ t.pc p = (s.pc p).vent)
  ds : t.ds = s.ds

/-- The isolated watch takes the other pantograph as it is, lowered by its own watch or not. -/
theorem State.watched_watchIsolated (s : State) {p q : Pan} (h : q ≠ p) : (s.watchIsolated p).watched q = s.watched q := by
  have other : q.other = p := by revert h; cases p <;> cases q <;> decide
  have up : ((s.watchIsolated p).pc p).upCollecting = (s.pc p).upCollecting := by
    rw [State.watchIsolated_pc]
    split_ifs with w
    · have disc := (State.watched_raised w).2
      simp [PC.upCollecting, disc]
    · rfl
  simp [State.watched, s.watchIsolated_pc_ne h, other, up, State.acts]

theorem State.pantographs_calmly {s : State} (calm : ∀ p, s.Tranquil p) : Calmly s s.pantographs := by
  generalize e1 : s.sense .a = s1
  generalize e2 : s1.sense .b = s2
  have a1 := (calm .a).settles
  rw [e1] at a1
  have rest1 : s1.ioc = s.ioc ∧ s1.cl = s.cl ∧ s1.cc = s.cc ∧ s1.pc .b = s.pc .b := by
    subst e1; exact ⟨by simp, by simp, by simp, s.sense_pc_ne (by decide)⟩
  have b2 := ((calm .b).congr rest1.1 rest1.2.2.2).settles
  rw [e2] at b2
  have rest2 : s2.ioc = s.ioc ∧ s2.cl = s.cl ∧ s2.cc = s.cc ∧ s2.pc .a = s1.pc .a := by
    subst e2
    exact ⟨by simp [rest1.1], by simp [rest1.2.1], by simp [rest1.2.2.1], s1.sense_pc_ne (by decide)⟩
  have all : ∀ p, Settles s p (s2.pc p) := fun p => by
    cases p
    case a => rw [rest2.2.2.2]; exact a1.1
    case b => exact b2.1.congr rest1.1.symm rest1.2.1.symm rest1.2.2.2.symm
  have quiet : ∀ p, s2.Quiet p := fun p => (all p).quiet (calm p) rest2.1 rest2.2.1
  have still : ∀ p, ((s2.advancePan .a).advancePan .b).pc p = s2.pc p := fun p => by
    cases p
    case a =>
      rw [State.advancePan_pc_ne _ (by decide)]
      exact (quiet .a).advance
    case b =>
      have first : (s2.advancePan .a).pc .b = s2.pc .b := s2.advancePan_pc_ne (by decide)
      rw [((quiet .b).congr (by simp) (by simp) first).advance, first]
  generalize e3 : (s2.advancePan .a).advancePan .b = s3 at still
  have rest3 : s3.cl = s.cl ∧ s3.cc = s.cc ∧ s3.ds = s.ds := by
    subst e3
    exact ⟨by simp [rest2.2.1], by simp [rest2.2.2.1], by simp [b2.2, a1.2]⟩
  have whole : s.pantographs = (s3.watchIsolated .a).watchIsolated .b := by
    subst e3; subst e2; subst e1; rfl
  have watched : ∀ p, s3.watched p = s.watched p := fun p => by
    simp only [State.watched, still, State.acts_congr rest3.1 p, rest3.2.1, (all p.other).upCollecting, (all p).risingOrUp]
    cases raised : (s.pc p).risingOrUp
    · simp
    · rw [(all p).raised raised]
  refine ⟨fun p => ?_, by rw [whole]; simp [rest3.2.2]⟩
  have final : s.pantographs.pc p = if s3.watched p then (s3.pc p).vent else s3.pc p := by
    rw [whole]
    cases p
    case a => rw [State.watchIsolated_pc_ne _ (by decide), State.watchIsolated_pc]
    case b =>
      rw [State.watchIsolated_pc, State.watchIsolated_pc_ne _ (by decide), State.watched_watchIsolated _ (by decide)]
  rw [final, watched, still]
  by_cases w : s.watched p = true
  · rw [if_pos w, (all p).raised (State.watched_raised w).1]
    exact .inr ⟨w, rfl⟩
  · rw [if_neg w]
    exact .inl ⟨by simpa using w, all p⟩

/-! ### The wiring of the first round, and the event after it -/

theorem State.abandonWindow_lq (s : State) : s.abandonWindow.lq = s.lq.abandon := by
  unfold State.abandonWindow
  dsimp only
  split <;> [split_ifs; skip] <;> rfl

theorem State.abandonWindow_icu {s : State} {im : Image} (i : s.cl.image = some im) :
    s.abandonWindow.icu = if 0 < s.lq.index then s.icu.advance im.tClear else s.icu := by
  unfold State.abandonWindow
  simp only [i]
  split_ifs <;> rfl

theorem State.anyUpCollecting_congr {s t : State} (h : ∀ p, (t.pc p).upCollecting = (s.pc p).upCollecting) :
    t.anyUpCollecting = s.anyUpCollecting := by
  have a := h .a
  have b := h .b
  simp only [State.pc_a, State.pc_b] at a b
  simp [State.anyUpCollecting, a, b]

theorem State.wiring_scrape (s t : State) : (s.wiring t).icu.scrape = t.icu.scrape := by
  have abandoned : t.abandonWindow.icu.scrape = t.icu.scrape := by
    unfold State.abandonWindow
    dsimp only
    split <;> [split_ifs; skip] <;> simp
  unfold State.wiring State.takeArcPan
  split_ifs <;> first | exact abandoned | rfl

/-- While no pantograph enters or leaves UP in COLLECTING connection, a change of the wiring abandons the window and no more. -/
theorem State.wiring_of_upCollecting {s t : State} (h : ∀ p, (t.pc p).upCollecting = (s.pc p).upCollecting) :
    s.wiring t = if wiringChanged s t then t.abandonWindow else t := by
  have a := h .a
  have b := h .b
  simp only [State.pc_a, State.pc_b] at a b
  have same : ∀ u : State, u.pcA = t.pcA → u.pcB = t.pcB → s.takeArcPan u = u := fun u ua ub => by
    simp [State.takeArcPan, ua, ub, a, b]
  unfold State.wiring
  split_ifs
  · exact same _ (by simp) (by simp)
  · exact same _ rfl rfl

theorem wiringChanged_eq_false {s t : State} (up : ∀ p, (t.pc p).upCollecting = (s.pc p).upCollecting)
    (disc : ∀ p, (t.pc p).disc = (s.pc p).disc) : wiringChanged s t = false := by
  have a := up .a
  have b := up .b
  have c := disc .a
  have d := disc .b
  simp only [State.pc_a, State.pc_b] at a b c d
  simp [wiringChanged, a, b, c, d]

section
variable {ice : Prop} {im : Image} {b u v : State}

theorem Reactions.calm (k : b.Calmable ice im) (m : Reactions False True u v) (h : Calm ice im b u) : Calm ice im b v :=
  m.preserves (fun _ _ step h => step.calm k h) h

/-- Rounds that begin on the wiring of a calm state are reactions on a standing wiring. -/
theorem settle_calm (k : b.Calmable ice im) (n : Nat) {ref u : State} (h : Calm ice im b u)
    (up : ∀ p, (ref.pc p).upCollecting = (b.pc p).upCollecting) (disc : ∀ p, (ref.pc p).disc = (b.pc p).disc) :
    Reactions False True u (settle n ref u) := by
  induction n generalizing ref u with
  | zero => exact .refl u
  | succ n ih =>
    have moves : Reactions False True u u.pantographs := moves_pantographs u
    have first : Calm ice im b u.pantographs := moves.calm k h
    have wired : ref.wiring u.pantographs = u.pantographs := by
      have same : ∀ p, (u.pantographs.pc p).upCollecting = (ref.pc p).upCollecting := fun p =>
        (first.upCollecting p).trans (up p).symm
      rw [State.wiring_of_upCollecting same, wiringChanged_eq_false same fun p => (first.disc p).trans (disc p).symm]
      rfl
    change Reactions False True u (settle n u.pantographs (ref.wiring u.pantographs).others)
    rw [wired]
    have round' : Reactions False True u u.pantographs.others := moves.trans (moves_others _)
    exact round'.trans (ih (round'.calm k h) first.upCollecting first.disc)

/-- After a first round that comes to a calm state, an event is reactions on a standing wiring. -/
theorem eventEnd_reactions {c : Instr} {s : State} (k : (s.wiring (direct c s).pantographs).Calmable ice im) :
    Reactions False True (s.wiring (direct c s).pantographs) (eventEnd c s) := by
  have wired : ∀ p, ((direct c s).pantographs.pc p) = ((s.wiring (direct c s).pantographs).pc p) := fun p => by
    cases p <;> simp [State.pc]
  have one : Reactions False True (s.wiring (direct c s).pantographs) (s.wiring (direct c s).pantographs).others := moves_others _
  have rest : Reactions False True _ (settle rounds s (direct c s)) :=
    settle_calm k 7 (one.calm k k.calm) (fun p => congrArg PC.upCollecting (wired p)) fun p => congrArg PC.disc (wired p)
  exact ((one.trans rest).trans (Reaction.clear _).one).trans (moves_finish s _ _ _)

theorem eventEnd_calm {c : Instr} {s : State} (k : (s.wiring (direct c s).pantographs).Calmable ice im) :
    Calm ice im (s.wiring (direct c s).pantographs) (eventEnd c s) :=
  (eventEnd_reactions k).calm k k.calm

/-- A law that the reactions keep while they are calm is kept by the event. -/
theorem eventEnd_calmly {Law : State → Prop} {c : Instr} {s : State}
    (k : (s.wiring (direct c s).pantographs).Calmable ice im)
    (each : ∀ u v, Reaction False True u v → Calm ice im (s.wiring (direct c s).pantographs) u → Law u → Law v)
    (law : Law (s.wiring (direct c s).pantographs)) : Law (eventEnd c s) :=
  ((eventEnd_reactions k).preserves (Law := fun u => Calm ice im (s.wiring (direct c s).pantographs) u ∧ Law u)
    (fun u v m h => ⟨m.calm k h.1, each u v m h.1 h.2⟩) ⟨k.calm, law⟩).2

end

/-- The first round leaves a raised pantograph of a calm state as it is, unless it lowers it. -/
theorem State.pantographs_raised {d : State} (calm : ∀ p, d.Tranquil p) {p : Pan}
    (raised : (d.pantographs.pc p).risingOrUp = true) : d.pantographs.pc p = d.pc p ∧ (d.pc p).risingOrUp = true := by
  rcases (State.pantographs_calmly calm).settles p with ⟨-, k⟩ | ⟨-, e⟩
  · have was := k.risingOrUp ▸ raised
    exact ⟨k.raised was, was⟩
  · rw [e] at raised; simp [PC.risingOrUp] at raised

theorem State.pantographs_upCollecting {d : State} (calm : ∀ p, d.Tranquil p) (p : Pan) :
    (d.pantographs.pc p).upCollecting = (d.pc p).upCollecting := by
  rcases (State.pantographs_calmly calm).settles p with ⟨-, k⟩ | ⟨w, e⟩
  · exact k.upCollecting
  · rw [e]; simp [PC.upCollecting, (State.watched_raised w).2]

theorem State.wiring_pc (s t : State) (p : Pan) : (s.wiring t).pc p = t.pc p := by cases p <;> simp [State.pc]

/-- What the isolated watch would lower after the first round of a calm state it lowers in it. -/
theorem State.watched_first {s d : State} (calm : ∀ p, d.Tranquil p) {p : Pan}
    (w : (s.wiring d.pantographs).watched p = true) : d.watched p = true := by
  have raised := (State.watched_raised w).1
  rw [State.wiring_pc] at raised
  unfold State.watched at w ⊢
  have cl : (s.wiring d.pantographs).cl = d.cl := by simp
  have cc : (s.wiring d.pantographs).cc = d.cc := by simp
  rwa [State.acts_congr cl p, cc, State.wiring_pc, State.wiring_pc, State.pantographs_upCollecting calm,
    (State.pantographs_raised calm raised).1] at w

/-- What the first round makes of a calm state, given what its causes are measured on: it is calm. -/
theorem State.Calmable.ofFirst {ice : Prop} {im : Image} {s d : State} (image : d.cl.image = some im)
    (calm : ∀ p, d.Tranquil p) (up : ∀ p, (d.pc p).upCollecting = (s.pc p).upCollecting)
    (watch : ∀ p, d.watched p = true → d.downSensor p = false)
    (stow : d.cc.phase = .opening → d.bi.closed = false → ∀ p, d.excluded p = true → (d.pc p).risingOrUp = false)
    (closing : d.cc.phase ≠ .closing ∨ d.anyUpCollecting = false) (quiet : s.NoNewCause im)
    (cause : d.ds.cause = s.ds.cause) (silence : d.pv.silence = s.pv.silence) (lq : d.lq = s.lq)
    (phase : d.cc.phase = .normal → s.cc.phase = .normal)
    (arcs : d.icu.arcSum = s.icu.arcSum ∧ (d.icu.advance im.tClear).arcSum = (s.icu.advance im.tClear).arcSum)
    (pass : d.icu.scrape = none ∨ (ice ∧ ∃ q, d.icu.scrape = some q ∧
      (s.wiring d.pantographs).scrapeGoesOn q = true) ∨ (¬ice ∧ ∀ p, (d.pc p).risingOrUp = false))
    (stands : ice → (s.wiring d.pantographs).IceStands im ∧ (d.cc.phase.executing = false ∨
      ∀ p, d.cc.nextPan = some p → (d.pantographs.pc p).state ≠ .fault)) :
    (s.wiring d.pantographs).Calmable ice im := by
  have first := State.pantographs_calmly calm
  have collects : ∀ p, (d.pantographs.pc p).upCollecting = (s.pc p).upCollecting := fun p =>
    (State.pantographs_upCollecting calm p).trans (up p)
  have pc := State.wiring_pc s d.pantographs
  have wired := State.wiring_of_upCollecting collects
  have low := fun p => State.pantographs_raised calm (p := p)
  have any : (s.wiring d.pantographs).anyUpCollecting = s.anyUpCollecting :=
    State.anyUpCollecting_congr fun p => by rw [pc, collects]
  have ioc : (s.wiring d.pantographs).ioc = d.ioc := by simp
  have cl : (s.wiring d.pantographs).cl = d.cl := by simp
  have cc : (s.wiring d.pantographs).cc = d.cc := by simp
  have ds : (s.wiring d.pantographs).ds = d.ds := by simp [first.ds]
  have q : (s.wiring d.pantographs).lq.q = s.lq.q := by
    rw [wired, ← lq]
    split_ifs
    · rw [State.abandonWindow_lq]
      simp [LQ.abandon, LQ.clearWindow]
    · simp
  have scrape : (s.wiring d.pantographs).icu.scrape = d.icu.scrape := by simp [State.wiring_scrape]
  constructor
  case image => rw [cl]; exact image
  case quiet =>
    intro p
    refine State.Quiet.congr (s := d.pantographs) ?_ (by simp) (by simp) (pc p)
    rcases first.settles p with ⟨-, k⟩ | ⟨w, e⟩
    · exact k.quiet (calm p) (by simp) (by simp)
    · constructor <;> rw [e]
      · exact fun x => (nomatch x)
      · exact fun x => (nomatch x)
      · exact fun _ _ => (State.downSensor_congr (by simp) p).trans (watch p w)
      · exact fun _ x => (nomatch x)
  case watch =>
    intro p w
    exact (State.downSensor_congr ioc p).trans (watch p (State.watched_first calm w))
  case stow =>
    rw [cc]
    intro opening open' p excluded
    have closed : (s.wiring d.pantographs).bi.closed = d.bi.closed := by simp
    have same : (s.wiring d.pantographs).excluded p = d.excluded p := by simp [State.excluded]
    rw [pc, ← Bool.not_eq_true]
    intro raised
    have rest := stow opening (closed ▸ open') p (same ▸ excluded)
    rw [(low p raised).2] at rest
    cases rest
  case closing => rw [cc, any, ← State.anyUpCollecting_congr up]; exact closing
  case silent =>
    rw [ds, cause]
    simpa [silence] using quiet.silent
  case wrong =>
    rw [ds, cause]
    intro w
    refine quiet.wrong ?_
    have on : ∀ p, (s.wiring d.pantographs).wrongOn im p = s.wrongOn im p := fun p => by
      simp [State.wrongOn, pc, collects, q]
    simp only [State.wrongSystemCause, on, cc, Bool.and_eq_true, decide_eq_true_eq] at w ⊢
    exact ⟨phase w.1, w.2⟩
  case lost =>
    rw [ds, cause]
    intro w
    refine quiet.lost ?_
    simp only [State.lineLostCause, any, cc, Bool.and_eq_true, decide_eq_true_eq] at w ⊢
    refine ⟨⟨phase w.1.1, w.1.2⟩, w.2.trans ?_⟩
    rw [wired, ← lq]
    split_ifs
    · rw [State.abandonWindow_lq]
      exact Nat.zero_le _
    · simp
  case severe =>
    rw [ds, cause]
    intro w
    refine quiet.severe ?_
    rw [wired] at w
    split_ifs at w
    · have i : d.pantographs.cl.image = some im := by simpa using image
      rw [State.abandonWindow_icu i] at w
      split_ifs at w
      · exact .inr (by simpa [arcs.2] using w)
      · exact .inl (by simpa [arcs.1] using w)
    · exact .inl (by simpa [arcs.1] using w)
  case pass =>
    rw [scrape]
    refine pass.imp_right fun rest => rest.imp_right fun idle => ⟨idle.1, fun p => ?_⟩
    rw [pc, ← Bool.not_eq_true]
    intro raised
    have was := (low p raised).2
    rw [idle.2 p] at was
    cases was
  case stands =>
    intro i
    obtain ⟨ice', sound⟩ := stands i
    refine ⟨ice', ?_⟩
    rw [cc]
    exact sound.imp_right fun sound p next => by rw [pc]; exact sound p next

end Sys2Proof.Machine
end

section
/-! PROOFS. The restore timer's expiry (R162), the end of leg 2 (R113 to R116) and the grants (R92), whose events end calm. -/

namespace Sys2Proof.Machine

/-! ### The restore timer (R162) -/

theorem PC.upCollecting_of_low {c : PC} (h : c.risingOrUp = false) : c.upCollecting = false := by
  have notUp : c.state ≠ .up := fun e => by simp [PC.risingOrUp, e] at h
  simp [PC.upCollecting, notUp]

/-- The latches, none of them maskable, with the restore timer stopped. -/
def State.Latched (d : DropSet) (s : State) : Prop :=
  s.ds.latch = d ∧ s.ds.restoreT = none

/-- Calm reactions leave latches that are not maskable, and start no restore timer. -/
theorem Reaction.latched {ice : Prop} {im : Image} {b u v : State} {d : DropSet} (none' : d.anyMaskable = false)
    (k : b.Calmable ice im) (m : Reaction False True u v) (h : Calm ice im b u) (law : u.Latched d) : v.Latched d := by
  obtain ⟨latch, stopped⟩ := law
  have image : u.cl.image = some im := by rw [h.cl]; exact k.image
  have same : v.ds = u.ds → v.Latched d := fun e => ⟨e ▸ latch, e ▸ stopped⟩
  induction m
  case sense q => exact same (h.quiet k q).sense.2
  case judge im' c i _ now =>
    obtain rfl := Option.some.inj (i.symm.trans image)
    rw [State.judgeCause_calm (h.cause c now)]
    exact ⟨latch, stopped⟩
  case restore im' i =>
    have no : u.restoring im' = false := by simp [State.restoring, latch, none']
    unfold State.formRestore
    rw [no]
    exact ⟨latch, rfl⟩
  all_goals exact same (by simp)

/-- Settles O53. With nothing raised every reaction is calm, and no maskable latch is left for the timer to run for. -/
theorem restoreTimerClearsTheMaskableLatches : Obligations.RestoreTimerClearsTheMaskableLatches := by
  unfold Obligations.RestoreTimerClearsTheMaskableLatches
  intro s im released i running low quiet
  generalize e : direct .restoreTimerExpiry s = d
  obtain rfl : s.restoreMaskable = d := (if_pos running).symm.trans e
  have pc : ∀ p, s.restoreMaskable.pc p = s.pc p := fun p => by cases p <;> rfl
  have low' : ∀ p, (s.restoreMaskable.pc p).risingOrUp = false := fun p => by rw [pc]; exact low p
  have idle : s.restoreMaskable.anyUpCollecting = false := by
    rw [State.anyUpCollecting_congr (s := s) fun p => by rw [pc]]
    exact Bool.or_eq_false_iff.mpr ⟨PC.upCollecting_of_low (low .a), PC.upCollecting_of_low (low .b)⟩
  have k : (s.wiring (direct .restoreTimerExpiry s).pantographs).Calmable False im := by
    rw [e]
    exact .ofFirst i (fun p raised => absurd raised (by simp [low'])) (fun p => by rw [pc])
      (fun p w => absurd (State.watched_raised w).1 (by simp [low'])) (fun _ _ p _ => low' p) (.inr idle) quiet rfl rfl rfl
      id ⟨rfl, rfl⟩ (.inr (.inr ⟨id, low'⟩)) False.elim
  have first := State.pantographs_calmly (s := s.restoreMaskable) fun p raised => absurd raised (by simp [low'])
  have ends : (eventEnd .restoreTimerExpiry s).Latched s.ds.latch.clearMaskable :=
    eventEnd_calmly k (fun u v m h law => m.latched rfl k h law) (by rw [e]; exact ⟨by simp [first.ds]; rfl, by simp [first.ds]; rfl⟩)
  have holds : (eventEnd .restoreTimerExpiry s).HoldsDS := by
    have moves := moves_eventEnd .restoreTimerExpiry s
    rw [e] at moves
    exact moves.keeps (fun _ _ m h => m.holdsDS h) (State.keepLatches_holdsDS s _)
  have on := reacts_eventEnd (c := .restoreTimerExpiry) (by simp) s
  rw [e] at on
  refine ⟨_, exec_eq_event released rfl, ends.1, ends.2, ?_, on.kept⟩
  rw [State.HoldsDS] at holds
  rw [holds, Bool.not_eq_true', ← Bool.not_eq_true, DropSet.isEmpty_iff]

end Sys2Proof.Machine
end

section
/-! PROOFS. The end of leg 2 (R113, R115, R116). -/

namespace Sys2Proof.Machine

theorem PC.Drift.low {c d : PC} (h : c.Drift d) (low : c.risingOrUp = false) : d.risingOrUp = false := by
  simp only [PC.risingOrUp, decide_eq_false_iff_not, not_or] at low ⊢
  exact ⟨fun e => low.1 (h.rising e), fun e => (h.up e).elim low.1 low.2⟩

theorem PC.Drift.noForce {c d : PC} (h : c.Drift d) (none' : c.fset = 0) : d.fset = 0 := by
  rcases h.force with ⟨same, -⟩ | ⟨zero, -⟩
  · exact same.trans none'
  · exact zero

/-- A fast drop leaves nothing raised, and takes the force of what it drops (R38). -/
theorem PC.dropped_low (c : PC) : c.dropped.risingOrUp = false ∧ (c.risingOrUp = true → c.dropped.fset = 0) := by
  unfold PC.dropped
  split_ifs with raised low
  · exact ⟨by simp [PC.risingOrUp], fun _ => rfl⟩
  · exact ⟨by simp [PC.risingOrUp, low], fun x => absurd x raised⟩
  · exact ⟨by simpa using raised, fun x => absurd x raised⟩

theorem State.forcedDropAll_pc (s : State) {p : Pan} (acts : s.acts p = true) :
    s.forcedDropAll.pc p = (s.pc p).dropped := by
  have frame : s.forcedDropAll.pc p = ((s.fastDrop .a).fastDrop .b).pc p := by cases p <;> rfl
  rw [frame]
  cases p
  case a => rw [State.fastDrop_pc_ne _ (by decide), State.fastDrop_pc, if_pos acts]
  case b =>
    rw [State.fastDrop_pc, if_pos (by simpa [State.acts] using acts), State.fastDrop_pc_ne _ (by decide)]

theorem State.excluded_acts {s : State} {p : Pan} (h : s.excluded p = true) : s.acts p = true := by
  unfold State.excluded at h
  split at h
  · rename_i im sec i _
    simp only [Bool.and_eq_true] at h
    simp [State.acts, i, h.1]
  · cases h

/-- The section-entry forced drop out of STOWING (R115). -/
theorem State.forcedDropStowing_late {s : State} (late : ∃ p, s.lateStowing p = true) :
    s.forcedDropStowing.cc.forcedDrop = true ∧ s.forcedDropStowing.al.requested .forcedSectionDrop = true ∧
      ∀ p, s.lateStowing p = true → s.forcedDropStowing.pc p = (s.pc p).dropped := by
  have any : (s.lateStowing .a || s.lateStowing .b) = true := by
    obtain ⟨p, late⟩ := late
    cases p <;> simp [late]
  obtain ⟨t, e, pc⟩ : ∃ t : State, (if s.lateStowing .b then (if s.lateStowing .a then s.fastDrop .a else s).fastDrop .b
      else if s.lateStowing .a then s.fastDrop .a else s) = t ∧
      ∀ p, s.lateStowing p = true → t.pc p = (s.pc p).dropped := by
    refine ⟨_, rfl, fun p late => ?_⟩
    have acts := State.excluded_acts (Bool.and_eq_true _ _ ▸ late).1
    cases p
    case a =>
      rw [if_pos late]
      split_ifs
      · rw [State.fastDrop_pc_ne _ (by decide), State.fastDrop_pc, if_pos acts]
      · rw [State.fastDrop_pc, if_pos acts]
    case b =>
      rw [if_pos late]
      split_ifs
      · rw [State.fastDrop_pc, if_pos (by simpa [State.acts] using acts), State.fastDrop_pc_ne _ (by decide)]
      · rw [State.fastDrop_pc, if_pos acts]
  have drops : s.forcedDropStowing = t.markForcedDrop := by
    unfold State.forcedDropStowing
    dsimp only
    rw [if_pos any, e]
  rw [drops]
  refine ⟨rfl, State.request_self _ _, fun p late => ?_⟩
  rw [← pc p late]
  cases p <;> rfl

/-- Without a late pantograph the end of leg 2 moves the phase on, and nothing else but its countdown. -/
theorem State.endLeg2_of_none_late {s : State}
    (at' : (s.cc.phase = .opening ∧ s.bi.closed = false) ∨ s.cc.phase = .stowing ∨ s.cc.phase = .coasting)
    (late : s.cc.phase = .coasting ∨ ∀ p, s.lateStowing p = false) :
    s.endLeg2 = ({ s with cc := { s.cc with phase := s.cc.phase.afterLeg2 s.bi.closed } } : State).loadLeg3 := by
  have none' : ∀ t : State, (∀ p, t.lateStowing p = false) → t.forcedDropStowing = t := fun t none' => by
    simp [State.forcedDropStowing, none']
  have effect : s.leg2Effect = { s with cc := { s.cc with phase := s.cc.phase.afterLeg2 s.bi.closed } } := by
    rcases at' with ⟨opening, open'⟩ | stowing | coasting
    · have stands : ∀ p, s.lateStowing p = false := late.resolve_left (by rw [opening]; decide)
      have stows := State.enterStowing_of_stowed fun p excluded => by
        have := stands p
        rw [State.lateStowing, excluded] at this
        exact this
      unfold State.leg2Effect
      simp only [opening, open', stows]
      exact none' _ fun p => by cases p <;> exact stands _
    · have stands : ∀ p, s.lateStowing p = false := late.resolve_left (by rw [stowing]; decide)
      unfold State.leg2Effect
      simp only [stowing, none' s stands, Phase.afterLeg2]
      rw [← stowing]
    · unfold State.leg2Effect
      simp only [coasting, Phase.afterLeg2]
      rw [← coasting]
  unfold State.endLeg2
  rw [effect]

/-- The phases to which the reactions can lead from STOWING or COASTING. -/
theorem Phase.ahead_stowing {p : Phase} {closed ended : Bool} (h : p ∈ Phase.ahead closed ended .stowing) :
    p = .stowing ∨ p = .coasting ∨ p = .requalify := by
  cases p <;> cases closed <;> cases ended <;> revert h <;> decide

theorem Phase.ahead_coasting {p : Phase} {closed ended : Bool} (h : p ∈ Phase.ahead closed ended .coasting) :
    p = .coasting ∨ p = .requalify := by
  cases p <;> cases closed <;> cases ended <;> revert h <;> decide

section
variable {s : State} {im : Image} {n : Nat}

theorem direct_leg2 (running : s.cc.countdown = .running .two n) : direct .leg2End s = s.endLeg2 :=
  if_pos (by rw [CC.runningLeg, running])

theorem reacts_leg2 (running : s.cc.countdown = .running .two n) : s.endLeg2.Reacts (eventEnd .leg2End s) := by
  rw [← direct_leg2 running]
  exact reacts_eventEnd (by simp) s

theorem legs_leg2 {firm : Prop} (running : s.cc.countdown = .running .two n) (open' : s.cc.phase ≠ .closing)
    (sound : firm → ∀ p, s.cc.nextPan = some p → s.Sound p) : Legs firm s.endLeg2 (eventEnd .leg2End s) := by
  obtain ⟨phase, -, next, -⟩ := s.endLeg2_cc
  have moves := moves_eventEnd .leg2End s
  rw [direct_leg2 running] at moves
  refine moves.legs (fun f p e => (sound f p (next ▸ e)).lowers ?_) (phase ▸ Phase.afterLeg2_not_closing _ open')
  exact (Lowers.leg2Effect s).trans (.of_fields rfl rfl rfl)

theorem legs_leg2_mark (running : s.cc.countdown = .running .two n) (open' : s.cc.phase ≠ .closing) :
    (eventEnd .leg2End s).cc.forcedDrop = s.endLeg2.cc.forcedDrop ∧
      ((eventEnd .leg2End s).cc.phase ∈ Phase.ahead s.endLeg2.bi.closed (s.endLeg2.cc.countdown == .ended)
        (s.cc.phase.afterLeg2 s.bi.closed) ∨ (eventEnd .leg2End s).cc.phase = .aborted) := by
  have legs := legs_leg2 (firm := False) running open' False.elim
  refine ⟨legs.mark, ?_⟩
  rw [← s.endLeg2_cc.1]
  exact legs.course.imp And.right And.right

/-- Without a late pantograph the end of leg 2 is only reacted to. -/
theorem reacts_leg2_of_none_late (running : s.cc.countdown = .running .two n)
    (at' : (s.cc.phase = .opening ∧ s.bi.closed = false) ∨ s.cc.phase = .stowing ∨ s.cc.phase = .coasting)
    (late : s.cc.phase = .coasting ∨ ∀ p, s.lateStowing p = false) :
    s.Reacts (eventEnd .leg2End s) ∧ (eventEnd .leg2End s).cc.forcedDrop = s.cc.forcedDrop := by
  have on := reacts_leg2 running
  have open' : s.cc.phase ≠ .closing := by
    rcases at' with ⟨x, -⟩ | x | x <;> rw [x] <;> decide
  have mark := (legs_leg2_mark running open').1
  rw [State.endLeg2_of_none_late at' late] at on mark
  refine ⟨State.Reacts.trans ?_ on, mark⟩
  exact .beside rfl rfl rfl rfl rfl

/-- Each raised collecting pantograph stays as it is where the end of leg 2 is calm. -/
theorem calm_leg2 (i : s.cl.image = some im) (running : s.cc.countdown = .running .two n)
    (at' : (s.cc.phase = .opening ∧ s.bi.closed = false) ∨ s.cc.phase = .stowing ∨ s.cc.phase = .coasting)
    (late : s.cc.phase = .coasting ∨ ∀ p, s.lateStowing p = false) (sensors : s.SensorsCalm) (quiet : s.NoNewCause im)
    (pass : s.icu.scrape = none) {p : Pan} (raised : (s.pc p).risingOrUp = true) (disc : (s.pc p).disc = true) :
    (s.pc p).Same ((eventEnd .leg2End s).pc p) := by
  obtain ⟨q, effect, after⟩ : ∃ q, direct .leg2End s =
      ({ s with cc := { s.cc with phase := q } } : State).loadLeg3 ∧ (q = .stowing ∨ q = .coasting) := by
    refine ⟨_, (direct_leg2 running).trans (State.endLeg2_of_none_late at' late), ?_⟩
    rcases at' with ⟨x, y⟩ | x | x
    · rw [x, y]; exact .inl rfl
    · rw [x]; exact .inl rfl
    · rw [x]; exact .inr rfl
  generalize e : direct .leg2End s = d at effect
  have pc : ∀ q, d.pc q = s.pc q := fun q => by rw [effect]; cases q <;> rfl
  have ioc : d.ioc = s.ioc := by rw [effect]; rfl
  have calm : ∀ q, d.Tranquil q := fun q up => by
    rw [pc] at up ⊢
    obtain ⟨air, down, rising, low⟩ := sensors q up
    rw [State.airOk_congr ioc, State.upSensor_congr ioc, State.downSensor_congr ioc]
    exact ⟨air, rising, fun _ => down, low⟩
  have phase : d.cc.phase = q := by rw [effect]; rfl
  have k : (s.wiring (direct .leg2End s).pantographs).Calmable False im := by
    rw [e]
    refine .ofFirst (by rw [effect]; exact i) calm (fun q => by rw [pc]) (fun q w => ?_) ?_ (.inl ?_) quiet
      (by rw [effect]; rfl) (by rw [effect]; rfl) (by rw [effect]; rfl) ?_ (by rw [effect]; exact ⟨rfl, rfl⟩)
      (.inl (by rw [effect]; exact pass)) False.elim
    · have up := (State.watched_raised w).1
      rw [pc] at up
      exact (State.downSensor_congr ioc q).trans (sensors q up).2.1
    all_goals rw [phase]; rcases after with x | x <;> rw [x]
    · exact fun x => (nomatch x)
    · exact fun x => (nomatch x)
    · decide
    · decide
    · exact fun x => (nomatch x)
    · exact fun x => (nomatch x)
  have ends := (eventEnd_calm k).pcs p
  have base : (s.wiring (direct .leg2End s).pantographs).pc p = s.pc p := by
    have first : (s.wiring (direct .leg2End s).pantographs).pc p = (direct .leg2End s).pantographs.pc p := by
      cases p <;> simp [State.pc]
    rw [first, e]
    rcases (State.pantographs_calmly calm).settles p with ⟨-, settles⟩ | ⟨w, -⟩
    · rw [settles.raised (by rw [pc]; exact raised), pc]
    · have := (State.watched_raised w).2
      rw [pc, disc] at this
      cases this
  rcases ends with same | ⟨w, -⟩
  · exact base ▸ same
  · have := (State.watched_raised w).2
    rw [base, disc] at this
    cases this

end

/-- Settles O48. What the drops leave drifts no way up; without a late pantograph the event is calm. -/
theorem leg2EndForcesTheDrop : Obligations.Leg2EndForcesTheDrop := by
  unfold Obligations.Leg2EndForcesTheDrop
  intro s im n released i running
  have on := reacts_leg2 running
  refine ⟨fun opening closed => ?_, fun stowing late => ?_, fun at' late => ?_, fun coasting => ?_, fun at' sound => ?_,
    fun at' late sensors quiet pass => ?_⟩
  · have effect : s.endLeg2 = s.forcedDropAll.loadLeg3 := by simp [State.endLeg2, State.leg2Effect, opening, closed]
    obtain ⟨mark, phase⟩ := legs_leg2_mark running (by rw [opening]; decide)
    rw [opening, closed] at phase
    refine ⟨_, exec_eq_event released rfl, on.flags _ (by rw [effect]; exact State.request_self _ _),
      mark.trans (by rw [effect]; rfl), fun p acts => ?_, ?_⟩
    · have drops : s.endLeg2.pc p = (s.pc p).dropped := by
        rw [effect, ← s.forcedDropAll_pc acts]
        cases p <;> rfl
      obtain ⟨low, force⟩ := (s.pc p).dropped_low
      have drift := on.pc p
      rw [drops] at drift
      exact ⟨drift.low low, fun raised => drift.noForce (force raised)⟩
    · rcases phase with ahead | aborted
      · exact (Phase.ahead_coasting ahead).imp_right .inl
      · exact .inr (.inr aborted)
  · have effect : s.endLeg2 = s.forcedDropStowing.loadLeg3 := by simp [State.endLeg2, State.leg2Effect, stowing]
    obtain ⟨marked, requested, drops⟩ := State.forcedDropStowing_late late
    obtain ⟨mark, -⟩ := legs_leg2_mark running (by rw [stowing]; decide)
    refine ⟨_, exec_eq_event released rfl, on.flags _ (by rw [effect]; exact requested),
      mark.trans (by rw [effect]; exact marked), fun p late => ?_⟩
    obtain ⟨low, force⟩ := (s.pc p).dropped_low
    have drift := on.pc p
    rw [show s.endLeg2.pc p = (s.pc p).dropped by rw [effect, ← drops p late]; cases p <;> rfl] at drift
    exact ⟨drift.low low, drift.noForce (force (Bool.and_eq_true _ _ ▸ late).2)⟩
  · obtain ⟨reacts, mark⟩ := reacts_leg2_of_none_late running (at'.imp_right .inl) (.inr late)
    have phase := (legs_leg2_mark running (by rcases at' with ⟨x, -⟩ | x <;> rw [x] <;> decide)).2
    refine ⟨_, exec_eq_event released rfl, reacts, mark, ?_⟩
    have stows : s.cc.phase.afterLeg2 s.bi.closed = .stowing := by
      rcases at' with ⟨x, y⟩ | x
      · rw [x, y]; rfl
      · rw [x]; rfl
    rw [stows] at phase
    rcases phase with ahead | aborted
    · rcases Phase.ahead_stowing ahead with x | x | x
      · exact .inl x
      · exact .inr (.inl x)
      · exact .inr (.inr (.inl x))
    · exact .inr (.inr (.inr aborted))
  · obtain ⟨reacts, mark⟩ := reacts_leg2_of_none_late running (.inr (.inr coasting)) (.inl coasting)
    have phase := (legs_leg2_mark running (by rw [coasting]; decide)).2
    refine ⟨_, exec_eq_event released rfl, reacts, mark, ?_⟩
    rw [coasting] at phase
    rcases phase with ahead | aborted
    · exact (Phase.ahead_coasting ahead).imp_right .inl
    · exact .inr (.inr aborted)
  · have open' : s.cc.phase ≠ .closing := by rcases at' with x | x | x <;> rw [x] <;> decide
    have legs := legs_leg2 (firm := True) running open' fun _ => sound
    obtain ⟨-, leg3, -, countdown⟩ := s.endLeg2_cc
    rw [← legs.course_firm.1] at countdown
    exact ⟨_, exec_eq_event released rfl, legs.leg3.trans leg3, fun short => countdown.trans (if_pos short),
      fun long => countdown.trans (if_neg (by omega))⟩
  · refine ⟨_, exec_eq_event released rfl, fun p raised disc => ?_⟩
    obtain ⟨state, disc', lowering, valve, fset, duty, -⟩ := (calm_leg2 i running at' late sensors quiet pass raised disc).fields
    exact ⟨state, valve, lowering.trans (sensors p raised).2.2.2, disc'.trans disc, fset, duty⟩

end Sys2Proof.Machine
end

section
/-! PROOFS. The own claim through an event: the reactions leave it or withdraw it, until the claim test (R88 to R93). -/

namespace Sys2Proof.Machine

/-! ### A claim stands or is withdrawn -/

/-- The own claim with its serial and its hold-off, and the slots of its frames. -/
def State.claimPart (s : State) : ClaimState × Nat × Timer × Option (Slot Nat) × Option (Slot ClaimFrame) :=
  (s.au.claim, s.au.serial, s.au.holdOffT, s.lau.wdSlot, s.lau.clSlot)

theorem State.claimPart_congr {s t : State} (claim : t.au.claim = s.au.claim) (serial : t.au.serial = s.au.serial)
    (holdOff : t.au.holdOffT = s.au.holdOffT) (lau : t.lau = s.lau) : t.claimPart = s.claimPart := by
  simp [State.claimPart, claim, serial, holdOff, lau]

theorem State.closed_congr {s t : State} (h : s.au.claimOpen = false) (same : t.claimPart = s.claimPart) :
    t.au.claimOpen = false := by
  have claim : t.au.claim = s.au.claim := congrArg Prod.fst same
  unfold AU.claimOpen at h ⊢
  rw [claim]
  exact h

/-- What a withdrawal leaves in the slots of WITHDRAW and CLAIM: a CLAIM that still waits goes, else a WITHDRAW is placed (R92). -/
def State.withdrawn (s : State) : Option (Slot Nat) × Option (Slot ClaimFrame) :=
  if s.lau.clSlot.any (fun c => c.frame.serial == s.au.serial) then (s.lau.wdSlot, none)
  else (some ⟨s.au.serial, 0, none⟩, s.lau.clSlot)

theorem State.withdrawn_congr {s t : State} (same : t.claimPart = s.claimPart) : t.withdrawn = s.withdrawn := by
  simp only [State.claimPart, Prod.mk.injEq] at same
  obtain ⟨-, serial, -, wd, cl⟩ := same
  simp [State.withdrawn, serial, wd, cl]

/-- The withdrawal of an open claim: it is open no more, and its frame has left or a WITHDRAW waits. -/
structure State.Withdraws (s t : State) : Prop where
  opened : s.au.claimOpen = true
  closed : t.au.claimOpen = false
  serial : t.au.serial = s.au.serial
  slots : (t.lau.wdSlot, t.lau.clSlot) = s.withdrawn

theorem State.Withdraws.congr_left {s s' t : State} (h : s'.Withdraws t) (same : s'.claimPart = s.claimPart) :
    s.Withdraws t where
  opened := by
    by_contra shut
    have closed := State.closed_congr (by simpa using shut) same
    rw [h.opened] at closed
    cases closed
  closed := h.closed
  serial := h.serial.trans (congrArg (fun x => x.2.1) same)
  slots := h.slots.trans (State.withdrawn_congr same)

theorem State.Withdraws.congr_right {s t t' : State} (h : s.Withdraws t) (same : t'.claimPart = t.claimPart) :
    s.Withdraws t' where
  opened := h.opened
  closed := State.closed_congr h.closed same
  serial := (congrArg (fun x => x.2.1) same).trans h.serial
  slots := (congrArg (fun x => x.2.2.2) same).trans h.slots

/-- What the reactions do to the own claim: it stands, or it was open and is withdrawn. -/
def State.Yields (s t : State) : Prop := t.claimPart = s.claimPart ∨ s.Withdraws t

theorem State.Yields.refl (s : State) : s.Yields s := .inl rfl

theorem State.Yields.trans {s t u : State} (h : s.Yields t) (k : t.Yields u) : s.Yields u := by
  rcases k with same | gone
  · exact h.imp (same.trans ·) (·.congr_right same)
  · rcases h with same' | gone'
    · exact .inr (gone.congr_left same')
    · exact absurd gone.opened (by simp [gone'.closed])

/-- A claim that is not open is left alone. -/
theorem State.Yields.of_closed {s t : State} (h : s.Yields t) (closed : s.au.claimOpen = false) :
    t.claimPart = s.claimPart :=
  h.resolve_right fun gone => absurd gone.opened (by simp [closed])

theorem State.withdraw_closed (s : State) : s.withdraw.au.claimOpen = false ∧ s.withdraw.au.serial = s.au.serial := by
  unfold State.withdraw State.placeWithdraw
  dsimp only
  split_ifs <;> exact ⟨by simp [AU.claimOpen, *], rfl⟩

theorem State.withdraw_withdraws {s : State} (h : s.au.claimOpen = true) : s.Withdraws s.withdraw where
  opened := h
  closed := s.withdraw_closed.1
  serial := s.withdraw_closed.2
  slots := by
    unfold State.withdraw State.placeWithdraw State.withdrawn
    dsimp only
    split_ifs <;> rfl

theorem State.dropWant_yields (s : State) (k : ClaimKind) : s.Yields (s.dropWant k) := by
  have gone : ∀ t : State, t.claimPart = s.claimPart → s.Yields (if s.au.claims k then t.withdraw else t) := by
    intro t same
    split_ifs with own
    · have opened : s.au.claimOpen = true := by
        unfold AU.claims at own
        exact (Bool.and_eq_true _ _ ▸ own).1
      have opened' : t.au.claimOpen = true := by
        by_contra shut
        have closed := State.closed_congr (by simpa using shut) same.symm
        rw [opened] at closed
        cases closed
      exact .inr ((State.withdraw_withdraws opened').congr_left same)
    · exact .inl same
  unfold State.dropWant
  cases k <;> exact gone _ rfl

theorem State.placeRaise_claimPart (s : State) (w : RaiseWant) : (s.placeRaise w).claimPart = s.claimPart := by
  unfold State.placeRaise
  split_ifs <;> rfl

theorem State.placeScrape_claimPart (s : State) (p : Pan) : (s.placeScrape p).claimPart = s.claimPart := by
  unfold State.placeScrape
  split_ifs <;> rfl

theorem State.reactRaise_yields (s : State) (im : Image) : s.Yields (s.reactRaise im) := by
  obtain ⟨t, e, start⟩ : ∃ t : State, (if s.raiseBarred && s.au.raise.isSome then s.dropWant .raise else s) = t ∧
      s.Yields t := by
    refine ⟨_, rfl, ?_⟩
    split_ifs
    · exact s.dropWant_yields _
    · exact .refl s
  unfold State.reactRaise
  rw [e]
  dsimp only
  split
  · split
    · split
      · exact start.trans (t.dropWant_yields _)
      · exact start
    · split_ifs
      · exact start
      · exact start.trans (.inl (t.placeRaise_claimPart _))
      · exact start
  · exact start

theorem State.reactScrape_yields (s : State) (im : Image) : s.Yields (s.reactScrape im) := by
  unfold State.reactScrape
  split
  · split_ifs
    · exact .refl s
    · exact (s.dropWant_yields _).trans (.inl (State.placeScrape_claimPart _ _))
    · exact .inl (s.placeScrape_claimPart _)
  · split_ifs
    · exact s.dropWant_yields _
    · exact .refl s

theorem State.formHeat_yields (s : State) (im : Image) : s.Yields (s.formHeat im) := by
  unfold State.formHeat
  split
  · refine .inl ?_
    unfold State.placeHeat
    split_ifs <;> rfl
  · split_ifs
    · exact s.dropWant_yields _
    · exact .refl s

theorem State.leaveClearing_yields (s : State) (im : Image) : s.Yields (s.leaveClearing im) := by
  have wants : s.Yields ((s.dropWant .scrape).dropWant .heat) := (s.dropWant_yields _).trans (State.dropWant_yields _ _)
  refine wants.trans (.inl ?_)
  unfold State.leaveClearing State.endPass
  split
  · exact State.claimPart_congr (by simp [State.endScrape, State.heatersOff]) (by simp [State.endScrape, State.heatersOff])
      (by simp [State.endScrape, State.heatersOff]) (by simp [State.endScrape, State.heatersOff])
  · rfl

theorem State.formIce_yields (s : State) (im : Image) : s.Yields (s.formIce im) := by
  unfold State.formIce
  dsimp only
  split_ifs
  · exact (s.leaveClearing_yields im).trans (.inl rfl)
  · exact (s.leaveClearing_yields im).trans (.inl rfl)
  · exact .inl rfl
  · exact .inl rfl

/-- The reactions before the claim test leave the own claim or withdraw it. -/
theorem Reaction.yields {w : Prop} {s t : State} (m : Reaction w False s t) : s.Yields t := by
  induction m
  case ice im i => exact s.formIce_yields im
  case raise im i => exact s.reactRaise_yields im
  case scrape im i => exact s.reactScrape_yields im
  case heat im i => exact s.formHeat_yields im
  case conflict no _ _ | test no _ _ | report no => exact no.elim
  case clear a =>
    refine .inl ?_
    unfold State.reportAndClear
    dsimp only
    split_ifs <;> rfl
  case profile | marks => exact .inl rfl
  all_goals exact .inl (State.claimPart_congr (by simp) (by simp) (by simp) (by simp))

theorem Reactions.yields {w : Prop} {s t : State} (m : Reactions w False s t) : s.Yields t :=
  m.preserves (fun _ _ step same => same.trans step.yields) (.refl s)

/-! ### The claim test -/

/-- What a claim test makes of a claim that is not open: it stays so, or a new one opens with the next serial (R88, R89). -/
def State.Opens (s t : State) : Prop :=
  (t.au.claimOpen = false ∧ t.au.serial = s.au.serial ∧ t.lau.wdSlot = s.lau.wdSlot ∧ t.lau.clSlot = s.lau.clSlot) ∨
    (t.au.claim = .sent ∧ t.au.serial = wrapInc 255 s.au.serial ∧ t.lau.wdSlot = s.lau.wdSlot ∧
      ∃ f, t.lau.clSlot = some ⟨f, 0, none⟩ ∧ f.serial = wrapInc 255 s.au.serial)

theorem State.Opens.not_holding {s t : State} (k : s.Opens t) : t.au.claim ≠ .holding := by
  rcases k with ⟨closed, -⟩ | ⟨sent, -⟩
  · intro e
    simp [AU.claimOpen, e] at closed
  · rw [sent]; decide

theorem State.Opens.of_same {s t : State} (h : s.au.claimOpen = false) (same : t.claimPart = s.claimPart) : s.Opens t := by
  have closed := State.closed_congr h same
  simp only [State.claimPart, Prod.mk.injEq] at same
  obtain ⟨-, serial, -, slots⟩ := same
  exact .inl ⟨closed, serial, slots⟩

theorem State.Opens.congr_left {s s' t : State} (h : s'.Opens t) (same : s'.claimPart = s.claimPart) : s.Opens t := by
  simp only [State.claimPart, Prod.mk.injEq] at same
  obtain ⟨-, serial, -, wd, cl⟩ := same
  unfold State.Opens at h ⊢
  rwa [serial, wd, cl] at h

theorem State.Opens.congr_right {s t t' : State} (h : s.Opens t) (same : t'.claimPart = t.claimPart) : s.Opens t' := by
  have shut : t.au.claimOpen = false → t'.au.claimOpen = false := fun x => State.closed_congr x same
  simp only [State.claimPart, Prod.mk.injEq] at same
  obtain ⟨claim, serial, -, wd, cl⟩ := same
  unfold State.Opens at h ⊢
  rw [claim, serial, wd, cl]
  exact h.imp_left fun ⟨closed, rest⟩ => ⟨shut closed, rest⟩

theorem State.testFirst_opens (s : State) (im : Image) : s.Opens (s.testFirst im) := by
  unfold State.testFirst
  split
  · split_ifs
    · exact .inr ⟨rfl, rfl, rfl, _, rfl, rfl⟩
    · exact .inl ⟨rfl, rfl, rfl, rfl⟩
  · exact .inl ⟨rfl, rfl, rfl, rfl⟩

/-- What an event makes of the own claim: it stands or is withdrawn, and beside no open claim a new one may open. -/
def State.Leads (s t : State) : Prop :=
  ∃ v : State, s.Yields v ∧ (t.claimPart = v.claimPart ∨ (v.au.claimOpen = false ∧ v.Opens t))

theorem State.claimTest_leads (s : State) (im : Image) : s.Leads (s.claimTest im) := by
  obtain ⟨t, e, part⟩ : ∃ t : State,
      ({ s with au := { s.au with retestT := if s.au.noWants then none else .started } } : State) = t ∧
        t.claimPart = s.claimPart := ⟨_, rfl, rfl⟩
  unfold State.claimTest
  rw [e]
  dsimp only
  split
  next opened =>
    split
    next h _ =>
      split_ifs
      · exact ⟨s, .refl s, .inl part⟩
      · exact ⟨_, .inr ((State.withdraw_withdraws opened).congr_left part), .inr ⟨t.withdraw_closed.1, State.testFirst_opens _ im⟩⟩
    next => exact ⟨s, .refl s, .inl part⟩
  next shut => exact ⟨t, .inl part, .inr ⟨by simpa using shut, t.testFirst_opens im⟩⟩

/-- The state in which late conflict is evaluated. -/
def State.evaluated (before s : State) : State := before.formOpenConfirm (before.formHeatWant s.guard).formPermit

theorem finish_eq (before s : State) (test ask : Bool) :
    finish before test ask s = before.report ask (before.admission test (before.evaluated s)).formAlerts := rfl

theorem eventEnd_leads (c : Instr) (s : State) : (direct c s).Leads (eventEnd c s) := by
  have reactions : Reactions True False (direct c s) (s.evaluated (settled c s)) :=
    (((moves_settled c s).trans (moves_guard _)).trans (moves_formHeatWant s _)).trans (Reaction.permit s).one
  have until' := reactions.yields
  generalize name : s.evaluated (settled c s) = u at until'
  have runs : eventEnd c s = s.report (asksStatus c s) (s.admission (asksTest c s) u).formAlerts := by
    rw [← name]; rfl
  have last : (eventEnd c s).claimPart = (s.admission (asksTest c s) u).claimPart := by
    rw [runs]
    unfold State.report State.askStatus
    split_ifs <;> rfl
  have tested : (∃ im, (s.admission (asksTest c s) u).claimPart = ((u.evaluateConflict im).claimTest im).claimPart) ∨
      (s.admission (asksTest c s) u).claimPart = u.claimPart := by
    unfold State.admission State.ifGood
    split
    next im _ =>
      dsimp only
      split_ifs
      · exact .inl ⟨im, rfl⟩
      · exact .inr rfl
    next => exact .inr rfl
  rcases tested with ⟨im, e⟩ | e
  · obtain ⟨v, yields, opens⟩ := State.claimTest_leads (u.evaluateConflict im) im
    have same := last.trans e
    have conflict : u.Yields (u.evaluateConflict im) := .inl rfl
    exact ⟨v, (until'.trans conflict).trans yields, opens.imp same.trans fun ⟨closed, new⟩ => ⟨closed, new.congr_right same⟩⟩
  · exact ⟨u, until', .inl (last.trans e)⟩

/-- An event whose direct effect leaves no open claim opens at most a new one. -/
theorem eventEnd_opens {c : Instr} {s : State} (h : (direct c s).au.claimOpen = false) :
    (direct c s).Opens (eventEnd c s) := by
  obtain ⟨v, yields, same | ⟨-, opens⟩⟩ := eventEnd_leads c s
  · exact .of_same h (same.trans (yields.of_closed h))
  · exact opens.congr_left (yields.of_closed h)

end Sys2Proof.Machine
end

section
/-! PROOFS. The hold-off expiry (R92, R93): the withdrawal, the refusal and the grant. -/

namespace Sys2Proof.Machine

/-! ### The withdrawal and the refusal -/

theorem direct_holdOff {s : State} {im : Image} {h : Head} (i : s.cl.image = some im) (holding : s.au.claim = .holding)
    (head : s.au.head = some h) :
    direct .holdOffExpiry s = if s.passes im h then s.grant im h else s.withdraw := by
  have runs : direct .holdOffExpiry s = s.ifGood fun im t => t.holdOffEnd im := if_pos (decide_eq_true holding)
  rw [runs, State.ifGood_of_some (s := s) i]
  unfold State.holdOffEnd
  rw [head]

theorem wrapInc_ne {n k : Nat} (h : n ≤ k) (pos : 0 < k) : wrapInc k n ≠ n := by
  unfold wrapInc
  split_ifs <;> omega

/-- A WITHDRAW removes the CLAIM of its serial that waits, or enters its own slot (R91). -/
theorem State.withdraw_slots (s : State) :
    ((∃ c, s.lau.clSlot = some c ∧ c.frame.serial = s.au.serial) → s.withdraw.lau.clSlot = none) ∧
      ((∀ c, s.lau.clSlot = some c → c.frame.serial ≠ s.au.serial) →
        s.withdraw.lau.wdSlot = some ⟨s.au.serial, 0, none⟩) := by
  unfold State.withdraw State.placeWithdraw
  refine ⟨fun ⟨c, slot, own⟩ => ?_, fun other => ?_⟩
  · rw [if_pos (by simp [slot, own])]
  · rw [if_neg]
    simp only [Option.any_eq_true, beq_iff_eq, not_exists, not_and]
    exact other

/-- Settles O41. -/
theorem holdOffWithdrawsOrIsRefused : Obligations.HoldOffWithdrawsOrIsRefused := by
  unfold Obligations.HoldOffWithdrawsOrIsRefused
  intro s im released i
  have on := reacts_eventEnd (c := .holdOffExpiry) (by simp) s
  refine ⟨fun other => ?_, fun h holding head => ⟨fun fails => ?_, fun passes refused => ?_⟩⟩
  · rw [show direct .holdOffExpiry s = s from if_neg (by simpa [AU.isHolding] using other)] at on
    exact ⟨_, exec_eq_event released rfl, on⟩
  · have effect : direct .holdOffExpiry s = s.withdraw := by
      rw [direct_holdOff i holding head, if_neg (by simp [fails])]
    obtain ⟨closed, serial⟩ := s.withdraw_closed
    have opens := eventEnd_opens (c := .holdOffExpiry) (s := s) (effect ▸ closed)
    rw [effect] at on opens
    refine ⟨_, exec_eq_event released rfl, (State.Reacts.withdraw s).trans on, opens.not_holding, fun own c slot => ?_,
      fun other => ?_⟩
    · rcases opens with ⟨-, -, -, cl⟩ | ⟨-, -, -, f, cl, next⟩
      · rw [cl, s.withdraw_slots.1 own] at slot
        cases slot
      · rw [cl] at slot
        cases slot
        rw [next, serial]
        by_cases large : 255 < s.au.serial
        · exact .inr large
        · exact .inl (wrapInc_ne (by omega) (by decide))
    · have wd := s.withdraw_slots.2 other
      rcases opens with ⟨-, -, e, -⟩ | ⟨-, -, e, -⟩ <;> exact e.trans wd
  · have effect : direct .holdOffExpiry s =
        { s with au := { s.au with claim := .none, body := none, holdOffT := none, retryT := .started } } := by
      rw [direct_holdOff i holding head, if_pos passes]
      unfold State.grant
      rw [if_neg (by simp [refused])]
    have opens := eventEnd_opens (c := .holdOffExpiry) (s := s) (by rw [effect]; rfl)
    rw [effect] at on
    refine ⟨_, exec_eq_event released rfl, opens.not_holding, State.Reacts.trans ?_ on⟩
    exact .beside rfl rfl rfl rfl rfl

end Sys2Proof.Machine
end

section
/-! PROOFS. The grants that are taken (R32, R92, R140, R144), in events that end calm. -/

namespace Sys2Proof.Machine

/-! ### The heaters of a CLEARING unit -/

/-- A heater that is on stays on while its pantograph stays UP, where the conditions of CLEARING stand (R141). -/
theorem Reaction.heater {im : Image} {b u v : State} {p : Pan} (k : b.Calmable True im) (up : (b.pc p).state = .up)
    (unwatched : b.watched p = false) (closed : b.bi.closed = true) (m : Reaction False True u v) (h : Calm True im b u)
    (on : u.icu.heater p = true) : v.icu.heater p = true := by
  have image : u.cl.image = some im := by rw [h.cl]; exact k.image
  have same : v.icu.heaterA = u.icu.heaterA → v.icu.heaterB = u.icu.heaterB → v.icu.heater p = true := fun a b => by
    cases p
    · exact a.trans on
    · exact b.trans on
  induction m
  case abandon w => exact w.elim
  case arcPan w => exact w.elim
  case ice im' i =>
    obtain rfl := Option.some.inj (i.symm.trans image)
    rw [h.formIce_same k trivial]
    exact on
  case pass im' i =>
    rw [h.reactPass_same k trivial im']
    exact on
  case guardHeaters im' i =>
    obtain ⟨clearing, -, early⟩ := h.clearing k trivial
    have state : (u.pc p).state = .up := by
      rcases h.pcs p with same | ⟨w, -⟩
      · exact same.fields.1.trans up
      · rw [unwatched] at w; cases w
    have may : u.heaterMayRun p = true := by simp [State.heaterMayRun, clearing, state, h.closed, closed, early]
    cases p
    · exact Bool.and_eq_true_iff.mpr ⟨on, may⟩
    · exact Bool.and_eq_true_iff.mpr ⟨on, may⟩
  case severe im' i =>
    unfold State.judgeSevere
    dsimp only
    split_ifs <;> exact on
  case loadScrape im' i =>
    unfold State.loadScrape
    split
    · split_ifs <;> exact on
    · exact on
  case clear a =>
    unfold State.reportAndClear
    dsimp only
    split_ifs <;> exact on
  all_goals exact same (by simp) (by simp)

/-- The heaters at the end of an event on a good configuration: their ratings are the draw (R142). -/
theorem eventEnd_draw {c : Instr} {s : State} {im : Image} (i : (eventEnd c s).cl.image = some im) :
    (eventEnd c s).icu.draw = drawOf im (eventEnd c s).icu.heaterA (eventEnd c s).icu.heaterB := by
  have settledImage : (settled c s).cl.image = some im := by simpa [eventEnd] using i
  have icu : (eventEnd c s).icu = (settled c s).guard.icu := by simp [eventEnd]
  rw [icu, State.guard_icu settledImage]
  rfl

theorem Image.rating_le_draw (im : Image) {u : ICU} {p : Pan} (on : u.heater p = true) :
    im.rating p ≤ drawOf im u.heaterA u.heaterB := by
  cases p <;> simp only [ICU.heater] at on <;> simp [drawOf, on]

/-! ### A raise by a grant -/

section
variable {s d : State} {im : Image} {p : Pan} {collecting : Bool}

/-- A raised pantograph that the watch leaves goes through the first round as it is. -/
theorem State.pantographs_keeps (calm : ∀ q, d.Tranquil q) (raised : (d.pc p).risingOrUp = true)
    (unwatched : d.watched p = false) : d.pantographs.pc p = d.pc p := by
  rcases (State.pantographs_calmly calm).settles p with ⟨-, k⟩ | ⟨w, -⟩
  · exact k.raised raised
  · rw [unwatched] at w; cases w

section
variable (taken : s.grantTaken p collecting = true) (sensors : s.SensorsCalm) (up : s.upSensor p = false)
  (pc : ∀ q, d.pc q = if q = p then (s.pc p).raisedIn collecting else s.pc q) (ioc : d.ioc = s.ioc) (cc : d.cc = s.cc)
include taken pc

theorem raise_upCollecting (q : Pan) : (d.pc q).upCollecting = (s.pc q).upCollecting := by
  obtain ⟨-, down, -⟩ := (s.grantTaken_iff p collecting).mp taken
  rw [pc]
  split_ifs with e
  · subst e
    simp [PC.upCollecting, PC.raisedIn, down]
  · rfl

include cc in
theorem raise_unwatched : d.watched p = false := by
  obtain ⟨-, -, -, -, connection⟩ := (s.grantTaken_iff p collecting).mp taken
  cases collecting
  · simp only [Bool.false_eq_true, if_false] at connection
    simp [State.watched, raise_upCollecting taken pc, connection.1, cc, connection.2]
  · simp [State.watched, pc, PC.raisedIn]

include sensors up ioc

theorem raise_tranquil (q : Pan) : d.Tranquil q := by
  obtain ⟨-, -, -, air, -⟩ := (s.grantTaken_iff p collecting).mp taken
  intro raised
  rw [State.airOk_congr ioc, State.upSensor_congr ioc, State.downSensor_congr ioc]
  rw [pc] at raised ⊢
  split_ifs at raised ⊢ with e
  · subst e
    exact ⟨air, fun _ => up, fun x => (nomatch x), rfl⟩
  · obtain ⟨air, down, rising, low⟩ := sensors q raised
    exact ⟨air, rising, fun _ => down, low⟩

include cc

/-- A raise beside pantographs that the sensors leave alone begins a calm event. -/
theorem State.Calmable.ofRaise {ice : Prop} (i : s.cl.image = some im) (quiet : s.NoNewCause im)
    (same : d.cl = s.cl ∧ d.ds = s.ds ∧ d.pv = s.pv ∧ d.lq = s.lq)
    (phase : d.cc.phase ≠ .opening ∧ d.cc.phase ≠ .closing)
    (arcs : d.icu.arcSum = s.icu.arcSum ∧ (d.icu.advance im.tClear).arcSum = (s.icu.advance im.tClear).arcSum)
    (pass : d.icu.scrape = none ∨ (ice ∧ ∃ q, d.icu.scrape = some q ∧
      (s.wiring d.pantographs).scrapeGoesOn q = true) ∨ (¬ice ∧ ∀ p, (d.pc p).risingOrUp = false))
    (stands : ice → (s.wiring d.pantographs).IceStands im ∧ (d.cc.phase.executing = false ∨
      ∀ p, d.cc.nextPan = some p → (d.pantographs.pc p).state ≠ .fault)) :
    (s.wiring d.pantographs).Calmable ice im := by
  obtain ⟨cl, ds, pv, lq⟩ := same
  refine .ofFirst (by rw [cl]; exact i) (raise_tranquil taken sensors up pc ioc) (raise_upCollecting taken pc)
    (fun q w => ?_) (fun x => absurd x phase.1) (.inl phase.2) quiet (by rw [ds]) (by rw [pv]) lq (by rw [cc]; exact id) arcs
    pass stands
  have e : q ≠ p := by
    rintro rfl
    rw [raise_unwatched taken pc cc] at w
    cases w
  have raised := (State.watched_raised w).1
  rw [pc, if_neg e] at raised
  exact (State.downSensor_congr ioc q).trans (sensors q raised).2.1

end

/-- The pantograph of a grant goes through a calm event as the grant has left it. -/
theorem Calm.raisedIn {ice : Prop} {c : Instr} (e : direct c s = d) (pc : d.pc p = (s.pc p).raisedIn collecting)
    (calm : ∀ q, d.Tranquil q) (unwatched : d.watched p = false)
    (ends : Calm ice im (s.wiring (direct c s).pantographs) (eventEnd c s)) :
    ((s.pc p).raisedIn collecting).Same ((eventEnd c s).pc p) := by
  have base : (s.wiring (direct c s).pantographs).pc p = (s.pc p).raisedIn collecting := by
    rw [State.wiring_pc, e, State.pantographs_keeps calm (by rw [pc]; rfl) unwatched, pc]
  rw [← base]
  rcases ends.pcs p with same | ⟨w, -⟩
  · exact same
  · rw [e] at w
    rw [State.watched_first calm w] at unwatched
    cases unwatched

end

/-! ### The direct effect of a grant that is taken -/

/-- The claim has ended. -/
def State.unclaimed (s : State) : State := { s with au := { s.au with claim := .none, body := none, holdOffT := none } }

theorem direct_grant {s : State} {im : Image} {h : Head} (i : s.cl.image = some im) (holding : s.au.claim = .holding)
    (head : s.au.head = some h) (passes : s.passes im h = true) (taken : s.taken h = true) :
    direct .holdOffExpiry s = s.unclaimed.act im h := by
  rw [direct_holdOff i holding head, if_pos passes]
  exact if_pos taken

/-- A taken RAISE or SCRAPE raises its pantograph and leaves the other. -/
theorem State.act_raises (s : State) (im : Image) {h : Head} (raises : h.kind ≠ .heat) (q : Pan) :
    (s.unclaimed.act im h).pc q = if q = h.pan then (s.pc h.pan).raisedIn (h.kind == .raise) else s.pc q := by
  have pc : ∀ q, s.unclaimed.pc q = s.pc q := fun q => by cases q <;> rfl
  rw [State.act_pc, pc]
  by_cases e : h.pan = q
  · subst e; rw [if_pos ⟨raises, rfl⟩, if_pos rfl]
  · rw [if_neg fun x => e x.2, if_neg fun x => e x.symm]

/-- A taken grant ends its claim, and no claim of the same event is HOLDING. -/
theorem grant_not_holding {s : State} {im : Image} {h : Head} (effect : direct .holdOffExpiry s = s.unclaimed.act im h) :
    (eventEnd .holdOffExpiry s).au.claim ≠ .holding := by
  refine (eventEnd_opens ?_).not_holding
  rw [effect]
  unfold State.act
  split <;> simp [AU.claimOpen, State.unclaimed, State.heaterOn]

/-- Beside a pantograph that draws from the wire none is LOWERING in COLLECTING connection. -/
theorem collects_alone {s : State} {p q : Pan} (up : (s.pc p).state = .up) (one : s.OneCollecting)
    (draws : (s.pc p).disc = true ∨ (s.pc p.other).upCollecting = true) (low : (s.pc q).state = .lowering) :
    (s.pc q).disc = false := by
  have e : q = p.other := by
    by_cases same : q = p
    · rw [same, up] at low; cases low
    · revert same
      cases p <;> cases q <;> decide
  subst e
  rcases draws with own | other
  · rw [← Bool.not_eq_true]
    intro disc
    have both : (s.pc p).raisedCollecting = true ∧ (s.pc p.other).raisedCollecting = true := by
      simp [PC.raisedCollecting, PanState.raised, up, own, low, disc]
    cases p
    · exact one both
    · exact one both.symm
  · simp [PC.upCollecting, low] at other

section
variable {s : State} {im : Image} {h : Head} (released : s.released = true) (i : s.cl.image = some im)
  (holding : s.au.claim = .holding) (head : s.au.head = some h) (passes : s.passes im h = true) (taken : s.taken h = true)
  (sensors : s.SensorsCalm) (quiet : s.NoNewCause im)
include released i holding head passes taken sensors quiet

/-- A taken RAISE (R32). -/
theorem exec_raise (kind : h.kind = .raise) (up : s.upSensor h.pan = false) (pass : s.icu.scrape = none) :
    ∃ t, exec .holdOffExpiry s = .next t ∧ (t.pc h.pan).state = .rising ∧ (t.pc h.pan).disc = true ∧
      (t.pc h.pan).valve = true ∧ (t.pc h.pan).fset = 0 ∧ (t.pc h.pan).raiseT = Timer.started ∧
      (t.pc h.pan).lowering = none ∧ t.au.claim ≠ .holding := by
  have effect := direct_grant i holding head passes taken
  have ended := grant_not_holding effect
  obtain ⟨kind', p, amount⟩ := h
  obtain rfl : kind' = .raise := kind
  have phase : s.cc.phase ≠ .opening ∧ s.cc.phase ≠ .closing := by
    have permitted : s.permitted ⟨.raise, p, amount⟩ = true := (Bool.and_eq_true_iff.mp passes).1
    simp only [State.permitted, Bool.and_eq_true, Bool.or_eq_true, decide_eq_true_eq] at permitted
    obtain ⟨-, -, normal | ⟨requalify, -⟩⟩ := permitted
    · rw [normal]; decide
    · rw [requalify]; decide
  generalize e : direct .holdOffExpiry s = d at effect
  have pc : ∀ q, d.pc q = if q = p then (s.pc p).raisedIn true else s.pc q := fun q => by
    rw [effect]
    exact s.act_raises im (h := ⟨.raise, p, amount⟩) (nofun) q
  have at' : d.pc p = (s.pc p).raisedIn true := (pc p).trans (if_pos rfl)
  have rest : d.ioc = s.ioc ∧ d.cl = s.cl ∧ d.ds = s.ds ∧ d.pv = s.pv ∧ d.lq = s.lq ∧ d.cc = s.cc ∧ d.icu = s.icu := by
    rw [effect]
    simp [State.act, State.raisePan, State.unclaimed]
  obtain ⟨ioc, cl, ds, pv, lq, cc, icu⟩ := rest
  have k := State.Calmable.ofRaise (ice := False) taken sensors up pc ioc cc i quiet ⟨cl, ds, pv, lq⟩ (cc ▸ phase)
    (by rw [icu]; exact ⟨rfl, rfl⟩) (.inl (icu ▸ pass)) False.elim
  rw [← e] at k
  obtain ⟨state, disc, lowering, valve, fset, -, raiseT⟩ := ((eventEnd_calm k).raisedIn e at'
    (raise_tranquil taken sensors up pc ioc) (raise_unwatched taken pc cc)).fields
  exact ⟨_, exec_eq_event released rfl, state, disc, valve, fset, raiseT, lowering, ended⟩

/-- A taken SCRAPE (R32, R144). -/
theorem exec_scrape (kind : h.kind = .scrape) (up : s.upSensor h.pan = false) (stands : s.IceStands im)
    (streak : (s.pc h.pan).disc = true → 0 < s.lq.index →
      ¬(s.icu.mode = .auto ∧ 16 ≤ (s.icu.advance im.tClear).clearStreak)) :
    ∃ t, exec .holdOffExpiry s = .next t ∧ (t.pc h.pan).state = .rising ∧ (t.pc h.pan).disc = false ∧
      (t.pc h.pan).valve = true ∧ (t.pc h.pan).fset = 0 ∧ (t.pc h.pan).raiseT = Timer.started ∧
      t.icu.scrape = some h.pan ∧ t.au.claim ≠ .holding := by
  have effect := direct_grant i holding head passes taken
  have ended := grant_not_holding effect
  obtain ⟨kind', p, amount⟩ := h
  obtain rfl : kind' = .scrape := kind
  have grants : s.grantTaken p false = true := taken
  obtain ⟨-, down, -, -, connection⟩ := (s.grantTaken_iff p false).mp grants
  simp only [Bool.false_eq_true, if_false] at connection
  obtain ⟨other, normal⟩ := connection
  generalize e : direct .holdOffExpiry s = d at effect
  have pc : ∀ q, d.pc q = if q = p then (s.pc p).raisedIn false else s.pc q := fun q => by
    rw [effect]
    exact s.act_raises im (h := ⟨.scrape, p, amount⟩) (nofun) q
  have at' : d.pc p = (s.pc p).raisedIn false := (pc p).trans (if_pos rfl)
  have rest : d.ioc = s.ioc ∧ d.cl = s.cl ∧ d.ds = s.ds ∧ d.pv = s.pv ∧ d.lq = s.lq ∧ d.cc = s.cc ∧
      d.bi.closed = s.bi.closed ∧ d.icu = { s.icu with scrape := some p } := by
    rw [effect]
    simp [State.act, State.raisePan, State.unclaimed]
  obtain ⟨ioc, cl, ds, pv, lq, cc, closed, icu⟩ := rest
  have calm := raise_tranquil grants sensors up pc ioc
  have collects := raise_upCollecting grants pc
  have unwatched := raise_unwatched grants pc cc
  have apart : p.other ≠ p := by cases p <;> decide
  have beside : d.pc p.other = s.pc p.other := (pc _).trans (if_neg apart)
  have stays : d.pantographs.pc p.other = s.pc p.other := by
    rw [State.pantographs_keeps calm, beside]
    · rw [beside]
      simp only [PC.upCollecting, decide_eq_true_eq] at other
      simp [PC.risingOrUp, other.1]
    · simp only [PC.upCollecting, decide_eq_true_eq] at other
      simp [State.watched, beside, other.2]
  have raised : d.pantographs.pc p = (s.pc p).raisedIn false := by
    rw [State.pantographs_keeps calm (by rw [at']; rfl) unwatched, at']
  have first : ∀ q, (d.pantographs.pc q).upCollecting = (s.pc q).upCollecting := fun q =>
    (State.pantographs_upCollecting calm q).trans (collects q)
  have any : (s.wiring d.pantographs).anyUpCollecting = s.anyUpCollecting :=
    State.anyUpCollecting_congr fun q => by rw [State.wiring_pc, first]
  have image : d.pantographs.cl.image = some im := by simpa [cl] using i
  have rest : (s.wiring d.pantographs).icu.state = s.icu.state ∧ (s.wiring d.pantographs).icu.mode = s.icu.mode ∧
      ¬(s.icu.mode = .auto ∧ 16 ≤ (s.wiring d.pantographs).icu.clearStreak) := by
    obtain ⟨-, -, -, low⟩ := stands
    rw [State.wiring_of_upCollecting first]
    split_ifs with changed
    · have disc : (s.pc p).disc = true := by
        rw [← Bool.not_eq_false]
        intro off
        rw [wiringChanged_eq_false first] at changed
        · cases changed
        · intro q
          by_cases e : q = p
          · subst e; rw [raised, off]; rfl
          · have : q = p.other := by cases p <;> cases q <;> first | rfl | exact absurd rfl e
            subst this; rw [stays]
      rw [State.abandonWindow_icu image]
      split_ifs with holds
      · refine ⟨by simp [icu], by simp [icu], ?_⟩
        have same : (d.pantographs.icu.advance im.tClear).clearStreak = (s.icu.advance im.tClear).clearStreak := by
          simp only [State.pantographs_frame, icu]
          unfold ICU.advance ICU.stepStreak ICU.formSum ICU.ringSum
          dsimp only
          split_ifs <;> rfl
        rw [same]
        exact streak disc (by simpa [lq] using holds)
      · exact ⟨by simp [icu], by simp [icu], by simpa [icu] using low⟩
    · exact ⟨by simp [icu], by simp [icu], by simpa [icu] using low⟩
  obtain ⟨state, mode, low⟩ := rest
  obtain ⟨clearing, off, hold, -⟩ := stands
  have goes : (s.wiring d.pantographs).scrapeGoesOn p = true := by
    simp [State.scrapeGoesOn, state, clearing, State.wiring_pc, stays, other, raised, cc, normal, PC.risingOrUp, PC.raisedIn]
  have k := State.Calmable.ofRaise (ice := True) grants sensors up pc ioc cc i quiet ⟨cl, ds, pv, lq⟩
    (by rw [cc, normal]; exact ⟨by decide, by decide⟩)
    (by
      rw [icu]
      unfold ICU.advance ICU.stepStreak ICU.formSum ICU.ringSum
      dsimp only
      split_ifs <;> exact ⟨rfl, rfl⟩)
    (.inr (.inl ⟨trivial, p, by rw [icu], goes⟩))
    (fun _ => ⟨⟨state.trans clearing, by simpa [State.iceOff, mode, State.cold, State.warm, ioc] using off,
      by simpa [State.iceHold, cc, closed, any] using hold, mode ▸ low⟩, .inl (by rw [cc, normal]; rfl)⟩)
  rw [← e] at k
  have ends := eventEnd_calm k
  obtain ⟨state', disc, lowering, valve, fset, -, raiseT⟩ := (ends.raisedIn e at' calm unwatched).fields
  refine ⟨_, exec_eq_event released rfl, state', disc, valve, fset, raiseT, ?_, ended⟩
  rcases ends.scrape with same | ⟨no, -⟩
  · rw [same, e, State.wiring_scrape]
    simp [icu]
  · exact absurd trivial no

/-- A taken HEAT (R140, R142). -/
theorem exec_heat (kind : h.kind = .heat) (stands : s.IceStands im) (held : s.HoldOpenLaw) (one : s.OneCollecting)
    (pass : ∀ q, s.icu.scrape = some q →
      (s.pc q).risingOrUp = true ∧ (s.pc q.other).upCollecting = true ∧ s.cc.phase = .normal)
    (draws : (s.pc h.pan).disc = true ∨ ((s.pc h.pan.other).upCollecting = true ∧ s.cc.phase = .normal))
    (next : ∀ p, s.cc.nextPan = some p → (s.pc p).state ≠ .fault ∧ ((s.pc p).state = .lowering → s.downSensor p = false)) :
    ∃ t, exec .holdOffExpiry s = .next t ∧ t.icu.heater h.pan = true ∧
      t.icu.draw = drawOf im t.icu.heaterA t.icu.heaterB ∧ im.rating h.pan ≤ t.icu.draw ∧ t.au.claim ≠ .holding := by
  have effect := direct_grant i holding head passes taken
  have ended := grant_not_holding effect
  obtain ⟨kind', p, amount⟩ := h
  obtain rfl : kind' = .heat := kind
  have heats : s.heatTaken p = true := taken
  simp only [State.heatTaken, Bool.and_eq_true, decide_eq_true_eq, Option.isNone_iff_eq_none] at heats
  obtain ⟨⟨⟨⟨⟨clearing, up⟩, low⟩, -⟩, shut⟩, early⟩ := heats
  generalize e : direct .holdOffExpiry s = d at effect
  have pc : ∀ q, d.pc q = s.pc q := fun q => by
    rw [effect]
    cases q <;> rfl
  have rest : d.ioc = s.ioc ∧ d.cl = s.cl ∧ d.ds = s.ds ∧ d.pv = s.pv ∧ d.lq = s.lq ∧ d.cc = s.cc ∧
      d.bi.closed = s.bi.closed ∧ d.icu.state = s.icu.state ∧ d.icu.mode = s.icu.mode ∧
      d.icu.clearStreak = s.icu.clearStreak ∧ d.icu.scrape = s.icu.scrape ∧ d.icu.heater p = true := by
    rw [effect]
    refine ⟨rfl, rfl, rfl, rfl, rfl, rfl, rfl, rfl, rfl, rfl, rfl, ?_⟩
    cases p <;> simp [State.act, State.heaterOn, ICU.heater]
  have arcs : d.icu.arcSum = s.icu.arcSum ∧ (d.icu.advance im.tClear).arcSum = (s.icu.advance im.tClear).arcSum := by
    rw [effect]
    change (s.icu.arcSum = s.icu.arcSum ∧ _)
    refine ⟨rfl, ?_⟩
    unfold State.act State.heaterOn State.unclaimed ICU.advance ICU.stepStreak ICU.formSum ICU.ringSum
    dsimp only
    split_ifs <;> rfl
  obtain ⟨ioc, cl, ds, pv, lq, cc, closed, state, mode, streak, scrape, on⟩ := rest
  have calm : ∀ q, d.Tranquil q := fun q raised => by
    rw [pc] at raised ⊢
    obtain ⟨air, down, rising, low⟩ := sensors q raised
    rw [State.airOk_congr ioc, State.upSensor_congr ioc, State.downSensor_congr ioc]
    exact ⟨air, rising, fun _ => down, low⟩
  have first : ∀ q, (d.pantographs.pc q).upCollecting = (s.pc q).upCollecting := fun q => by
    rw [State.pantographs_upCollecting calm, pc]
  have disc : ∀ q, (d.pantographs.pc q).disc = (s.pc q).disc := fun q => by
    rcases (State.pantographs_calmly calm).settles q with ⟨-, k⟩ | ⟨-, vents⟩
    · generalize d.pantographs.pc q = c at k
      cases k
      case stays => rw [pc]
      case down low' _ disc => rw [disc, pc]
      case fault acts low' sensor _ disc =>
        rw [disc]
        rw [pc] at low'
        rcases low' with low' | fault
        · exact (collects_alone up one (draws.imp_right And.left) low').symm
        · exact (held.fault q ((State.acts_congr cl q).symm.trans acts) fault
            ((State.downSensor_congr ioc q).symm.trans sensor)).1.symm
    · rw [vents, pc]
      simp
  have unwired : s.wiring d.pantographs = d.pantographs := by
    rw [State.wiring_of_upCollecting first, wiringChanged_eq_false first disc]
    rfl
  have unwatched : d.watched p = false := by
    rcases draws with own | ⟨other, normal⟩
    · simp [State.watched, pc, own]
    · simp [State.watched, pc, other, cc, normal]
  have goes : ∀ q, s.icu.scrape = some q → (s.wiring d.pantographs).scrapeGoesOn q = true := fun q runs => by
    obtain ⟨raised, other, normal⟩ := pass q runs
    have kept : d.pantographs.pc q = s.pc q := by
      rw [State.pantographs_keeps calm (by rw [pc]; exact raised), pc]
      simp [State.watched, pc, other, cc, normal]
    simp [unwired, State.scrapeGoesOn, state, clearing, first, other, cc, normal, kept, raised]
  obtain ⟨-, off, hold, short⟩ := stands
  have any : d.pantographs.anyUpCollecting = s.anyUpCollecting := State.anyUpCollecting_congr first
  have k : (s.wiring (direct .holdOffExpiry s).pantographs).Calmable True im := by
    rw [e]
    refine .ofFirst (by rw [cl]; exact i) calm (fun q => by rw [pc]) (fun q w => ?_) (fun x => ?_) (.inl fun x => ?_) quiet
      (by rw [ds]) (by rw [pv]) lq (by rw [cc]; exact id) arcs ?_ fun _ => ⟨?_, .inr fun q n => ?_⟩
    · have raised := (State.watched_raised w).1
      rw [pc] at raised
      exact (State.downSensor_congr ioc q).trans (sensors q raised).2.1
    · rw [← cc, x] at early; cases early
    · rw [← cc, x] at early; cases early
    · cases runs : s.icu.scrape with
      | none => exact .inl (scrape.trans runs)
      | some q => exact .inr (.inl ⟨trivial, q, scrape.trans runs, goes q runs⟩)
    · rw [unwired]
      exact ⟨by simp [state, clearing], by simpa [State.iceOff, mode, State.cold, State.warm, ioc] using off,
        by simpa [State.iceHold, cc, closed, any] using hold, by simpa [mode, streak] using short⟩
    · obtain ⟨sound, low⟩ := next q (cc ▸ n)
      rcases (State.pantographs_calmly calm).settles q with ⟨-, k⟩ | ⟨-, vents⟩
      · generalize d.pantographs.pc q = c at k ⊢
        cases k
        case stays => rw [pc]; exact sound
        case down _ is _ => rw [is]; decide
        case fault _ low' sensor _ _ =>
          rw [pc] at low'
          rcases low' with low' | fault
          · rw [State.downSensor_congr ioc, low low'] at sensor
            cases sensor
          · exact absurd fault sound
      · rw [vents]; exact nofun
  have base : (s.wiring d.pantographs).pc p = s.pc p := by
    rw [State.wiring_pc, State.pantographs_keeps calm (by rw [pc]; simp [PC.risingOrUp, up]) unwatched, pc]
  have heated : (eventEnd .holdOffExpiry s).icu.heater p = true := by
    refine eventEnd_calmly (Law := fun u => u.icu.heater p = true) k (fun u v m h on => m.heater k ?_ ?_ ?_ h on) ?_
    · rw [e, base]; exact up
    · rw [e, ← Bool.not_eq_true]
      intro w
      rw [State.watched_first calm w] at unwatched
      cases unwatched
    · rw [e]; simpa [closed] using shut
    · rw [e, unwired]; simpa using on
  have image : (eventEnd .holdOffExpiry s).cl.image = some im := by
    rw [(moves_eventEnd .holdOffExpiry s).cl, e, cl]; exact i
  have draw := eventEnd_draw image
  exact ⟨_, exec_eq_event released rfl, heated, draw, draw ▸ im.rating_le_draw heated, ended⟩

end

/-- Settles O42. -/
theorem grantsRaiseOrHeat : Obligations.GrantsRaiseOrHeat := by
  unfold Obligations.GrantsRaiseOrHeat
  intro s im h released i holding head passes taken sensors quiet
  exact ⟨exec_raise released i holding head passes taken sensors quiet,
    fun kind up _ => exec_scrape released i holding head passes taken sensors quiet kind up,
    exec_heat released i holding head passes taken sensors quiet⟩

end Sys2Proof.Machine
end

section
/-! PROOFS. The scrape pass with its countdown and its cooldown through an event (R144 to R146). -/

namespace Sys2Proof.Machine

/-! ### The pass through the reactions -/

/-- The scrape pass with its two countdowns. -/
def ICU.pass (u : ICU) : Option Pan × Option Nat × Option Nat := (u.scrape, u.scrapeCount, u.cooldown)

/-- What the reactions do to a pass: they leave it, end it with the whole cooldown, or load its countdown. -/
def ICU.PassGoes (im : Image) (u v : ICU) : Prop :=
  v.pass = u.pass ∨ (u.scrape ≠ none ∧ v.pass = (none, none, im.cooldownPulses)) ∨
    (u.scrape ≠ none ∧ u.scrapeCount = none ∧ v.scrape = u.scrape ∧ v.cooldown = u.cooldown)

theorem State.endScrape_pass (s : State) (im : Image) (p : Pan) :
    (s.endScrape im p).icu.pass = (none, none, im.cooldownPulses) := rfl

theorem State.leaveClearing_pass (s : State) (im : Image) : s.icu.PassGoes im (s.leaveClearing im).icu := by
  have off : (((s.dropWant .scrape).dropWant .heat).heatersOff).icu.pass = s.icu.pass := by
    simp [State.heatersOff, ICU.pass]
  unfold State.leaveClearing State.endPass
  split
  · rename_i p runs
    refine .inr (.inl ⟨?_, State.endScrape_pass _ _ _⟩)
    have same : s.icu.scrape = some p := (congrArg Prod.fst off).symm.trans runs
    rw [same]
    exact nofun
  · exact .inl off

theorem State.formIce_pass (s : State) (im : Image) : s.icu.PassGoes im (s.formIce im).icu := by
  have left := s.leaveClearing_pass im
  unfold State.formIce
  dsimp only
  split_ifs
  · exact left
  · exact left
  · exact .inl rfl
  · exact .inl rfl

theorem State.reactPass_pass (s : State) (im : Image) : s.icu.PassGoes im (s.reactPass im).icu := by
  unfold State.reactPass
  split
  · rename_i p runs
    split_ifs
    · exact .inl rfl
    · exact .inr (.inl ⟨by rw [runs]; exact nofun, rfl⟩)
  · exact .inl rfl

theorem State.loadScrape_pass (s : State) (im : Image) : s.icu.PassGoes im (s.loadScrape im).icu := by
  unfold State.loadScrape
  split
  · rename_i p runs
    split_ifs with load
    · exact .inr (.inr ⟨by rw [runs]; exact nofun, load.2, rfl, rfl⟩)
    · exact .inl rfl
  · exact .inl rfl

theorem State.abandonWindow_pass (s : State) : s.abandonWindow.icu.pass = s.icu.pass := by
  unfold State.abandonWindow
  dsimp only
  split <;> [split_ifs; skip] <;> simp [ICU.pass]

theorem Move.passGoes {s t : State} (m : Move s t) :
    t.icu.pass = s.icu.pass ∨ ∃ im, s.cl.image = some im ∧ s.icu.PassGoes im t.icu := by
  induction m
  case ice im i => exact .inr ⟨im, i, s.formIce_pass im⟩
  case pass im i => exact .inr ⟨im, i, s.reactPass_pass im⟩
  case loadScrape im i => exact .inr ⟨im, i, s.loadScrape_pass im⟩
  case abandon => exact .inl s.abandonWindow_pass
  case arcPan => exact .inl rfl
  case guardHeaters => exact .inl rfl
  case severe =>
    unfold State.judgeSevere
    dsimp only
    split_ifs <;> exact .inl rfl
  case clear =>
    unfold State.reportAndClear
    dsimp only
    split_ifs <;> exact .inl rfl
  all_goals exact .inl (by simp [ICU.pass])

/-- Without a pass the reactions leave both countdowns. -/
theorem Moves.noPass {s t : State} (m : Moves s t) (no : s.icu.scrape = none) : t.icu.pass = s.icu.pass := by
  refine m.keeps (Law := fun u => u.icu.pass = s.icu.pass) (fun u v step same => ?_) rfl
  have none' : u.icu.scrape = none := (congrArg Prod.fst same).trans no
  rcases Move.passGoes step with stands | ⟨im, -, stands | ⟨runs, -⟩ | ⟨runs, -⟩⟩
  · exact stands.trans same
  · exact stands.trans same
  · exact absurd none' runs
  · exact absurd none' runs

/-- A pass whose countdown runs goes on, or ends with the whole cooldown. -/
theorem Moves.pass {im : Image} {s t : State} {p : Pan} {n : Nat} (m : Moves s t) (i : s.cl.image = some im)
    (runs : s.icu.scrape = some p) (count : s.icu.scrapeCount = some n) :
    (t.icu.scrape = some p ∧ t.icu.scrapeCount = some n) ∨ t.icu.pass = (none, none, im.cooldownPulses) := by
  refine (m.keeps (Law := fun u => u.cl.image = some im ∧
    ((u.icu.scrape = some p ∧ u.icu.scrapeCount = some n) ∨ u.icu.pass = (none, none, im.cooldownPulses))) ?_
    ⟨i, .inl ⟨runs, count⟩⟩).2
  intro u v step law
  obtain ⟨i, law⟩ := law
  refine ⟨by rw [step.cl]; exact i, ?_⟩
  have stands : v.icu.pass = u.icu.pass →
      (v.icu.scrape = some p ∧ v.icu.scrapeCount = some n) ∨ v.icu.pass = (none, none, im.cooldownPulses) := fun stands => by
    rcases law with ⟨runs, count⟩ | ended
    · have a : v.icu.scrape = u.icu.scrape := congrArg Prod.fst stands
      have b : v.icu.scrapeCount = u.icu.scrapeCount := congrArg (fun x => x.2.1) stands
      exact .inl ⟨a.trans runs, b.trans count⟩
    · exact .inr (stands.trans ended)
  rcases Move.passGoes step with same | ⟨im', i', same | ⟨-, ends⟩ | ⟨runs, loads, -⟩⟩
  · exact stands same
  · exact stands same
  · obtain rfl := Option.some.inj (i'.symm.trans i)
    exact .inr ends
  · rcases law with ⟨-, count⟩ | ended
    · rw [loads] at count; cases count
    · exact absurd (congrArg Prod.fst ended) runs

theorem pass_ended {im : Image} {u : ICU} (h : u.pass = (none, none, im.cooldownPulses)) :
    u.scrape = none ∧ u.scrapeCount = none ∧ u.cooldown = im.cooldownPulses :=
  ⟨congrArg Prod.fst h, congrArg (fun x => x.2.1) h, congrArg (fun x => x.2.2) h⟩

/-! ### A pantograph on its way down -/

/-- A LOWERING pantograph whose DOWN sensor stays negated is LOWERING with VALVE off at the end of an event. -/
theorem eventEnd_lowering {c : Instr} {s : State} {p : Pan} (low : ((direct c s).pc p).state = .lowering)
    (off : ((direct c s).pc p).valve = false) (sensor : (direct c s).downSensor p = false) :
    ((eventEnd c s).pc p).state = .lowering ∧ ((eventEnd c s).pc p).valve = false := by
  have steady : (direct c s).Steady p := .inr ⟨sensor, fun raised => by simp [PC.risingOrUp, low] at raised⟩
  refine ⟨?_, ?_⟩
  · have eases := ((moves_eventEnd c s).eases steady).1
    refine eases.keeps (Law := fun x => x.1.state = .lowering) (fun x y one law => ?_) low
    rcases one.state with e | ⟨-, rising, -⟩ | ⟨-, low⟩
    · exact e.trans law
    · rw [law] at rising; cases rising
    · exact low
  · rw [← Bool.not_eq_true]
    intro on
    have := (drifts_eventEnd c s p).valve on
    rw [off] at this
    cases this

/-! ### A pulse at the countdowns -/

theorem State.countPulse_icu (s : State) : s.countPulse.icu = s.icu := by simp

/-- What a pulse makes of the pass before it counts at its countdown (R146). -/
theorem pulse_pass {s t : State} (h : t.icu = s.icu) :
    t.countCooldown.icu.scrape = s.icu.scrape ∧ t.countCooldown.icu.scrapeCount = s.icu.scrapeCount ∧
      t.countCooldown.icu.cooldown = s.icu.cooldown.bind fun n => if n ≤ 1 then none else some (n - 1) := by
  unfold State.countCooldown
  rw [h]
  cases cooldown : s.icu.cooldown with
  | none => simp [h, cooldown]
  | some n => exact ⟨by simp, by simp, rfl⟩

theorem State.countScrape_none {s : State} (im : Image) (h : s.icu.scrapeCount = none) : s.countScrape im = s := by
  unfold State.countScrape
  rw [h]

theorem State.countScrape_last {s : State} (im : Image) {p : Pan} {n : Nat} (runs : s.icu.scrape = some p)
    (count : s.icu.scrapeCount = some n) (last : n ≤ 1) : s.countScrape im = s.endScrape im p := by
  unfold State.countScrape
  simp only [count, runs, if_pos last]

theorem State.countScrape_more {s : State} (im : Image) {n : Nat} (count : s.icu.scrapeCount = some n) (more : 2 ≤ n) :
    s.countScrape im = { s with icu := { s.icu with scrapeCount := some (n - 1) } } := by
  unfold State.countScrape
  simp only [count]
  rw [if_neg (by omega)]

/-- Settles O51. The countdowns move in the direct effect; the reactions leave them, or end the pass. -/
theorem scrapePassEndsInTheCooldown : Obligations.ScrapePassEndsInTheCooldown := by
  unfold Obligations.ScrapePassEndsInTheCooldown
  refine ⟨fun s im p n released i runs count => ?_, fun s released no => ?_, fun s im rising us released i edge later => ?_⟩
  · have effect : direct .scrapeCountdownEnd s = s.endScrape im p := by
      change s.ifGood (fun im t => t.scrapeEnds im) = _
      rw [State.ifGood_of_some (s := s) i]
      unfold State.scrapeEnds
      simp only [runs, count]
    have moves := moves_eventEnd .scrapeCountdownEnd s
    rw [effect] at moves
    obtain ⟨scrape, stopped, cooldown⟩ := pass_ended ((moves.noPass rfl).trans
      (s.endScrape_pass im p))
    refine ⟨_, exec_eq_event released rfl, scrape, stopped, cooldown, fun acts raised low disc sensor => ?_⟩
    have vents : (s.endScrape im p).pc p = (s.pc p).vent := by
      have soft : (s.endScrape im p).pc p = (s.softLower p).pc p := by cases p <;> rfl
      rw [soft, State.softLower_pc, if_pos acts]
      simp [PC.softLowered, raised, low, disc]
    refine eventEnd_lowering ?_ ?_ ?_ <;> rw [effect]
    · rw [vents]; rfl
    · rw [vents]; rfl
    · exact (State.downSensor_congr (by simp [State.endScrape]) p).trans sensor
  · have on := reacts_eventEnd (c := .cooldownEnd) (by simp) s
    have moves := moves_eventEnd .cooldownEnd s
    refine ⟨_, exec_eq_event released rfl, congrArg (fun x => x.2.2) (moves.noPass no), State.Reacts.trans ?_ on⟩
    exact .beside rfl rfl rfl rfl rfl
  · have effect := direct_pulse i ((s.isPulse_iff rising us).mpr ⟨edge, later⟩)
    have moves := moves_eventEnd (.odometerPulse rising us) s
    rw [effect] at moves
    have icu : (s.odoTaken im us).countPulse.icu = s.icu := (State.countPulse_icu _).trans rfl
    have image : (s.odoTaken im us).countPulse.countCooldown.cl.image = some im := by
      simpa [State.odoTaken] using i
    obtain ⟨scrape, counts, cooldown⟩ := pulse_pass icu
    generalize (s.odoTaken im us).countPulse.countCooldown = t at moves image scrape counts cooldown
    refine ⟨_, exec_eq_event released rfl, fun p n runs count last => ?_, fun p n runs count more => ?_, fun no stopped => ?_⟩
    · rw [State.countScrape_last im (scrape.trans runs) (counts.trans count) last] at moves
      exact pass_ended ((moves.noPass rfl).trans (t.endScrape_pass im p))
    · rw [State.countScrape_more im (counts.trans count) more] at moves
      exact (moves.pass image (scrape.trans runs) rfl).imp_right pass_ended
    · rw [State.countScrape_none im (counts.trans stopped)] at moves
      have ends : (eventEnd (.odometerPulse rising us) s).icu.cooldown = _ :=
        (congrArg (fun x => x.2.2) (moves.noPass (scrape.trans no))).trans cooldown
      exact ⟨fun n running => by rw [ends, running]; rfl, fun idle => by rw [ends, idle]; rfl⟩

end Sys2Proof.Machine
end

section
/-! PROOFS. Late conflict (R95 to R97): its condition, its grace timers and the soft lowering that it ends in. -/

namespace Sys2Proof.Machine

/-! ### The grace timers and the marks -/

/-- What the Admission Unit keeps of late conflict: the grace timers and the marks. -/
def AU.late (a : AU) : Timer × Timer × Bool × Bool := (a.graceA, a.graceB, a.markA, a.markB)

/-- The mark of a pantograph lowered for late conflict (R97). -/
def AU.mark (a : AU) : Pan → Bool
  | .a => a.markA
  | .b => a.markB

theorem AU.grace_congr {a b : AU} (h : b.late = a.late) (p : Pan) : b.grace p = a.grace p := by
  simp only [AU.late, Prod.mk.injEq] at h
  obtain ⟨ga, gb, -⟩ := h
  cases p
  · exact ga
  · exact gb

theorem AU.mark_congr {a b : AU} (h : b.late = a.late) (p : Pan) : b.mark p = a.mark p := by
  simp only [AU.late, Prod.mk.injEq] at h
  obtain ⟨-, -, ma, mb⟩ := h
  cases p
  · exact ma
  · exact mb

theorem AU.late_congr {a b : AU} (h : b = a) : b.late = a.late := by rw [h]

/-- What the Link Access Unit keeps of its STATUS: the slot, the gap and the countdown. -/
def LAU.schedule (l : LAU) : Option (Slot StatusFrame) × Timer × Timer := (l.stSlot, l.gapT, l.statusT)

/-- What the reactions leave aside: late conflict, and the STATUS but for its pending mark. -/
def State.aside (s : State) : (Timer × Timer × Bool × Bool) × (Option (Slot StatusFrame) × Timer × Timer) :=
  (s.au.late, s.lau.schedule)

theorem State.late_of_aside {s t : State} (h : t.aside = s.aside) : t.au.late = s.au.late := congrArg Prod.fst h

theorem State.schedule_of_aside {s t : State} (h : t.aside = s.aside) : t.lau.schedule = s.lau.schedule :=
  congrArg Prod.snd h

theorem State.aside_congr {s t : State} (au : t.au = s.au) (lau : t.lau = s.lau) : t.aside = s.aside := by
  rw [State.aside, State.aside, au, lau]

@[simp] theorem State.withdraw_aside (s : State) : s.withdraw.aside = s.aside := by
  unfold State.withdraw State.placeWithdraw
  split_ifs <;> rfl

@[simp] theorem State.dropWant_aside (s : State) (k : ClaimKind) : (s.dropWant k).aside = s.aside := by
  have gone : ∀ t : State, t.aside = s.aside →
      (if s.au.claims k then t.withdraw else t).aside = s.aside := by
    intro t same
    split_ifs
    · rw [State.withdraw_aside, same]
    · exact same
  unfold State.dropWant
  cases k <;> exact gone _ rfl

@[simp] theorem State.placeRaise_aside (s : State) (w : RaiseWant) : (s.placeRaise w).aside = s.aside := by
  unfold State.placeRaise
  split_ifs <;> rfl

@[simp] theorem State.placeScrape_aside (s : State) (p : Pan) : (s.placeScrape p).aside = s.aside := by
  unfold State.placeScrape
  split_ifs <;> rfl

@[simp] theorem State.placeHeat_aside (s : State) (w : HeatWant) : (s.placeHeat w).aside = s.aside := by
  unfold State.placeHeat
  split_ifs <;> rfl

@[simp] theorem State.reactRaise_aside (s : State) (im : Image) : (s.reactRaise im).aside = s.aside := by
  obtain ⟨t, e, same⟩ : ∃ t : State, (if s.raiseBarred && s.au.raise.isSome then s.dropWant .raise else s) = t ∧
      t.aside = s.aside := by
    refine ⟨_, rfl, ?_⟩
    split_ifs <;> simp
  unfold State.reactRaise
  rw [e]
  dsimp only
  split
  · split <;> split_ifs <;> simp [same]
  · exact same

@[simp] theorem State.reactScrape_aside (s : State) (im : Image) : (s.reactScrape im).aside = s.aside := by
  unfold State.reactScrape
  split <;> split_ifs <;> simp

@[simp] theorem State.formHeat_aside (s : State) (im : Image) : (s.formHeat im).aside = s.aside := by
  unfold State.formHeat
  split <;> split_ifs <;> simp

@[simp] theorem State.formIce_aside (s : State) (im : Image) : (s.formIce im).aside = s.aside := by
  have left : (s.leaveClearing im).aside = s.aside := by
    have off : (s.leaveClearing im).aside = ((s.dropWant .scrape).dropWant .heat).aside :=
      State.aside_congr (by simp [State.leaveClearing]) (by simp [State.leaveClearing])
    rw [off, State.dropWant_aside, State.dropWant_aside]
  unfold State.formIce
  dsimp only
  split_ifs
  · exact left
  · exact left
  · rfl
  · rfl

@[simp] theorem State.testFirst_aside (s : State) (im : Image) : (s.testFirst im).aside = s.aside := by
  unfold State.testFirst
  split
  · split_ifs <;> rfl
  · rfl

@[simp] theorem State.claimTest_aside (s : State) (im : Image) : (s.claimTest im).aside = s.aside := by
  obtain ⟨t, e, same⟩ : ∃ t : State,
      ({ s with au := { s.au with retestT := if s.au.noWants then none else .started } } : State) = t ∧
        t.aside = s.aside := ⟨_, rfl, rfl⟩
  unfold State.claimTest
  rw [e]
  dsimp only
  split
  · split
    · split_ifs <;> simp [same]
    · exact same
  · simp [same]

/-- The reactions before the end of the event leave late conflict and the STATUS, but that a mark goes in DOWN and FAULT. -/
theorem Reaction.aside {w : Prop} {s t : State} (m : Reaction w False s t) : t.aside = s.aside ∨ t = s.clearMarks := by
  induction m
  case conflict x _ _ | test x _ _ | report x => exact x.elim
  case marks => exact .inr rfl
  case raise im _ => exact .inl (s.reactRaise_aside im)
  case scrape im _ => exact .inl (s.reactScrape_aside im)
  case heat im _ => exact .inl (s.formHeat_aside im)
  case ice im _ => exact .inl (s.formIce_aside im)
  case profile => exact .inl rfl
  case clear a =>
    refine .inl ?_
    unfold State.reportAndClear State.clearToggle State.placeRecord
    dsimp only
    split_ifs <;> rfl
  all_goals exact .inl (State.aside_congr (by simp) (by simp))

theorem Reactions.graces {w : Prop} {s t : State} (m : Reactions w False s t) (p : Pan) :
    t.au.grace p = s.au.grace p := by
  induction m with
  | refl => rfl
  | tail _ k ih =>
    rcases k.aside with same | rfl
    · rw [AU.grace_congr (State.late_of_aside same), ih]
    · rw [← ih]
      cases p <;> rfl

@[simp] theorem State.claimSent_late (s : State) (n : Nat) : (s.claimSent n).au.late = s.au.late := by
  unfold State.claimSent
  split_ifs <;> rfl

@[simp] theorem State.claimDiscarded_late (s : State) (n : Nat) : (s.claimDiscarded n).au.late = s.au.late := by
  unfold State.claimDiscarded
  split_ifs <;> rfl

@[simp] theorem State.discard_late (s : State) (a : Attempt) : (s.discard a).au.late = s.au.late := by
  unfold State.discard
  dsimp only
  split
  · rw [State.claimDiscarded_late]; simp
  · simp

@[simp] theorem State.attemptEnds_late (s : State) : s.attemptEnds.au.late = s.au.late := by
  unfold State.attemptEnds
  split
  · dsimp only
    split
    · rw [State.claimSent_late]
    · rfl
  · rfl

@[simp] theorem State.attemptFails_late (s : State) : s.attemptFails.au.late = s.au.late := by
  unfold State.attemptFails
  dsimp only
  split
  · split_ifs
    · rw [State.discard_late]
    · rfl
  · rfl

@[simp] theorem State.holdOffEnd_late (s : State) (im : Image) : (s.holdOffEnd im).au.late = s.au.late := by
  have acts : ∀ (t : State) (h : Head), (t.act im h).au.late = t.au.late := by
    intro t h
    unfold State.act State.raisePan State.heaterOn State.setPc
    dsimp only
    split
    · cases h.pan <;> rfl
    · cases h.pan <;> rfl
    · rfl
  unfold State.holdOffEnd State.grant
  split
  · split_ifs
    · rw [acts]; rfl
    · rfl
    · exact State.late_of_aside s.withdraw_aside
  · rfl

/-- Only its own expiry touches a grace timer directly. -/
theorem direct_late {c : Instr} (h : ∀ p, c ≠ .graceTimerExpiry p) (s : State) : (direct c s).au.late = s.au.late := by
  have k := direct_acts c s
  generalize direct c s = d at k ⊢
  induction k
  case conflict p _ => exact absurd rfl (h p)
  case endRetry => rfl
  all_goals simp

theorem direct_grace {c : Instr} {p : Pan} (h : c ≠ .graceTimerExpiry p) (s : State) :
    (direct c s).au.grace p = s.au.grace p := by
  by_cases k : ∃ q, c = .graceTimerExpiry q
  · obtain ⟨q, rfl⟩ := k
    have other : p ≠ q := fun e => h (e ▸ rfl)
    have au : (s.softLower q).au = s.au := by simp
    dsimp only [direct]
    split_ifs
    · unfold State.resolveConflict
      cases p <;> cases q
      case a.a | b.b => exact absurd rfl other
      all_goals simp [AU.grace]
    · rfl
  · exact AU.grace_congr (direct_late (fun q e => k ⟨q, e⟩) s) p

/-! ### The evaluation at the end of the event -/

theorem State.lateConflict_congr {s t : State} {im : Image} {p : Pan} (checked : (t.pc p).checked = (s.pc p).checked)
    (disc : (t.pc p).disc = (s.pc p).disc) (profile : t.au.profile = s.au.profile)
    (peers : t.peerPans im = s.peerPans im) (view : t.ioc.view = s.ioc.view) (address : t.cl.address = s.cl.address) :
    t.lateConflict im p = s.lateConflict im p := by
  simp [State.lateConflict, State.limits, State.ownSeen, State.lead, checked, disc, profile, peers, view, address]

theorem State.peerPans_congr {s t : State} (im : Image) (table : t.pv.table = s.pv.table)
    (view : t.ioc.view = s.ioc.view) : t.peerPans im = s.peerPans im := by
  simp [State.peerPans, State.peerPan, table, view]

theorem State.older_peerPans (s : State) (im : Image) : s.older.peerPans im = s.peerPans im := by
  have entry : ∀ e : Entry, s.older.entryPans im e.older = s.entryPans im e := by
    rintro ⟨_, _, _, _, _, r | k⟩
    · simp [State.entryPans, State.peerPan, Entry.older, Entry.mapRoof, RoofData.pan, State.older]
    · rfl
  have table : s.older.pv.table = s.pv.table.map Entry.older := rfl
  rw [State.peerPans_eq_flatMap, State.peerPans_eq_flatMap, table, List.flatMap_map]
  simp [entry]

theorem State.formHeatWant_aside (before s : State) : (before.formHeatWant s).aside = s.aside := by
  unfold State.formHeatWant State.ifGood State.reactHeat
  split
  · dsimp only
    split_ifs <;> simp
  · rfl

/-- The end of an event on a good configuration evaluates late conflict as it leaves it (R96). -/
theorem finish_grace (before s : State) (test ask : Bool) (p : Pan) {im : Image} (image : s.cl.image = some im) :
    (finish before test ask s).au.grace p =
      graceAfter ((finish before test ask s).lateConflict im p) (s.au.grace p) := by
  obtain ⟨u, e⟩ : ∃ u, before.evaluated s = u := ⟨_, rfl⟩
  have fields : u.cl = s.cl ∧ u.ioc = s.ioc ∧ u.pv = s.pv ∧ u.pc p = s.guard.pc p := by
    rw [← e]
    cases p <;> simp [State.evaluated, State.pc]
  obtain ⟨cl, ioc, pv, pc⟩ := fields
  have kept : u.aside = s.aside := by
    rw [← e]
    exact (State.formHeatWant_aside before s.guard).trans (State.aside_congr (by simp) (by simp))
  have end_ : ∃ t : State, finish before test ask s = before.report ask t.formAlerts ∧
      t.aside = (u.evaluateConflict im).aside ∧ t.au.standing = u.au.standing := by
    refine ⟨_, by rw [finish_eq, e], ?_⟩
    rw [State.admission, State.ifGood_of_some (by rw [cl, image])]
    dsimp only
    split_ifs
    · exact ⟨State.claimTest_aside _ im, State.claimTest_standing _ im⟩
    · exact ⟨rfl, rfl⟩
  obtain ⟨t, done, aside, standing⟩ := end_
  have same : (finish before test ask s).lateConflict im p = u.lateConflict im p := by
    refine State.lateConflict_congr (by rw [finish_pc, pc]) (by rw [finish_pc, pc]) ?_
      (State.peerPans_congr im (by simp [pv]) (by simp [ioc])) (by simp [ioc]) (by simp [cl])
    rw [done]
    have profile : t.au.profile = u.au.profile := congrArg (fun x => x.2.1) standing
    simpa using profile
  have after : (finish before test ask s).au.grace p = (u.evaluateConflict im).au.grace p := by
    rw [done]
    exact AU.grace_congr (by simpa using State.late_of_aside aside) p
  rw [after, same, ← AU.grace_congr (State.late_of_aside kept) p]
  cases p <;> rfl

theorem finish_grace_of_none (before s : State) (test ask : Bool) (p : Pan) (image : s.cl.image = none) :
    (finish before test ask s).au.grace p = s.au.grace p := by
  obtain ⟨u, e⟩ : ∃ u, before.evaluated s = u := ⟨_, rfl⟩
  have kept : u.au = s.au ∧ u.cl = s.cl := by
    rw [← e]
    have guard : s.guard.cl.image = none := by simpa using image
    rw [State.evaluated, State.formHeatWant, State.ifGood_of_none guard]
    simp
  obtain ⟨au, cl⟩ := kept
  rw [finish_eq, e, State.admission, State.ifGood_of_none (by rw [cl, image])]
  simp [au]

/-! ### The condition -/

theorem conflictWith_iff (f : Profile) (own : Seen) (peers : List Seen) :
    conflictWith f own peers = true ↔
      own.e < f.leadExclusion ∨
        (own.coll = true ∧ (f.maxCollecting ≤ (peers.filter fun x => panAhead x own).countP (fun x => x.coll) ∨
          ∃ x ∈ peers.filter fun x => panAhead x own, x.coll = true ∧ ((x.p : Int) - own.p).natAbs < f.minSpacing)) ∨
        (own.coll = false ∧ f.maxScraping ≤ (peers.filter fun x => panAhead x own).countP fun x => !x.coll) := by
  unfold conflictWith
  cases own.coll
  · simp [List.countP_eq_length_filter]
  · simp only [List.countP_eq_length_filter, distance_eq_natAbs]
    simp [and_assoc, and_left_comm]

theorem State.mem_peerPans {s : State} {im : Image} {x : Seen} :
    x ∈ s.peerPans im ↔ ∃ n ∈ s.pv.table, ∃ r c, n.body = .roof r ∧ r.pan x.pan = some c ∧ c.present = true ∧
      (c.state = .rising ∨ c.state = .up ∨ c.state = .lowering) ∧
      x = ⟨c.coll, c.p, leadDistance s.ioc.view im.trainLength c.p, n.addr, x.pan⟩ := by
  simp only [State.peerPans_eq_flatMap, List.mem_flatMap, State.mem_entryPans, PanRecord.raised_iff, and_assoc]

theorem State.lateConflict_iff (s : State) (im : Image) (p : Pan) :
    s.lateConflict im p = true ↔
      (im.pan p).present = true ∧ ((s.pc p).state = .rising ∨ (s.pc p).state = .up) ∧ (s.pc p).lowering = none ∧
        conflictWith (s.limits im) (s.ownSeen im p (s.pc p).disc) (s.peerPans im) = true := by
  simp [State.lateConflict, PC.checked, PC.risingOrUp, and_assoc]

/-! ### The grace timer through a step (R96) -/

theorem graceAfter_isSome (b : Bool) (t : Timer) : (graceAfter b t).isSome = b := by
  unfold graceAfter
  cases b <;> cases t <;> rfl

/-- An evaluation leaves a grace timer that runs on as it was, and starts one from 0. -/
theorem graceAfter_of_isSome {b : Bool} {t : Timer} (h : (graceAfter b t).isSome = true) :
    graceAfter b t = if t.isSome then t else Timer.started := by
  rw [graceAfter_isSome] at h
  simp [graceAfter, h]

theorem direct_image_of_none {c : Instr} {s : State} (h : (direct c s).cl.image = none) : s.cl.image = none := by
  have k := direct_acts c s
  generalize direct c s = d at k h
  induction k
  case goodRecord r pins _ _ => rw [goodVerdict_image] at h; cases h
  case badRecord | readTimeout => rw [State.badVerdict_cl] at h; exact h
  case release => simpa [State.release] using h
  case none | readRetry => exact h
  all_goals exact (congrArg CL.image (by simp)).trans h

/-- A grace timer at the end of an event, by the image that it leaves (R96). -/
theorem eventEnd_grace (c : Instr) (s : State) (p : Pan) :
    (eventEnd c s).au.grace p =
      match (eventEnd c s).cl.image with
      | some im => graceAfter ((eventEnd c s).lateConflict im p) ((direct c s).au.grace p)
      | none => (direct c s).au.grace p := by
  have kept : (settled c s).au.grace p = (direct c s).au.grace p := (moves_settled (x := False) c s).graces p
  have same : (eventEnd c s).cl.image = (settled c s).cl.image := by simp [eventEnd]
  rw [same, ← kept]
  split
  next im image => exact finish_grace _ _ _ _ p image
  next image => exact finish_grace_of_none _ _ _ _ p image

theorem State.ConflictLaw.event {s : State} (law : s.ConflictLaw) (c : Instr) : (eventEnd c s).ConflictLaw := by
  intro p
  have after := eventEnd_grace c s p
  split at after
  next im image => rw [after, graceAfter_isSome, image]; simp
  next image =>
    have start : s.cl.image = none := direct_image_of_none (c := c) (by simpa [eventEnd, settled] using image)
    have idle : (s.au.grace p).isSome = false := by
      simpa [start] using law p
    have untouched : (direct c s).au.grace p = s.au.grace p := by
      by_cases own : c = .graceTimerExpiry p
      · rw [own]; simp [direct, idle]
      · exact direct_grace own s
    rw [after, untouched, image, idle]
    simp

theorem State.ConflictLaw.older {s : State} (law : s.ConflictLaw) : s.older.ConflictLaw := by
  intro p
  have running : (s.older.au.grace p).isSome = (s.au.grace p).isSome := by
    cases p <;> exact Option.isSome_map
  have conflict : ∀ im, s.older.lateConflict im p = s.lateConflict im p := fun im =>
    State.lateConflict_congr (by rw [State.older_pc]; rfl) (by rw [State.older_pc]; rfl) rfl (s.older_peerPans im) rfl rfl
  rw [running, law p]
  simp only [conflict]
  rfl

/-- A grace timer through a step of a released part: it starts from 0, or runs on but for its own expiry. -/
theorem grace_step {s t : State} (h : step s = .next t) {p : Pan} (released : t.released = true)
    (runs : (t.au.grace p).isSome = true) :
    ((s.au.grace p).isSome = false → t.au.grace p = Timer.started) ∧
      (∀ c rest, s.pending = c :: rest → c ≠ .graceTimerExpiry p → (s.au.grace p).isSome = true →
        t.au.grace p = s.au.grace p) := by
  rcases step_cases h with ⟨empty, rfl⟩ | ⟨c, rest, queue, answer⟩
  · refine ⟨fun idle => ?_, fun c rest queue => ?_⟩
    · have same : (s.tick.au.grace p).isSome = (s.au.grace p).isSome := by
        unfold State.tick
        split
        · cases p <;> exact Option.isSome_map
        · rfl
      rw [same, idle] at runs
      cases runs
    · rw [empty] at queue; cases queue
  generalize e : ({ s with pending := rest } : State) = s' at answer
  have start : s.au.grace p = s'.au.grace p := by rw [← e]
  cases answer with
  | idle =>
    rw [start]
    refine ⟨fun idle => ?_, fun _ _ _ _ _ => rfl⟩
    rw [idle] at runs
    cases runs
  | reset cause => cases released
  | event =>
    have after : (eventEnd c s').au.grace p =
        if ((direct c s').au.grace p).isSome then (direct c s').au.grace p else Timer.started := by
      have k := eventEnd_grace c s' p
      split at k
      · rw [k] at runs ⊢
        exact graceAfter_of_isSome runs
      · rw [k] at runs ⊢
        simp [runs]
    rw [after, start]
    refine ⟨fun idle => ?_, fun c' rest' queue' other running => ?_⟩
    · have untouched : (direct c s').au.grace p = s'.au.grace p := by
        by_cases own : c = .graceTimerExpiry p
        · rw [own]; simp [direct, idle]
        · exact direct_grace own s'
      rw [untouched, idle]
      rfl
    · rw [queue] at queue'
      cases queue'
      rw [direct_grace other, running]
      rfl

/-! ### The lowering for late conflict (R97) -/

theorem direct_conflict {s : State} {p : Pan} (h : (s.au.grace p).isSome = true) :
    direct (.graceTimerExpiry p) s = s.resolveConflict p := by
  simp [direct, h]

theorem State.resolveConflict_pc (s : State) (p q : Pan) : (s.resolveConflict p).pc q = (s.softLower p).pc q := by
  cases p <;> cases q <;> simp [State.resolveConflict, State.pc]

theorem State.resolveConflict_hold (s : State) (p q : Pan) :
    (s.resolveConflict p).bi.hold.pan q = (s.softLower p).bi.hold.pan q := by
  cases p <;> simp [State.resolveConflict]

theorem State.resolveConflict_mark (s : State) (p : Pan) : (s.resolveConflict p).au.mark p = true := by
  cases p <;> rfl

theorem State.resolveConflict_requested (s : State) (p : Pan) :
    (s.resolveConflict p).al.requested .peerConflict = true := by
  have asked := (s.softLower p).request_requested .peerConflict .peerConflict
  cases p <;> exact asked.trans (by simp)

/-- A pantograph that has been asked to lower is RISING, UP or LOWERING, and cannot reach DOWN or FAULT. -/
def State.OnTheWay (s : State) (p : Pan) : Prop :=
  s.Steady p ∧ (s.pc p).state ≠ .down ∧ (s.pc p).state ≠ .fault

theorem Move.onTheWay {s t : State} (m : Move s t) {p : Pan} (h : s.OnTheWay p) : t.OnTheWay p := by
  obtain ⟨steady, down, fault⟩ := h
  have eases := m.eases steady
  refine ⟨eases.steady (Move.ioc m) steady, ?_, eases.not_fault fault⟩
  refine eases.keeps (Law := fun x => x.1.state ≠ .down) ?_ down
  intro x y one h
  rcases one.state with e | ⟨-, -, up⟩ | ⟨-, low⟩
  · rw [e]; exact h
  · rw [up]; decide
  · rw [low]; decide

/-- The mark of a pantograph on its way down stands. -/
theorem Move.mark {s t : State} (m : Move s t) {p : Pan} (h : s.OnTheWay p) (mark : s.au.mark p = true) :
    t.au.mark p = true := by
  have kept : t.au.late = s.au.late → t.au.mark p = true := fun same => (AU.mark_congr same p).trans mark
  obtain ⟨-, down, fault⟩ := h
  induction m
  case marks =>
    cases p <;> simp_all [State.clearMarks, AU.mark, State.pc]
  case conflict => cases p <;> exact mark
  case profile => exact kept rfl
  case raise im _ => exact kept (State.late_of_aside (s.reactRaise_aside im))
  case scrape im _ => exact kept (State.late_of_aside (s.reactScrape_aside im))
  case heat im _ => exact kept (State.late_of_aside (s.formHeat_aside im))
  case ice im _ => exact kept (State.late_of_aside (s.formIce_aside im))
  case test im _ => exact kept (State.late_of_aside (s.claimTest_aside im))
  all_goals exact kept (AU.late_congr (by simp))

theorem Moves.mark {s t : State} (m : Moves s t) {p : Pan} (h : s.OnTheWay p) (mark : s.au.mark p = true) :
    t.au.mark p = true :=
  (m.preserves (Law := fun u => u.OnTheWay p ∧ u.au.mark p = true)
    (fun _ _ one law => ⟨Move.onTheWay one law.1, Move.mark one law.1 law.2⟩) ⟨h, mark⟩).2

/-- A controller that the reactions leave where it is: its lowering, if any, waits, and its sensor shows no arrival. -/
structure PC.Rests (closed up : Bool) (c : PC) : Prop where
  soft : c.risingOrUp = false ∨ c.lowering.isSome = true
  waits : c.risingOrUp = false ∨ closed = true ∨ (c.lowering = some .softRamp ∧ c.fset ≠ 0)
  collects : c.risingOrUp = true → c.disc = true
  sensor : c.state = .rising → up = false

theorem PC.vent_rests (closed up : Bool) (c : PC) : c.vent.Rests closed up := by
  constructor <;> simp [PC.risingOrUp]

/-- Its reactions change nothing but the force target of a controller that rests, and leave its entry. -/
theorem Eases.rests {s t : State} {p : Pan} (e : Eases s t p) (rests : (s.pc p).Rests s.bi.closed (s.upSensor p)) :
    (∃ n, t.pc p = { s.pc p with target := n }) ∧ t.bi.hold.pan p = s.bi.hold.pan p := by
  obtain ⟨soft, waits, collects, sensor⟩ := rests
  refine e.keeps (Law := fun x => (∃ n, x.1 = { s.pc p with target := n }) ∧ x.2 = s.bi.hold.pan p) ?_ ⟨⟨_, rfl⟩, rfl⟩
  rintro ⟨c, h⟩ y one ⟨⟨n, same : c = { s.pc p with target := n }⟩, hold : h = s.bi.hold.pan p⟩
  have raised : c.risingOrUp = (s.pc p).risingOrUp := by rw [same]; rfl
  have low : c.lowering = (s.pc p).lowering := by rw [same]
  cases one
  case soft =>
    have idle : (c.risingOrUp && c.lowering.isNone) = false := by
      rw [raised, low]
      rcases soft with soft | soft
      · simp [soft]
      · simp [Option.isNone_eq_false_iff.mpr soft]
    exact ⟨⟨n, by simpa [PC.softLowered, idle] using same⟩, by simpa [idle] using hold⟩
  case advance =>
    refine ⟨⟨n, Eq.trans ?_ same⟩, hold⟩
    rcases waits with waits | waits | ⟨ramp, force⟩
    · simp [PC.advance, raised, waits]
    · simp [PC.advance, waits]
    · have force' : c.fset ≠ 0 := by rw [same]; exact force
      simp [PC.advance, low, ramp, force']
  case vent up isolated =>
    rw [same] at isolated
    rw [collects (raised.symm.trans up)] at isolated
    cases isolated
  case arrive k rising =>
    rw [sensor (by rw [same] at rising; exact rising)] at k
    cases k
  case target m => exact ⟨⟨m, by rw [same]⟩, hold⟩

/-- The own grace timer's expiry leads a pantograph that waits or vents to the end of the event as the request left it. -/
theorem eventEnd_conflict {s : State} {p : Pan} (running : (s.au.grace p).isSome = true) (acts : s.acts p = true)
    (raised : (s.pc p).risingOrUp = true) (sensors : s.SensorsCalm)
    (rests : ((s.pc p).softLowered s.bi.closed).Rests s.bi.closed (s.upSensor p))
    (free : ((s.pc p).softLowered s.bi.closed).state ≠ .down ∧ ((s.pc p).softLowered s.bi.closed).state ≠ .fault) :
    (∃ n, (eventEnd (.graceTimerExpiry p) s).pc p = { (s.pc p).softLowered s.bi.closed with target := n }) ∧
      (eventEnd (.graceTimerExpiry p) s).bi.hold.pan p = (s.bi.hold.pan p || (s.pc p).disc) ∧
      (eventEnd (.graceTimerExpiry p) s).au.mark p = true := by
  obtain ⟨air, down, -, low⟩ := sensors p raised
  have moves := moves_eventEnd (.graceTimerExpiry p) s
  rw [direct_conflict running] at moves
  have pc : (s.resolveConflict p).pc p = (s.pc p).softLowered s.bi.closed := by
    rw [s.resolveConflict_pc, s.softLower_pc, acts]; rfl
  have hold : (s.resolveConflict p).bi.hold.pan p = (s.bi.hold.pan p || (s.pc p).disc) := by
    rw [s.resolveConflict_hold, s.softLower_hold, acts, raised, low]; simp
  have ioc : (s.resolveConflict p).ioc = s.ioc := by simp
  have closed : (s.resolveConflict p).bi.closed = s.bi.closed := by simp
  have steady : (s.resolveConflict p).Steady p := by
    refine .inr ⟨(State.downSensor_congr ioc p).trans down, fun _ => (State.airOk_congr ioc p).trans air⟩
  have start : (s.resolveConflict p).OnTheWay p := ⟨steady, by rw [pc]; exact free.1, by rw [pc]; exact free.2⟩
  obtain ⟨same, entry⟩ := (moves.eases steady).1.rests (by rw [pc, closed, State.upSensor_congr ioc]; exact rests)
  rw [pc] at same
  exact ⟨same, entry.trans hold, moves.mark start (s.resolveConflict_mark p)⟩

/-- Settles O43. -/
theorem lateConflictLowersThePantograph : Obligations.LateConflictLowersThePantograph := by
  refine ⟨fun s im p => ⟨fun x => ?_, ?_⟩, fun s t held law h => ⟨?_, fun p => grace_step h⟩, ?_⟩
  · exact State.mem_peerPans.trans (by cases x.pan <;> rfl)
  · rw [s.lateConflict_iff im p, conflictWith_iff]
    rfl
  · exact step_keeps_of_held (Law := State.ConflictLaw) (fun s q law => law) (fun cause p => by cases p <;> simp [State.held, AU.reset, CL.reset, AU.grace])
      (fun s _ law => law.older) (fun c s _ law _ => law.event c) s t held law h
  intro s p released acts running raised sensors
  refine ⟨_, exec_eq_event released rfl, ?_, ?_⟩
  · refine (reacts_eventEnd (by simp) s).flags _ ?_
    rw [direct_conflict running]
    exact s.resolveConflict_requested p
  obtain ⟨-, -, up, low⟩ := sensors p raised
  have state : (s.pc p).state ≠ .down ∧ (s.pc p).state ≠ .fault := by
    simp only [PC.risingOrUp, decide_eq_true_eq] at raised
    rcases raised with e | e <;> simp [e]
  have moved := eventEnd_conflict running acts raised sensors
  rcases (s.pc p).softLowered_cases s.bi.closed with ⟨no, -⟩ | ⟨-, -, ⟨disc, e⟩ | ⟨disc, closed, e⟩ |
      ⟨disc, closed, force, e⟩ | ⟨disc, closed, force, e⟩⟩
  · simp [raised, low] at no
  · rw [e] at moved
    obtain ⟨⟨n, pc⟩, -, marked⟩ := moved (PC.vent_rests _ _ _) (by simp)
    have no : ∀ {P : Prop}, (s.pc p).disc = true → P := fun d => nomatch disc.symm.trans d
    refine ⟨no, no, no, fun _ => ?_⟩
    rw [pc]
    exact ⟨rfl, rfl, rfl, by cases p <;> exact marked⟩
  all_goals
    have iso : ∀ {P : Prop}, (s.pc p).disc = false → P := fun d => nomatch disc.symm.trans d
    rw [e] at moved
  · obtain ⟨⟨n, pc⟩, hold, marked⟩ := moved ⟨.inr rfl, .inr (.inl closed), fun _ => disc, up⟩ state
    have shut : ∀ {P : Prop}, s.bi.closed = false → P := fun d => nomatch closed.symm.trans d
    refine ⟨fun _ _ => ?_, fun _ => shut, fun _ => shut, iso⟩
    rw [pc, hold, disc]
    exact ⟨rfl, rfl, rfl, Bool.or_true _, by cases p <;> exact marked⟩
  · obtain ⟨⟨n, pc⟩, hold, marked⟩ := moved ⟨.inr rfl, .inr (.inr ⟨rfl, force⟩), fun _ => disc, up⟩ state
    refine ⟨fun _ shut => (nomatch closed.symm.trans shut), fun _ _ _ => ?_, fun _ _ none' => absurd none' force, iso⟩
    rw [pc, hold, disc]
    exact ⟨rfl, rfl, rfl, Bool.or_true _, by cases p <;> exact marked⟩
  · obtain ⟨⟨n, pc⟩, hold, marked⟩ := moved (PC.vent_rests _ _ _) (by simp)
    refine ⟨fun _ shut => (nomatch closed.symm.trans shut), fun _ _ some' => absurd force some', fun _ _ _ => ?_, iso⟩
    rw [pc, hold, disc]
    exact ⟨rfl, rfl, rfl, Bool.or_true _, by cases p <;> exact marked⟩

end Sys2Proof.Machine
end

section
/-! PROOFS. The timers of a pantograph controller, which end in its faults (R33, R35, R41, R42, R44). -/

namespace Sys2Proof.Machine

/-! ### A pantograph that stays in FAULT -/

/-- In FAULT with its DOWN sensor asserted, DISC off and no hold-open entry: the sensor asks nothing more (R44). -/
def State.AtFault (s : State) (p : Pan) : Prop :=
  (s.pc p).state = .fault ∧ (s.pc p).disc = false ∧ s.bi.hold.pan p = false

theorem State.AtFault.sense {s : State} {p : Pan} (h : s.AtFault p) (q : Pan) : Eases s (s.sense q) p := by
  obtain ⟨fault, disc, hold⟩ := h
  by_cases e : p = q
  · subst e
    rcases s.senses p with ⟨-, k⟩ | ⟨-, k⟩
    · rw [k]; exact .refl
    generalize s.sense p = t at k ⊢
    cases k
    case none => exact .refl
    case off =>
      refine .of_same ?_ (by rw [State.downInFault_hold, hold])
      rw [State.downInFault_pc, ← disc]
    all_goals simp_all [PC.risingOrUp]
  · exact .of_same (s.sense_pc_ne e) (s.sense_hold_ne e)

/-- A pantograph at rest that is steady, or in FAULT, goes through the moves of an event with its force target alone changed. -/
theorem Moves.rests {s t : State} (m : Moves s t) {p : Pan} (h : s.Steady p ∨ s.AtFault p)
    (rests : (s.pc p).Rests s.bi.closed (s.upSensor p)) :
    (∃ n, t.pc p = { s.pc p with target := n }) ∧ t.bi.hold.pan p = s.bi.hold.pan p := by
  rcases h with steady | fault
  · exact (m.eases steady).1.rests rests
  suffices k : ((∃ n, t.pc p = { s.pc p with target := n }) ∧ t.bi.hold.pan p = s.bi.hold.pan p) ∧
      t.bi.closed = s.bi.closed ∧ t.ioc = s.ioc from k.1
  induction m with
  | refl => exact ⟨⟨⟨_, rfl⟩, rfl⟩, rfl, rfl⟩
  | @tail u v _ one ih =>
    obtain ⟨⟨⟨n, pc⟩, hold⟩, closed, ioc⟩ := ih
    have again : u.AtFault p := by
      obtain ⟨state, disc, entry⟩ := fault
      exact ⟨by rw [pc]; exact state, by rw [pc]; exact disc, by rw [hold]; exact entry⟩
    have resting : (u.pc p).Rests u.bi.closed (u.upSensor p) := by
      rw [closed, State.upSensor_congr ioc, pc]
      obtain ⟨soft, waits, collects, sensor⟩ := rests
      exact ⟨soft, waits, collects, sensor⟩
    obtain ⟨⟨m, pc'⟩, hold'⟩ := (Move.eases_of_sense one again.sense).rests resting
    exact ⟨⟨⟨m, by rw [pc', pc]⟩, hold'.trans hold⟩, (Move.closed one).trans closed, (Move.ioc one).trans ioc⟩

/-! ### The expiries -/

theorem State.faultDrop_requested (s : State) (p : Pan) (k : FaultCause) :
    (s.faultDrop p k).al.requested (panFaultKind p) = true := by
  simp [State.faultDrop]

theorem State.enterFault_requested (s : State) (p : Pan) (k : FaultCause) :
    (s.enterFault p k).al.requested (panFaultKind p) = true := by
  unfold State.enterFault
  dsimp only
  split_ifs <;> simp

/-- An own fault drop ends its event LOWERING, as the fast drop left it (R41). -/
theorem eventEnd_dropped {c : Instr} {s : State} {p : Pan} {k : FaultCause} (effect : direct c s = s.faultDrop p k)
    (other : ∀ x b, c ≠ .demandReceived x b) (acts : s.acts p = true) (up : (s.pc p).risingOrUp = true)
    (sensor : s.downSensor p = false) : (eventEnd c s).Dropped p (s.pc p) k := by
  have moves := moves_eventEnd c s
  have reacts := reacts_eventEnd other s
  rw [effect] at moves reacts
  have pc : (s.faultDrop p k).pc p =
      { (s.pc p).vent.zeroForce with pendingFault := some ((s.pc p).pendingFault.getD k) } := by
    rw [s.faultDrop_pc, s.fastDrop_pc]
    simp [acts, PC.dropped, up]
  have hold : (s.faultDrop p k).bi.hold.pan p = (s.bi.hold.pan p || (s.pc p).disc) := by
    rw [s.faultDrop_hold, s.fastDrop_hold]
    simp [acts, up]
  have steady : (s.faultDrop p k).Steady p := by
    refine .inr ⟨?_, fun raised => ?_⟩
    · exact (State.downSensor_congr (s := s) (by simp) p).trans sensor
    · rw [pc] at raised; simp [PC.risingOrUp] at raised
  have rests : ((s.faultDrop p k).pc p).Rests (s.faultDrop p k).bi.closed ((s.faultDrop p k).upSensor p) := by
    rw [pc]
    constructor <;> simp [PC.risingOrUp]
  obtain ⟨⟨n, same⟩, entry⟩ := moves.rests (.inl steady) rests
  rw [pc] at same
  have asked := reacts.flags _ (s.faultDrop_requested p k)
  constructor <;> simp [same, asked, entry.trans hold]
  exact fun disc => .inr disc

theorem direct_lowerTimer {s : State} {p : Pan} (h : (s.pc p).lowerT.isSome = true) :
    direct (.lowerTimerExpiry p) s = s.enterFault p ((s.pc p).pendingFault.getD .lowerTimeout) := by
  simp [direct, h, State.lowerTimeout]

/-- Settles O22. -/
theorem controllerTimersEndInTheirFaults : Obligations.ControllerTimersEndInTheirFaults := by
  refine ⟨fun s p released acts up sensor => ⟨fun running => ?_, fun running => ?_⟩, fun s p released acts running => ?_⟩
  · exact ⟨_, exec_eq_event released rfl, eventEnd_dropped (by simp [direct, running]) (by simp) acts up sensor⟩
  · exact ⟨_, exec_eq_event released rfl, eventEnd_dropped (by simp [direct, running]) (by simp) acts up sensor⟩
  have moves := moves_eventEnd (.lowerTimerExpiry p) s
  have reacts := reacts_eventEnd (c := .lowerTimerExpiry p) (by simp) s
  rw [direct_lowerTimer running] at moves reacts
  generalize ((s.pc p).pendingFault.getD .lowerTimeout) = k at moves reacts ⊢
  have pc := s.enterFault_pc p k
  have hold := s.enterFault_hold p k
  have sensor : (s.enterFault p k).downSensor p = s.downSensor p := State.downSensor_congr (by simp) p
  have start : (s.enterFault p k).Steady p ∨ (s.enterFault p k).AtFault p := by
    cases down : s.downSensor p
    · exact .inl (.inr ⟨sensor.trans down, fun raised => by rw [pc] at raised; simp [PC.faultedBy, PC.risingOrUp] at raised⟩)
    · exact .inr ⟨by rw [pc]; rfl, by rw [pc]; simp [PC.faultedBy, down], by rw [hold]; simp [down]⟩
  have rests : ((s.enterFault p k).pc p).Rests (s.enterFault p k).bi.closed ((s.enterFault p k).upSensor p) := by
    rw [pc]
    constructor <;> simp [PC.risingOrUp, PC.faultedBy]
  obtain ⟨⟨n, same⟩, entry⟩ := moves.rests start rests
  rw [pc] at same
  refine ⟨_, exec_eq_event released rfl, ?_⟩
  simp only [same, PC.faultedBy, entry, hold, reacts.flags _ (s.enterFault_requested p k)]
  refine ⟨trivial, trivial, trivial, trivial, trivial, trivial, trivial, trivial, trivial, trivial, trivial, fun down => ?_,
    fun down disc => ?_⟩
  · simp [down]
  · simp [down, disc]

end Sys2Proof.Machine
end

section
/-! PROOFS. The ramp tick (R31) and the end of a SOFT-RAMP (R39). -/

namespace Sys2Proof.Machine

/-! ### F_set and the duty through an event -/

/-- What the reactions of a steady pantograph do leaves F_set and the duty. -/
theorem Eases.force {s t : State} {p : Pan} (e : Eases s t p) :
    (t.pc p).fset = (s.pc p).fset ∧ (t.pc p).duty = (s.pc p).duty := by
  refine e.keeps (Law := fun x => x.1.fset = (s.pc p).fset ∧ x.1.duty = (s.pc p).duty) ?_ ⟨rfl, rfl⟩
  rintro x y one h
  cases one
  case soft c _ =>
    rcases c.softLowered_cases s.bi.closed with ⟨-, e⟩ | ⟨-, -, ⟨-, e⟩ | ⟨-, -, e⟩ | ⟨-, -, -, e⟩ | ⟨-, -, -, e⟩⟩ <;>
      simpa [e, PC.vent] using h
  case advance c _ =>
    rcases c.advance_cases s.bi.closed with e | ⟨-, -, -, -, e⟩ | ⟨-, -, -, -, e⟩ <;> simpa [e, PC.vent] using h
  all_goals exact h

theorem Eases.low {s t : State} {p : Pan} (e : Eases s t p) (low : (s.pc p).risingOrUp = false) :
    (t.pc p).risingOrUp = false := by
  refine e.keeps (Law := fun x => x.1.risingOrUp = false) ?_ low
  intro x y one h
  rcases one.state with e | ⟨-, rising, -⟩ | ⟨raised, -⟩
  · exact PC.not_raised_of_state h e
  · simp [PC.risingOrUp, rising] at h
  · rw [h] at raised; cases raised

/-- F_set and the duty as they were, or both at 0 with the pantograph no more raised. -/
def PC.Forced (n m : Nat) (c : PC) : Prop :=
  (c.fset = n ∧ c.duty = m) ∨ (c.fset = 0 ∧ c.duty = 0 ∧ c.risingOrUp = false)

theorem PC.forced_of_fault (n m : Nat) (c : PC) (down : Bool) (k : FaultCause) : (c.faultedBy down k).Forced n m :=
  .inr ⟨rfl, rfl, rfl⟩

theorem State.sense_forced (s : State) (p q : Pan) {n m : Nat} (h : (s.pc p).Forced n m) :
    ((s.sense q).pc p).Forced n m := by
  by_cases e : p = q
  · subst e
    rcases s.senses p with ⟨-, k⟩ | ⟨act, k⟩
    · rw [k]; exact h
    generalize s.sense p = t at k ⊢
    cases k
    case none => exact h
    case airLoss up _ =>
      rw [State.airLoss_pc, State.faultDrop_pc, State.fastDrop_pc]
      simp only [act, if_true, PC.dropped, up]
      exact .inr ⟨rfl, rfl, rfl⟩
    case up rising _ _ =>
      rw [State.setPc_pc]
      rcases h with same | ⟨-, -, low⟩
      · exact .inl same
      · simp [PC.risingOrUp, rising] at low
    case drop | fault => rw [State.enterFault_pc]; exact PC.forced_of_fault _ _ _ _ _
    case down => exact .inr (by simp [PC.risingOrUp])
    case off fault _ =>
      rw [State.downInFault_pc]
      exact h
  · rw [s.sense_pc_ne e]; exact h

theorem Move.forced {s t : State} (m : Move s t) {p : Pan} {n k : Nat} (h : (s.pc p).Forced n k) :
    (t.pc p).Forced n k := by
  rcases m.sense_or_eases with ⟨q, rfl⟩ | eases
  · exact s.sense_forced p q h
  · rcases h with ⟨force, duty⟩ | ⟨force, duty, low⟩
    · exact .inl ⟨(eases p).force.1.trans force, (eases p).force.2.trans duty⟩
    · exact .inr ⟨(eases p).force.1.trans force, (eases p).force.2.trans duty, (eases p).low low⟩

/-! ### The end of a SOFT-RAMP -/

/-- A collecting pantograph that ramps down, with its VALVE and F_set. -/
structure PC.Ramping (v : Bool) (n : Nat) (c : PC) : Prop where
  raised : c.risingOrUp = true
  disc : c.disc = true
  valve : c.valve = v
  low : c.lowering = some .softRamp
  force : c.fset = n

/-- A controller that has vented with F_set 0 (R39). -/
structure PC.Vented (c : PC) : Prop where
  state : c.state = .lowering
  valve : c.valve = false
  low : c.lowering = none
  force : c.fset = 0
  timer : c.lowerT = Timer.started
  stopped : c.raiseT = none ∧ c.heightT = none

/-- A collecting pantograph with a soft lowering in progress, with its VALVE and F_set. -/
structure PC.Lowered (v : Bool) (n : Nat) (c : PC) : Prop where
  raised : c.risingOrUp = true
  disc : c.disc = true
  valve : c.valve = v
  low : c.lowering = some .softWait ∨ c.lowering = some .softRamp
  force : c.fset = n

theorem PC.Ramping.lowered {c : PC} {v : Bool} {n : Nat} (h : c.Ramping v n) : c.Lowered v n :=
  ⟨h.raised, h.disc, h.valve, .inr h.low, h.force⟩

/-- What an open breaker makes of a soft lowering (R39): it vents at F_set 0 and ramps down above. -/
def PC.Gone (v : Bool) (n : Nat) (c : PC) : Prop := (n = 0 ∧ c.Vented) ∨ (n ≠ 0 ∧ c.Ramping v n)

theorem PC.Lowered.advance {c : PC} {v : Bool} {n : Nat} (h : c.Lowered v n) : (c.advance false).Gone v n := by
  obtain ⟨raised, disc, valve, low, force⟩ := h
  by_cases zero : n = 0
  · refine .inl ⟨zero, ?_⟩
    have none' : c.fset = 0 := force.trans zero
    have vents : c.advance false = c.vent := by
      rcases low with low | low <;> simp [PC.advance, raised, low, none']
    rw [vents]
    exact ⟨rfl, rfl, rfl, none', rfl, rfl, rfl⟩
  · refine .inr ⟨zero, ?_⟩
    have ramps : c.advance false = { c with lowering := some .softRamp } := by
      rcases low with low | low
      · simp [PC.advance, raised, low, force, zero]
      · simp [PC.advance, raised, low, force, zero]
        rw [← low, ← force]
    rw [ramps]
    exact ⟨raised, disc, valve, rfl, force⟩

theorem PC.Vented.notRaised {c : PC} (h : c.Vented) : c.risingOrUp = false := by simp [PC.risingOrUp, h.state]

theorem PC.softLowered_of_low {c : PC} (low : c.risingOrUp = false) (closed : Bool) : c.softLowered closed = c := by
  simp [PC.softLowered, low]

theorem PC.advance_of_low {c : PC} (low : c.risingOrUp = false) (closed : Bool) : c.advance closed = c := by
  simp [PC.advance, low]

theorem Ease.vented {closed up : Bool} {x y : PC × Bool} (one : Ease closed up x y) (h : x.1.Vented) : y.1.Vented := by
  have low := h.notRaised
  cases one
  case soft c _ => rw [PC.softLowered_of_low low]; exact h
  case advance c _ => rw [PC.advance_of_low low]; exact h
  case vent c _ raised _ => rw [raised] at low; cases low
  case arrive c _ rising _ => simp [PC.risingOrUp, rising] at low
  case target c _ n => exact ⟨h.state, h.valve, h.low, h.force, h.timer, h.stopped⟩

theorem Eases.vented {s t : State} {p : Pan} (e : Eases s t p) (h : (s.pc p).Vented) : (t.pc p).Vented :=
  e.keeps (Law := fun x => x.1.Vented) (fun _ _ one => one.vented) h

theorem Ease.ramping {closed up : Bool} {x y : PC × Bool} (one : Ease closed up x y) {v : Bool} {n : Nat}
    (h : x.1.Ramping v n) : y.1.Ramping v n ∨ (closed = false ∧ n = 0 ∧ y.1.Vented) := by
  obtain ⟨raised, disc, valve, low, force⟩ := h
  cases one
  case soft c _ =>
    have still : c.softLowered closed = c := by simp_all [PC.softLowered]
    rw [still]; exact .inl ⟨raised, disc, valve, low, force⟩
  case advance c _ =>
    rcases c.advance_cases closed with e | ⟨-, -, wait, -, -⟩ | ⟨opened, -, -, none', e⟩
    · rw [e]; exact .inl ⟨raised, disc, valve, low, force⟩
    · rw [low] at wait; cases wait
    · rw [e]; exact .inr ⟨opened, force.symm.trans none', ⟨rfl, rfl, rfl, none', rfl, rfl, rfl⟩⟩
  case vent c _ _ isolated => rw [disc] at isolated; cases isolated
  case arrive c _ _ _ => exact .inl ⟨rfl, disc, valve, low, force⟩
  case target c _ _ => exact .inl ⟨raised, disc, valve, low, force⟩

/-- A ramping pantograph ramps on, or has vented from F_set 0 on an open breaker. -/
theorem Eases.ramping {s t : State} {p : Pan} (e : Eases s t p) {v : Bool} {n : Nat} (h : (s.pc p).Ramping v n) :
    (t.pc p).Ramping v n ∨ (s.bi.closed = false ∧ n = 0 ∧ (t.pc p).Vented) := by
  refine e.keeps (Law := fun x => x.1.Ramping v n ∨ (s.bi.closed = false ∧ n = 0 ∧ x.1.Vented)) ?_ (.inl h)
  rintro x y one (law | ⟨opened, zero, vented⟩)
  · exact one.ramping law
  · exact .inr ⟨opened, zero, one.vented vented⟩

theorem Ease.gone {closed up : Bool} {x y : PC × Bool} (one : Ease closed up x y) {v : Bool} {n : Nat}
    (h : x.1.Gone v n) : y.1.Gone v n := by
  rcases h with ⟨zero, vented⟩ | ⟨some, ramping⟩
  · exact .inl ⟨zero, one.vented vented⟩
  · exact .inr ⟨some, (one.ramping ramping).resolve_right fun x => some x.2.1⟩

theorem Eases.gone {s t : State} {p : Pan} (e : Eases s t p) {v : Bool} {n : Nat} (h : (s.pc p).Gone v n) :
    (t.pc p).Gone v n := e.keeps (Law := fun x => x.1.Gone v n) (fun _ _ one => one.gone) h

/-- A soft lowering stands, or an open breaker has let it go. -/
theorem Eases.lowered {s t : State} {p : Pan} (e : Eases s t p) (opened : s.bi.closed = false) {v : Bool} {n : Nat}
    (h : (s.pc p).Lowered v n) : (t.pc p).Lowered v n ∨ (t.pc p).Gone v n := by
  refine e.keeps (Law := fun x => x.1.Lowered v n ∨ x.1.Gone v n) ?_ (.inl h)
  rintro x y one (law | gone)
  · have advanced := law.advance
    obtain ⟨raised, disc, valve, low, force⟩ := law
    rw [opened] at one
    cases one
    case soft c _ =>
      have still : c.softLowered false = c := by rcases low with low | low <;> simp_all [PC.softLowered]
      rw [still]; exact .inl ⟨raised, disc, valve, low, force⟩
    case advance c _ => exact .inr advanced
    case vent c _ _ isolated => rw [disc] at isolated; cases isolated
    case arrive c _ _ _ => exact .inl ⟨rfl, disc, valve, low, force⟩
    case target c _ _ => exact .inl ⟨raised, disc, valve, low, force⟩
  · exact .inr (one.gone gone)

/-- The first round of an event whose breaker reads OPEN lets a soft lowering of a collecting pantograph go. -/
theorem State.pantographs_lets {d : State} {p : Pan} {v : Bool} {n : Nat} (steady : d.Steady p)
    (opened : d.bi.closed = false) (h : (d.pc p).Lowered v n) : (d.pantographs.pc p).Gone v n := by
  obtain ⟨s2, e2⟩ : ∃ s2, (d.sense .a).sense .b = s2 := ⟨_, rfl⟩
  have sensed : Eases d s2 p ∧ s2.bi.closed = d.bi.closed ∧ s2.ioc = d.ioc := by
    rw [← e2]
    have one := Eases.sense steady .a
    have two := Eases.sense (one.steady (by simp) steady) .b
    exact ⟨one.trans two (by simp) (State.upSensor_congr (by simp) p), by simp, by simp⟩
  obtain ⟨eases, closed, -⟩ := sensed
  have open2 : s2.bi.closed = false := closed.trans opened
  have go : ∀ u : State, u.bi.closed = false → (u.pc p).Lowered v n ∨ (u.pc p).Gone v n →
      ((u.advancePan p).pc p).Gone v n := by
    intro u open' law
    rcases law with lowered | gone
    · rw [u.advancePan_pc, open']
      exact lowered.advance
    · exact (Eases.advancePan u p p).gone gone
  have before : (s2.pc p).Lowered v n ∨ (s2.pc p).Gone v n := eases.lowered opened h
  have advanced : (((s2.advancePan .a).advancePan .b).pc p).Gone v n := by
    cases p
    · exact (Eases.advancePan _ .a .b).gone (go s2 open2 before)
    · refine go _ (by simpa using open2) ?_
      rcases before with lowered | gone
      · exact (Eases.advancePan s2 .b .a).lowered open2 lowered
      · exact .inr ((Eases.advancePan s2 .b .a).gone gone)
  have whole : d.pantographs = (((s2.advancePan .a).advancePan .b).watchIsolated .a).watchIsolated .b := by
    rw [← e2]; rfl
  rw [whole]
  exact (Eases.watchIsolated _ p .b).gone ((Eases.watchIsolated _ p .a).gone advanced)

/-- An event goes on by moves from its first round of the pantographs. -/
theorem moves_from_pantographs (c : Instr) (s : State) : Moves (direct c s).pantographs (eventEnd c s) := by
  have round : Moves (direct c s).pantographs ((s.wiring (direct c s).pantographs).others) :=
    (moves_wiring s _).trans (moves_others _)
  have rest : Moves (direct c s).pantographs (settle rounds s (direct c s)) :=
    round.trans (moves_settle 7 (direct c s).pantographs _)
  exact (rest.trans (Reaction.clear _).one).trans (moves_finish s _ _ _)

/-! ### The tick -/

theorem rampStep_rises {step target n : Nat} (h : n + step < target) : rampStep step target n = n + step := by
  unfold rampStep
  split_ifs <;> omega

theorem rampStep_falls {step target n : Nat} (h : target + step < n) : rampStep step target n + step = n := by
  unfold rampStep
  split_ifs <;> omega

theorem rampStep_reaches {step target n : Nat} (h : n ≤ target + step) (k : target ≤ n + step) :
    rampStep step target n = target := by
  unfold rampStep
  split_ifs <;> omega

/-- What a ramp tick leaves of the force of a controller by the end of its event. -/
theorem eventEnd_ramp {s : State} {p : Pan} (air : s.airOk p = true) (down : s.downSensor p = false) :
    Eases s.rampBoth (eventEnd .rampTick s) p ∧ s.rampBoth.Steady p := by
  have ioc : s.rampBoth.ioc = s.ioc := by simp
  have steady : s.rampBoth.Steady p :=
    .inr ⟨(State.downSensor_congr ioc p).trans down, fun _ => (State.airOk_congr ioc p).trans air⟩
  exact ⟨((moves_eventEnd .rampTick s).eases steady).1, steady⟩

section
variable {s : State} {im : Image} (i : s.cl.image = some im) (p : Pan)
include i

theorem State.rampBoth_ramped : s.rampBoth.pc p = (s.pc p).ramp im := by
  unfold State.rampBoth State.ifGood
  simp only [i]
  cases p <;> rfl

/-- A pantograph that ramps down ramps on at the end of the tick, or has vented from F_set 0 on an open breaker (R39). -/
theorem eventEnd_ramping (raised : (s.pc p).risingOrUp = true) (disc : (s.pc p).disc = true)
    (low : (s.pc p).lowering = some .softRamp) (target : (s.pc p).target = 0) (air : s.airOk p = true)
    (down : s.downSensor p = false) :
    ((s.pc p).fset ≤ im.rampStep → s.bi.closed = false → ((eventEnd .rampTick s).pc p).Vented) ∧
      ((s.pc p).fset ≤ im.rampStep → s.bi.closed = true → ((eventEnd .rampTick s).pc p).Ramping (s.pc p).valve 0) ∧
      (im.rampStep < (s.pc p).fset →
        ((eventEnd .rampTick s).pc p).Ramping (s.pc p).valve (rampStep im.rampStep 0 (s.pc p).fset)) := by
  obtain ⟨eases, steady⟩ := eventEnd_ramp air down
  have closed : s.rampBoth.bi.closed = s.bi.closed := by simp
  have ramped : (s.rampBoth.pc p).Ramping (s.pc p).valve (rampStep im.rampStep 0 (s.pc p).fset) := by
    rw [State.rampBoth_ramped i p]
    exact ⟨raised, disc, rfl, low, by rw [← target]; rfl⟩
  have reached : (s.pc p).fset ≤ im.rampStep → rampStep im.rampStep 0 (s.pc p).fset = 0 := fun short =>
    rampStep_reaches (by omega) (by omega)
  refine ⟨fun short opened => ?_, fun short shut => ?_, fun long => ?_⟩
  · rw [reached short] at ramped
    have vented : (s.rampBoth.pantographs.pc p).Vented := 
      ((State.pantographs_lets steady (closed.trans opened) ramped.lowered).resolve_right fun x => x.1 rfl).2
    have first : Moves s.rampBoth s.rampBoth.pantographs := moves_pantographs s.rampBoth
    exact ((moves_from_pantographs .rampTick s).eases (first.eases steady).2.1).1.vented vented
  · rw [reached short] at ramped
    rcases eases.ramping ramped with on | ⟨opened, -, -⟩
    · exact on
    · rw [closed, shut] at opened; cases opened
  · rcases eases.ramping ramped with on | ⟨-, zero, -⟩
    · exact on
    · have := rampStep_falls (step := im.rampStep) (target := 0) (n := (s.pc p).fset) (by omega)
      omega

end

/-- Settles O23. -/
theorem rampTickMovesTheForce : Obligations.RampTickMovesTheForce := by
  refine ⟨fun s im released i => ?_, fun s released i => ?_⟩
  · have effect : direct .rampTick s = { s with rampClock := 0, pcA := s.pcA.ramp im, pcB := s.pcB.ramp im } := by
      simp [direct, State.rampBoth, State.ifGood, i]
    have reacts := reacts_eventEnd (c := .rampTick) (by simp) s
    rw [effect] at reacts
    have amount : ∀ p n, n = (match p with
        | .a => rampStep im.rampStep s.pcA.target s.pcA.fset
        | .b => rampStep im.rampStep s.pcB.target s.pcB.fset) →
        (s.rampBoth.pc p).fset = n ∧ (s.rampBoth.pc p).duty = min 1000 (n * 1000 / im.fFull) := by
      rintro p n rfl
      rw [State.rampBoth_ramped i p]
      cases p <;> exact ⟨rfl, rfl⟩
    refine ⟨_, rampStep im.rampStep s.pcA.target s.pcA.fset, rampStep im.rampStep s.pcB.target s.pcB.fset,
      exec_eq_event released rfl, reacts, ?_, fun p n e => ?_, fun p n e air down => ?_, fun p _ up disc low target air down => ?_⟩
    · rintro c n (⟨rfl, rfl⟩ | ⟨rfl, rfl⟩) <;> exact ⟨rampStep_rises, rampStep_falls, rampStep_reaches⟩
    · exact (moves_eventEnd .rampTick s).preserves (Law := fun u => (u.pc p).Forced n (min 1000 (n * 1000 / im.fFull)))
        (fun _ _ m => Move.forced m) (.inl (amount p n e))
    · obtain ⟨force, duty⟩ := (eventEnd_ramp (p := p) air down).1.force
      exact ⟨force.trans (amount p n e).1, duty.trans (amount p n e).2⟩
    · obtain ⟨vents, shut, long⟩ := eventEnd_ramping i p up disc low target air down
      refine ⟨fun short opened => ?_, fun short closed => ?_, fun far => ?_⟩
      · have end_ := vents short opened
        exact ⟨end_.state, end_.valve, end_.low, end_.force, end_.timer⟩
      · have end_ := shut short closed
        exact ⟨end_.raised, end_.valve, end_.low, end_.force⟩
      · have end_ := long far
        exact ⟨end_.raised, end_.valve, end_.low, by rw [end_.force]; exact rampStep_falls (by omega)⟩
  · have effect : s.rampBoth = { s with rampClock := 0 } := by simp [State.rampBoth, State.ifGood, i]
    refine ⟨_, exec_eq_event released rfl, effect ▸ reacts_eventEnd (c := .rampTick) (by simp) s, fun p air down => ?_⟩
    have force := (eventEnd_ramp (p := p) air down).1.force
    rw [effect] at force
    cases p <;> exact force

end Sys2Proof.Machine
end

section
/-! PROOFS. The periods of the line (R177 to R181) and the STATUS that an event places (R188). -/

namespace Sys2Proof.Machine

/-! ### What an event leaves of the STATUS before it asks for one -/

theorem Reactions.schedule {w : Prop} {s t : State} (m : Reactions w False s t) : t.lau.schedule = s.lau.schedule := by
  induction m with
  | refl => rfl
  | tail _ k ih =>
    rcases k.aside with same | rfl
    · exact (State.schedule_of_aside same).trans ih
    · exact ih

theorem State.admission_schedule (before s : State) (test : Bool) :
    (before.admission test s).lau.schedule = s.lau.schedule := by
  unfold State.admission State.ifGood
  split
  next im _ =>
    dsimp only
    split_ifs
    · exact (State.schedule_of_aside (State.claimTest_aside (s.evaluateConflict im) im)).trans rfl
    · rfl
  · rfl

/-- An event asks for its STATUS at its very end, its slot, gap and countdown as the command has left them (R180). -/
theorem eventEnd_report (c : Instr) (s : State) :
    ∃ u : State, eventEnd c s = s.report (asksStatus c s) u ∧ u.lau.schedule = (direct c s).lau.schedule := by
  refine ⟨_, finish_eq s (settled c s) (asksTest c s) (asksStatus c s), ?_⟩
  have evaluated : (s.evaluated (settled c s)).aside = (settled c s).aside :=
    (State.formHeatWant_aside s _).trans (State.aside_congr (by simp) (by simp))
  calc ((s.admission (asksTest c s) (s.evaluated (settled c s))).formAlerts).lau.schedule
      = (s.evaluated (settled c s)).lau.schedule := State.admission_schedule s _ _
    _ = (settled c s).lau.schedule := State.schedule_of_aside evaluated
    _ = (direct c s).lau.schedule := (moves_settled (x := False) c s).schedule

/-! ### The STATUS that is placed -/

/-- A snapshot on a good configuration shows the state that it is taken of (R188). -/
theorem State.statusSnapshot_shows {s : State} {im : Image} (image : s.cl.image = some im) :
    s.statusSnapshot.Shows s im where
  link := by simp [State.statusSnapshot, State.statusMs, State.good, image, Image.tsMs]
  cause := rfl
  panA := by simp [State.statusSnapshot, State.panStatus, image, Image.pan, ICU.heater, State.pc]
  panB := by simp [State.statusSnapshot, State.panStatus, image, Image.pan, ICU.heater, State.pc]
  line := ⟨rfl, rfl, rfl, rfl, rfl⟩
  freq := rfl
  phase := rfl
  sectionId := by
    change s.cc.shownId = _
    unfold CC.shownId
    cases s.cc.current <;> rfl
  ice := ⟨rfl, rfl, rfl⟩
  alerts := ⟨rfl, rfl⟩
  speed := rfl
  claim := by simp [State.statusSnapshot, AU.openClaimField, AU.claimOpen]

/-- Placing the STATUS changes nothing that it shows. -/
theorem StatusFrame.Shows.placed {f : StatusFrame} {s : State} {im : Image} (h : f.Shows s im) :
    f.Shows s.placeStatus im :=
  ⟨h.link, h.cause, h.panA, h.panB, h.line, h.freq, h.phase, h.sectionId, h.ice, h.alerts, h.speed, h.claim⟩

/-- The STATUS placed last in an event: a fresh frame that shows the state at the event's end, and before the configuration is
good the configuration fault at the period of 100 ms. -/
theorem State.placeStatus_slot (s : State) :
    ∃ f, s.placeStatus.lau.stSlot = some ⟨f, 0, none⟩ ∧ s.placeStatus.lau.statusPending = false ∧
      (∀ im, s.cl.image = some im → f.Shows s.placeStatus im) ∧
      (s.cl.image = none → f.configFault = true ∧ f.interval = 10) := by
  refine ⟨s.statusSnapshot, rfl, rfl, fun im image => (State.statusSnapshot_shows image).placed, fun bad => ?_⟩
  simp [State.statusSnapshot, State.statusMs, State.good, bad, Config.faultPeriodMs]

/-- Once the countdown runs, an event that asks for a STATUS places it where one waits or no gap runs, and else leaves it
pending (R179, R180). -/
theorem eventEnd_placed {c : Instr} {s : State} (asks : asksStatus c s = true)
    (counts : (direct c s).lau.statusT.isSome = true) :
    ((direct c s).lau.stSlot.isSome = true ∨ (direct c s).lau.gapT = none →
      ∃ u : State, eventEnd c s = u.placeStatus) ∧
    ((direct c s).lau.stSlot = none → (direct c s).lau.gapT.isSome = true →
      (eventEnd c s).lau.schedule = (direct c s).lau.schedule ∧ (eventEnd c s).lau.statusPending = true) := by
  obtain ⟨u, done, same⟩ := eventEnd_report c s
  have asked : eventEnd c s = u.askStatus := by rw [done, State.report, asks]; rfl
  simp only [LAU.schedule, Prod.mk.injEq] at same
  obtain ⟨slot, gap, countdown⟩ := same
  have on : u.lau.statusT.isNone = false := by rw [countdown]; simpa [← Option.not_isSome] using counts
  rw [asked, ← slot, ← gap]
  refine ⟨fun free => ⟨u, ?_⟩, fun empty runs => ?_⟩
  · rw [State.askStatus, if_neg (by simp [on]), if_pos (by rcases free with x | x <;> simp [x])]
  · rw [State.askStatus, if_neg (by simp [on]), if_neg (by simp [empty, ← Option.not_isSome, runs])]
    exact ⟨by simp [LAU.schedule, slot, gap, countdown], rfl⟩

/-! ### The periods -/

/-- Settles O57. -/
theorem linePeriodsEnd : Obligations.LinePeriodsEnd := by
  unfold Obligations.LinePeriodsEnd
  refine ⟨fun s released => ?_, fun s released counts => ?_, fun s released gap => ?_⟩
  · exact ⟨_, exec_eq_event released rfl, reacts_eventEnd (c := .errorPeriodEnd) (by simp) s⟩
  · have fresh : direct .statusCountdownExpiry s = { s with lau := { s.lau with statusT := .started } } := if_pos counts
    have reacts := reacts_eventEnd (c := .statusCountdownExpiry) (by simp) s
    have kept : s.Reacts (eventEnd .statusCountdownExpiry s) := by
      have beside : s.Reacts (direct .statusCountdownExpiry s) := by
        rw [fresh]
        exact .beside rfl rfl rfl rfl rfl
      exact beside.trans reacts
    obtain ⟨places, waits⟩ := eventEnd_placed (c := .statusCountdownExpiry) (s := s) counts (by rw [fresh]; rfl)
    rw [fresh] at places waits
    have image : (eventEnd .statusCountdownExpiry s).cl.image = s.cl.image := by rw [kept.kept_cl]
    refine ⟨_, exec_eq_event released rfl, ?_, kept, fun free => ?_, fun empty runs => ?_⟩
    · by_cases free : s.lau.stSlot.isSome = true ∨ s.lau.gapT = none
      · obtain ⟨u, e⟩ := places free
        rw [e]; rfl
      · obtain ⟨empty, runs⟩ := not_or.mp free
        have same := (waits (by simpa using empty) (Option.isSome_iff_ne_none.mpr runs)).1
        exact congrArg (fun x => x.2.2) same
    · obtain ⟨u, e⟩ := places free
      rw [← image, e]
      exact u.placeStatus_slot
    · obtain ⟨same, pending⟩ := waits empty runs
      exact ⟨(congrArg Prod.fst same).trans empty, pending⟩
  · have reacts := reacts_eventEnd (c := .statusGapEnd) (by simp) s
    refine ⟨_, exec_eq_event released rfl, reacts, fun pending counts => ?_⟩
    have asks : (s.lau.gapT.isSome && s.lau.statusPending) = true := by simp [gap, pending]
    have image : (eventEnd .statusGapEnd s).cl.image = s.cl.image := by rw [reacts.kept_cl]; rfl
    obtain ⟨u, e⟩ := (eventEnd_placed (c := .statusGapEnd) asks counts).1 (.inr rfl)
    rw [← image, e]
    obtain ⟨f, slot, done, shows, -⟩ := u.placeStatus_slot
    exact ⟨f, slot, done, shows⟩

end Sys2Proof.Machine
end

section
/-! PROOFS. The ends of an attempt (R171 to R173), and what they do to the own claim (R90). -/

namespace Sys2Proof.Machine

/-! ### A success -/

section
variable {s : State} {a : Attempt} (line : s.lau.onLine = some a)
include line

/-- The CLAIM of the own claim in SENT makes it HOLDING (R90). -/
theorem State.attemptEnds_of_claim {c : ClaimFrame} (frame : a.frame = .claim c) :
    s.attemptEnds = if s.au.claim = .sent ∧ s.au.serial = c.serial then
      { s with lau := { s.lau with onLine := none }, au := { s.au with claim := .holding, holdOffT := Timer.started } }
      else { s with lau := { s.lau with onLine := none } } := by
  unfold State.attemptEnds State.claimSent
  simp only [line, frame]

theorem State.attemptEnds_of_other (other : ∀ c, a.frame ≠ .claim c) :
    s.attemptEnds = { s with lau := { s.lau with onLine := none } } := by
  unfold State.attemptEnds
  simp only [line]

theorem State.attemptEnds_reacts : State.Reacts { s with lau := { s.lau with onLine := none } } s.attemptEnds := by
  cases frame : a.frame
  case claim c =>
    rw [State.attemptEnds_of_claim line frame]
    split_ifs
    · exact .beside rfl rfl rfl rfl rfl
    · exact .beside rfl rfl rfl rfl rfl
  all_goals
    rw [State.attemptEnds_of_other line (by simp [frame])]
    exact .beside rfl rfl rfl rfl rfl

end

/-- A claim in HOLDING whose CLAIM no longer waits stands through its event, or its WITHDRAW waits. -/
theorem State.Leads.holding {s t : State} (h : s.Leads t) (holding : s.au.claim = .holding)
    (sent : ∀ x, s.lau.clSlot = some x → x.frame.serial ≠ s.au.serial) :
    (t.au.claim = .holding ∧ t.au.holdOffT = s.au.holdOffT ∧ t.au.serial = s.au.serial) ∨
      (t.au.claim ≠ .holding ∧ t.lau.wdSlot = some ⟨s.au.serial, 0, none⟩) := by
  obtain ⟨v, same | gone, after⟩ := h
  · rcases after with same' | ⟨closed, -⟩
    · have stands := same'.trans same
      simp only [State.claimPart, Prod.mk.injEq] at stands
      obtain ⟨claim, serial, holdOff, -⟩ := stands
      exact .inl ⟨claim.trans holding, holdOff, serial⟩
    · have claim : v.au.claim = s.au.claim := congrArg Prod.fst same
      simp [AU.claimOpen, claim, holding] at closed
  · have none' : ¬ (s.lau.clSlot.any (fun c => c.frame.serial == s.au.serial)) = true := by
      simpa [Option.any_eq_true] using sent
    have slots := gone.slots
    rw [State.withdrawn, if_neg none'] at slots
    have wd : v.lau.wdSlot = some ⟨s.au.serial, 0, none⟩ := congrArg Prod.fst slots
    have opens : v.Opens t := after.elim (.of_same gone.closed) fun x => x.2
    refine .inr ⟨opens.not_holding, ?_⟩
    rcases opens with ⟨-, -, same, -⟩ | ⟨-, -, same, -⟩ <;> exact same.trans wd

/-! ### A failure -/

/-- The Link Access Unit once a failed attempt has left the line and is counted (R172). -/
def LAU.failed (l : LAU) : LAU := { l with onLine := none, collisions := satInc 65535 l.collisions }

section
variable {s : State} {a : Attempt} (line : s.lau.onLine = some a)
include line

theorem State.attemptFails_early (early : a.fails + 1 < 8) :
    s.attemptFails = { s with lau := s.lau.failed.giveBack a (a.fails + 1) } := by
  unfold State.attemptFails
  rw [line]
  exact if_neg (Nat.not_le.mpr early)

theorem State.attemptFails_last (last : 8 ≤ a.fails + 1) :
    s.attemptFails = State.discard { s with lau := s.lau.failed } a := by
  unfold State.attemptFails
  rw [line]
  exact if_pos last

end

/-- A frame that is given back leaves the line, the counters and the flags of the unit. -/
theorem LAU.giveBack_kept (l : LAU) (a : Attempt) (n : Nat) :
    (l.giveBack a n).onLine = l.onLine ∧ (l.giveBack a n).collisions = l.collisions ∧ (l.giveBack a n).seq = l.seq ∧
      (l.giveBack a n).txDrops = l.txDrops ∧ (l.giveBack a n).degraded = l.degraded := by
  unfold LAU.giveBack LAU.dropWithdraw
  split <;> split_ifs <;> exact ⟨rfl, rfl, rfl, rfl, rfl⟩

theorem LAU.giveBack_withdraw {l : LAU} {a : Attempt} {k : Nat} (n : Nat) (frame : a.frame = .withdraw k) :
    l.giveBack a n = if l.wdSlot = none then { l with wdSlot := some ⟨k, n, some a.seq⟩ } else l := by
  cases slot : l.wdSlot <;> simp [LAU.giveBack, frame, slot]

theorem LAU.giveBack_claim {l : LAU} {a : Attempt} {c : ClaimFrame} (n : Nat) (frame : a.frame = .claim c) :
    l.giveBack a n = if l.clSlot ≠ none then l
      else if (l.wdSlot.any fun w => w.frame = c.serial) = true then { l with wdSlot := none }
      else { l with clSlot := some ⟨c, n, some a.seq⟩ } := by
  have both : (l.wdSlot.any fun w => w.frame == c.serial) = l.wdSlot.any fun w => decide (w.frame = c.serial) := rfl
  simp only [LAU.giveBack, frame, LAU.withdraws, LAU.dropWithdraw, both, Option.isSome_iff_ne_none]
  split_ifs <;> rfl

theorem LAU.giveBack_status {l : LAU} {a : Attempt} {f : StatusFrame} (n : Nat) (frame : a.frame = .status f) :
    l.giveBack a n = if l.stSlot = none then { l with stSlot := some ⟨f, n, some a.seq⟩ } else l := by
  cases slot : l.stSlot <;> simp [LAU.giveBack, frame, slot]

theorem LAU.giveBack_record {l : LAU} {a : Attempt} {r : RecordFrame} (n : Nat) (frame : a.frame = .record r) :
    l.giveBack a n = if l.rcSlot = none then { l with rcSlot := some ⟨r, n, some a.seq⟩ } else l := by
  cases slot : l.rcSlot <;> simp [LAU.giveBack, frame, slot]

/-- A frame that is discarded is counted as a TX drop and degrades the line (R173, R178). -/
theorem State.discard_counts (s : State) (a : Attempt) :
    (s.discard a).lau.txDrops = satInc 65535 s.lau.txDrops ∧ (s.discard a).lau.degraded = true ∧
      (s.discard a).lau.periodDrop = true ∧ (s.discard a).al.requested .linkDegraded = true ∧
      (s.discard a).lau.onLine = s.lau.onLine ∧ (s.discard a).lau.collisions = s.lau.collisions ∧
      (s.discard a).lau.seq = s.lau.seq := by
  unfold State.discard State.claimDiscarded LAU.dropWithdraw
  dsimp only
  have flag : ∀ u : State, u.degrade.al.requested .linkDegraded = true := fun u => by simp [State.degrade]
  split
  · split_ifs <;> exact ⟨rfl, rfl, rfl, flag _, rfl, rfl, rfl⟩
  · exact ⟨rfl, rfl, rfl, flag _, rfl, rfl, rfl⟩

theorem LAU.dropWithdraw_wdSlot (l : LAU) (n : Nat) :
    (l.dropWithdraw n).wdSlot = if (l.wdSlot.any fun w => w.frame == n) = true then none else l.wdSlot := by
  unfold LAU.dropWithdraw
  split_ifs <;> rfl

/-- A CLAIM that is discarded takes its waiting WITHDRAW with it, and in SENT its claim waits through the retry hold (R90). -/
theorem State.discard_claim (s : State) {a : Attempt} {c : ClaimFrame} (frame : a.frame = .claim c) :
    ((∃ w, s.lau.wdSlot = some w ∧ w.frame = c.serial) → (s.discard a).lau.wdSlot = none) ∧
      ((∀ w, s.lau.wdSlot = some w → w.frame ≠ c.serial) → (s.discard a).lau.wdSlot = s.lau.wdSlot) ∧
      (s.discard a).au = if s.au.claim = .sent ∧ s.au.serial = c.serial then
        { s.au with claim := .waiting, body := none, retryT := Timer.started } else s.au := by
  have slot : (s.discard a).lau.wdSlot =
      if (s.lau.wdSlot.any fun w => w.frame == c.serial) = true then none else s.lau.wdSlot := by
    unfold State.discard
    simp only [frame, State.claimDiscarded_frame]
    exact LAU.dropWithdraw_wdSlot _ _
  refine ⟨fun ⟨w, waits, own⟩ => ?_, fun other => ?_, ?_⟩
  · rw [slot, if_pos (by simp [waits, own])]
  · rw [slot, if_neg (by simpa [Option.any_eq_true] using other)]
  · unfold State.discard State.claimDiscarded
    simp only [frame]
    change State.au (if s.au.claim = .sent ∧ s.au.serial = c.serial then _ else _) = _
    split_ifs <;> rfl

theorem State.discard_other (s : State) {a : Attempt} (other : ∀ c, a.frame ≠ .claim c) :
    (s.discard a).au = s.au ∧ (s.discard a).lau.wdSlot = s.lau.wdSlot := by
  unfold State.discard
  dsimp only
  split
  next c frame => exact absurd frame (other c)
  next => exact ⟨rfl, rfl⟩

/-! ### The ends of an attempt -/

/-- Settles O56. -/
theorem attemptsEndOrFail : Obligations.AttemptsEndOrFail := by
  unfold Obligations.AttemptsEndOrFail
  intro s a released line
  refine ⟨?_, fun c => s.attemptEnds_of_claim line, s.attemptEnds_of_other line, ?_, fun early => ?_, fun last => ?_⟩
  · have on := reacts_eventEnd (c := .transmitEnd) (by simp) s
    refine ⟨_, exec_eq_event released rfl, (State.attemptEnds_reacts line).trans on, fun c frame sent own waits => ?_⟩
    have effect : direct .transmitEnd s =
        { s with lau := { s.lau with onLine := none }, au := { s.au with claim := .holding, holdOffT := Timer.started } } :=
      (s.attemptEnds_of_claim line frame).trans (if_pos ⟨sent, own⟩)
    have leads := eventEnd_leads .transmitEnd s
    rw [effect] at leads
    rw [← own]
    exact leads.holding rfl fun x slot => own ▸ waits x slot
  · have on := reacts_eventEnd (c := .failedAttempt) (by simp) s
    obtain ⟨record, onLine, seq, -, collisions, drops, -, drop, -, degraded, -⟩ := on.kept_lau
    have retry : (eventEnd .failedAttempt s).au.retryT = s.attemptFails.au.retryT := congrArg Kept.retryT on.kept
    have pv : (eventEnd .failedAttempt s).pv = s.pv := on.kept_pv.trans (by simp [direct])
    have ioc : (eventEnd .failedAttempt s).ioc = s.ioc := on.kept_ioc.trans (by simp [direct])
    rw [show direct .failedAttempt s = s.attemptFails from rfl] at record onLine seq collisions drops drop degraded on
    rcases Nat.lt_or_ge (a.fails + 1) 8 with early | last
    · rw [State.attemptFails_early line early] at record onLine seq collisions drops degraded retry
      obtain ⟨onLine', collisions', seq', drops', degraded'⟩ := s.lau.failed.giveBack_kept a (a.fails + 1)
      refine ⟨_, exec_eq_event released rfl, onLine.trans onLine', collisions.trans collisions', seq.trans seq', pv, ioc,
        fun _ => ⟨drops.trans drops', degraded.trans degraded', retry, fun f frame empty => ?_, fun f r frame newer => ?_⟩,
        fun last => absurd last (by omega)⟩
      · rw [record, LAU.giveBack_record _ frame]
        exact congrArg LAU.rcSlot (if_pos empty)
      · rw [record, LAU.giveBack_record _ frame, if_neg (by simp [LAU.failed, newer])]
        exact newer
    · have flags := on.flags .linkDegraded
      rw [State.attemptFails_last line last] at onLine seq collisions drops drop degraded retry flags
      obtain ⟨drops', degraded', drop', flag, onLine', collisions', seq'⟩ :=
        State.discard_counts { s with lau := s.lau.failed } a
      refine ⟨_, exec_eq_event released rfl, onLine.trans onLine', collisions.trans collisions', seq.trans seq', pv, ioc,
        fun early => absurd early (by omega), fun _ => ⟨drops.trans drops', degraded.trans degraded', drop.trans drop',
          flags flag, fun c frame sent own => ?_⟩⟩
      rw [retry, (State.discard_claim _ frame).2.2, if_pos ⟨sent, own⟩]
  · rw [State.attemptFails_early line early]
    refine ⟨fun n frame => ?_, fun c frame => ?_, fun f frame => ?_, fun r frame => ?_⟩
    · rw [LAU.giveBack_withdraw _ frame]; rfl
    · rw [LAU.giveBack_claim _ frame]; rfl
    · rw [LAU.giveBack_status _ frame]; rfl
    · rw [LAU.giveBack_record _ frame]; rfl
  · rw [State.attemptFails_last line last]
    refine ⟨fun c frame => ?_, fun other => State.discard_other _ other⟩
    obtain ⟨gone, stands, au⟩ := State.discard_claim { s with lau := s.lau.failed } frame
    refine ⟨gone, stands, fun sent own => au.trans (if_pos ⟨sent, own⟩), fun other => au.trans (if_neg other)⟩

end Sys2Proof.Machine
end

section
/-! PROOFS. The arc record, the arc rings and the table of the ice state (R129 to R138). -/

namespace Sys2Proof.Machine

/-! ### The rings through an event -/

/-- The arc rings with the counts of the window in progress. -/
def ICU.rings (u : ICU) : List Nat × List Nat × Nat × Nat := u.arcs.2

theorem satInc_min (k n : Nat) : satInc k n = min k (n + 1) := by
  unfold satInc
  split_ifs <;> omega

/-- An advance of the rings: both take the counts of the window, which start again from 0 (R130). -/
theorem ICU.advance_rings (u : ICU) (n : Nat) :
    (u.advance n).ringA = u.ringA.tail ++ [u.winA] ∧ (u.advance n).ringB = u.ringB.tail ++ [u.winB] ∧
      (u.advance n).winA = 0 ∧ (u.advance n).winB = 0 ∧ (u.advance n).arcPan = u.arcPan := by
  unfold ICU.advance ICU.stepStreak ICU.formSum advanceRing
  dsimp only
  split_ifs <;> simp

theorem ICU.advance_sum (u : ICU) (n : Nat) : (u.advance n).arcSum =
    match u.arcPan with | some .a => (u.advance n).ringA.sum | some .b => (u.advance n).ringB.sum | none => 0 := by
  have sum : (u.advance n).arcSum = (u.advance n).ringSum := by
    unfold ICU.advance ICU.stepStreak ICU.formSum
    dsimp only
    split_ifs <;> rfl
  rw [sum, ICU.ringSum, (u.advance_rings n).2.2.2.2]
  cases u.arcPan with
  | none => rfl
  | some p => cases p <;> exact total_eq_sum _

/-- The clear streak counts a low arc sum in CLEARING, saturating at 16 (R137). -/
theorem ICU.advance_streak (u : ICU) (n : Nat) : (u.advance n).clearStreak =
    if u.state = .clearing then
      if (u.advance n).arcSum ≤ n then min 16 (u.clearStreak + 1) else 0
    else u.clearStreak := by
  unfold ICU.advance ICU.stepStreak ICU.formSum
  by_cases clearing : u.state = .clearing
  · simp [clearing, satInc_min, Config.clearAdvances]
  · simp [clearing]

/-- A reaction throws away the window in progress, gives the arcs to a pantograph, or leaves the roof wiring. -/
theorem Reaction.wires {w x : Prop} {s t : State} (m : Reaction w x s t) :
    t = s.abandonWindow ∨ (∃ p, t = { s with icu := ({ s.icu with arcPan := some p } : ICU).formSum }) ∨
      Reaction False x s t := by
  induction m
  case abandon => exact .inl rfl
  case arcPan p _ => exact .inr (.inl ⟨p, rfl⟩)
  all_goals exact .inr (.inr (by constructor <;> assumption))

/-- On a standing roof wiring a reaction leaves the window, the arc pantograph and the rings. -/
theorem Reaction.arcs_stand {x : Prop} {s t : State} (m : Reaction False x s t) :
    t.icu.arcPan = s.icu.arcPan ∧ t.icu.rings = s.icu.rings ∧ t.lq = s.lq := by
  have same : ∀ {u : State}, u.icu.arcs = s.icu.arcs → u.lq = s.lq →
      u.icu.arcPan = s.icu.arcPan ∧ u.icu.rings = s.icu.rings ∧ u.lq = s.lq := fun arcs lq =>
    ⟨congrArg (fun x => x.1.2.2.1) arcs, congrArg Prod.snd arcs, lq⟩
  induction m
  case abandon w => exact w.elim
  case arcPan w => exact w.elim
  case ice im _ => exact same (s.formIce_arcs im) (by simp)
  case guardHeaters im _ => exact same (s.guardHeaters_arcs im) (by simp)
  case pass im _ => exact same (s.reactPass_arcs im) (by simp)
  case loadScrape im _ => exact same (s.loadScrape_arcs im) (by simp)
  case severe im _ =>
    unfold State.judgeSevere
    dsimp only
    split_ifs <;> exact ⟨rfl, rfl, rfl⟩
  case clear a =>
    unfold State.reportAndClear
    dsimp only
    split_ifs <;> exact ⟨rfl, rfl, rfl⟩
  all_goals exact same (by simp) (by simp)

/-- A reaction leaves the rings and the index of the window, or throws away a window that held a sample (R18). -/
theorem Move.rings {s t : State} (m : Move s t) :
    (t.icu.rings = s.icu.rings ∧ t.lq.index = s.lq.index) ∨ (t.lq.index = 0 ∧ 0 < s.lq.index) := by
  rcases m.wires with rfl | ⟨p, rfl⟩ | stands
  · have lq : s.abandonWindow.lq.index = 0 := by
      unfold State.abandonWindow
      dsimp only
      split
      · split_ifs <;> rfl
      · rfl
    by_cases held : 0 < s.lq.index
    · exact .inr ⟨lq, held⟩
    · refine .inl ⟨?_, lq.trans (by omega)⟩
      unfold State.abandonWindow
      dsimp only
      simp only [held, ite_false]
      split <;> rfl
  · exact .inl ⟨rfl, rfl⟩
  · obtain ⟨-, rings, lq⟩ := stands.arcs_stand
    exact .inl ⟨rings, by rw [lq]⟩

/-- An event leaves the rings of a window that stands. -/
theorem Reactions.rings {s t : State} (m : Moves s t) :
    (t.icu.rings = s.icu.rings ∧ t.lq.index = s.lq.index) ∨ (t.lq.index = 0 ∧ 0 < s.lq.index) := by
  induction m with
  | refl => exact .inl ⟨rfl, rfl⟩
  | tail _ k ih =>
    rcases Move.rings k with ⟨rings, index⟩ | ⟨gone, held⟩
    · rw [rings, index]
      exact ih
    · rcases ih with ⟨-, index⟩ | ⟨empty, -⟩
      · exact .inr ⟨gone, index ▸ held⟩
      · rw [empty] at held
        exact absurd held (lt_irrefl 0)

theorem moves_event (c : Instr) (s : State) : Moves (direct c s) (eventEnd c s) :=
  (moves_settled c s).trans (moves_finish s _ _ _)

theorem eventEnd_rings {c : Instr} {s : State} (index : (eventEnd c s).lq.index = (direct c s).lq.index) :
    (eventEnd c s).icu.rings = (direct c s).icu.rings := by
  rcases Reactions.rings (moves_event c s) with ⟨same, -⟩ | ⟨gone, held⟩
  · exact same
  · omega

/-! ### An arc edge -/

/-- The arc record after an arc of a pantograph UP in COLLECTING connection (R132). -/
theorem State.countArc_collecting (s : State) (im : Image) {p : Pan} (up : (s.pc p).upCollecting = true) :
    (s.countArc im p).icu.arcCount = wrapInc 255 s.icu.arcCount ∧
      (s.countArc im p).icu.arcFields =
        (if im.arcLast = true ∨ s.icu.arcFields = none then
          some ⟨p, s.lq.windowNumber, s.ioc.distance, s.ioc.speed, s.lq.q⟩ else s.icu.arcFields) ∧
      (s.countArc im p).icu.winA = (if p = .a then min 255 (s.icu.winA + 1) else s.icu.winA) ∧
      (s.countArc im p).icu.winB = (if p = .b then min 255 (s.icu.winB + 1) else s.icu.winB) := by
  unfold State.countArc
  rw [if_pos up]
  cases p <;> simp [ICU.recordArc, satInc_min]

section
variable {s : State} {im : Image} {p : Pan} {rising : Bool} {us : Nat} (image : s.cl.image = some im)
include image

/-- An edge that is counted notes its time and is handed to the Ice-Clearing Unit (R193). -/
theorem State.arcInput_taken (counted : rising ≠ s.arcInverted p)
    (apart : ∀ last, s.ioc.lastArc p = some last → last + 1000 ≤ us) :
    ∃ u : State, s.arcInput p rising us = u.countArc im p ∧ u.icu = s.icu ∧ u.lq = s.lq ∧ u.pc p = s.pc p ∧
      u.ioc.distance = s.ioc.distance ∧ u.ioc.speed = s.ioc.speed ∧ u.ioc.lastArc p = some us ∧
      u.ioc.lastArc p.other = s.ioc.lastArc p.other := by
  have edge : (countedEdge (s.arcInverted p) rising && !tooSoon (s.ioc.lastArc p) Config.arcQuietUs us) = true := by
    simp only [Bool.and_eq_true, Bool.not_eq_true', countedEdge, bne_iff_ne, ne_eq]
    refine ⟨fun e => counted e.symm, ?_⟩
    cases last : s.ioc.lastArc p with
    | none => rfl
    | some n => exact decide_eq_false (Nat.not_lt.mpr (apart n last))
  unfold State.arcInput
  rw [if_pos edge]
  cases p
  · refine ⟨{ s with ioc := { s.ioc with lastArcA := some us } }, ?_, rfl, rfl, rfl, rfl, rfl, rfl, rfl⟩
    dsimp only
    refine State.ifGood_of_some (im := im) ?_ _
    exact image
  · refine ⟨{ s with ioc := { s.ioc with lastArcB := some us } }, ?_, rfl, rfl, rfl, rfl, rfl, rfl, rfl⟩
    dsimp only
    refine State.ifGood_of_some (im := im) ?_ _
    exact image

end

theorem State.arcInput_ignored {s : State} {p : Pan} {rising : Bool} {us : Nat}
    (no : rising = s.arcInverted p ∨ ∃ last, s.ioc.lastArc p = some last ∧ us < last + 1000) :
    s.arcInput p rising us = s := by
  unfold State.arcInput
  rw [if_neg]
  rcases no with rfl | ⟨last, known, soon⟩
  · simp [countedEdge]
  · have : tooSoon (s.ioc.lastArc p) Config.arcQuietUs us = true := by
      rw [known]
      exact decide_eq_true soon
    simp [this]

theorem State.countArc_ioc (s : State) (im : Image) (p : Pan) :
    (s.countArc im p).ioc = s.ioc ∧ (s.countArc im p).lq = s.lq := by
  unfold State.countArc
  split_ifs
  · cases p <;> exact ⟨rfl, rfl⟩
  · exact ⟨rfl, rfl⟩

/-! ### The roof wiring -/

theorem wiringChanged_iff {s t : State} : wiringChanged s t = true ↔
    ∃ p, (s.pc p).upCollecting ≠ (t.pc p).upCollecting ∨ (s.pc p).disc ≠ (t.pc p).disc := by
  simp only [wiringChanged, Bool.or_eq_true, bne_iff_ne]
  constructor
  · rintro (((a | b) | a) | b)
    · exact ⟨.a, .inl a⟩
    · exact ⟨.b, .inl b⟩
    · exact ⟨.a, .inr a⟩
    · exact ⟨.b, .inr b⟩
  · rintro ⟨p, h | h⟩ <;> cases p
    · exact .inl (.inl (.inl h))
    · exact .inl (.inl (.inr h))
    · exact .inl (.inr h)
    · exact .inr h

/-- Taking the arc pantograph moves the arc pantograph and its sum alone (R131). -/
theorem State.takeArcPan_rest (s t : State) :
    (s.takeArcPan t).lq = t.lq ∧ (s.takeArcPan t).icu.rings = t.icu.rings ∧
      (s.takeArcPan t).icu.clearStreak = t.icu.clearStreak := by
  unfold State.takeArcPan
  split_ifs <;> exact ⟨rfl, rfl, rfl⟩

theorem State.takeArcPan_entering {s t : State} {p : Pan} (was : (s.pc p).upCollecting = false)
    (is : (t.pc p).upCollecting = true) (alone : (t.pc p.other).upCollecting = false) :
    s.takeArcPan t = { t with icu := ({ t.icu with arcPan := some p } : ICU).formSum } := by
  unfold State.takeArcPan
  cases p with
  | a =>
    have was : s.pcA.upCollecting = false := was
    have is : t.pcA.upCollecting = true := is
    simp [was, is]
  | b =>
    have was : s.pcB.upCollecting = false := was
    have is : t.pcB.upCollecting = true := is
    have alone : t.pcA.upCollecting = false := alone
    simp [was, is, alone]

theorem State.takeArcPan_standing {s t : State} (h : ∀ p, (t.pc p).upCollecting = true → (s.pc p).upCollecting = true) :
    s.takeArcPan t = t := by
  have a : ¬ (t.pcA.upCollecting && !s.pcA.upCollecting) = true := by
    have : t.pcA.upCollecting = true → s.pcA.upCollecting = true := h .a
    simpa using this
  have b : ¬ (t.pcB.upCollecting && !s.pcB.upCollecting) = true := by
    have : t.pcB.upCollecting = true → s.pcB.upCollecting = true := h .b
    simpa using this
  unfold State.takeArcPan
  rw [if_neg a, if_neg b]

theorem State.abandonWindow_eq {t : State} {im : Image} (image : t.cl.image = some im) :
    t.abandonWindow = { t with lq := t.lq.abandon, icu := if 0 < t.lq.index then t.icu.advance im.tClear else t.icu } := by
  unfold State.abandonWindow
  simp only [image]
  split_ifs <;> rfl

/-! ### The ice state -/

/-- The removal of a want leaves the wants of the other kinds. -/
theorem State.dropWant_wants (s : State) (k : ClaimKind) :
    (s.dropWant k).au.raise = (if k = .raise then none else s.au.raise) ∧
      (s.dropWant k).au.scrape = (if k = .scrape then none else s.au.scrape) ∧
      (s.dropWant k).au.heat = (if k = .heat then none else s.au.heat) := by
  have gone : ∀ t : State,
      let u := if s.au.claims k then t.withdraw else t
      u.au.raise = t.au.raise ∧ u.au.scrape = t.au.scrape ∧ u.au.heat = t.au.heat := by
    intro t
    dsimp only
    split_ifs
    · unfold State.withdraw State.placeWithdraw
      dsimp only
      split_ifs <;> exact ⟨rfl, rfl, rfl⟩
    · exact ⟨rfl, rfl, rfl⟩
  unfold State.dropWant
  cases k <;> exact gone _

/-- The removal of a want takes a claim of its kind with it. -/
theorem State.dropWant_claim (s : State) {k : ClaimKind} (own : s.au.claims k = true) :
    (s.dropWant k).au.claimOpen = false := by
  unfold State.dropWant
  dsimp only
  rw [if_pos own]
  exact (State.withdraw_closed _).1

/-- The removal of a want leaves a claim of another kind with its body. -/
theorem State.dropWant_other (s : State) {k : ClaimKind} (other : s.au.claims k = false) :
    (s.dropWant k).au.claim = s.au.claim ∧ (s.dropWant k).au.body = s.au.body := by
  unfold State.dropWant
  simp only [other]
  cases k <;> exact ⟨rfl, rfl⟩

/-- The exit from CLEARING on the Ice-Clearing Unit: every heater is off and a pass ends (R138). -/
theorem State.leaveClearing_icu (s : State) (im : Image) :
    (s.leaveClearing im).icu = { s.icu with
      heaterA := false, heaterB := false, draw := 0, scrape := none,
      scrapeCount := if s.icu.scrape.isSome then none else s.icu.scrapeCount,
      cooldown := if s.icu.scrape.isSome then im.cooldownPulses else s.icu.cooldown } := by
  have icu : ((s.dropWant .scrape).dropWant .heat).icu = s.icu := by simp
  unfold State.leaveClearing State.endPass State.heatersOff
  rw [icu]
  cases pass : s.icu.scrape with
  | none => simp [pass]
  | some p => simp [pass, State.endScrape]

/-- The exit from CLEARING on the wants: SCRAPE and HEAT go, with a claim of theirs (R138). -/
theorem State.leaveClearing_au (s : State) (im : Image) :
    (s.leaveClearing im).au.raise = s.au.raise ∧ (s.leaveClearing im).au.scrape = none ∧
      (s.leaveClearing im).au.heat = none ∧
      ∀ b, s.au.claimOpen = true → s.au.body = some b → b.kind ≠ .raise → (s.leaveClearing im).au.claimOpen = false := by
  have au : (s.leaveClearing im).au = ((s.dropWant .scrape).dropWant .heat).au := by simp [State.leaveClearing]
  obtain ⟨raise, scrape, -⟩ := s.dropWant_wants .scrape
  obtain ⟨raise', scrape', heat'⟩ := (s.dropWant .scrape).dropWant_wants .heat
  rw [au]
  refine ⟨raise'.trans raise, scrape'.trans scrape, heat', fun b opened body kind => ?_⟩
  by_cases own : s.au.claims .scrape = true
  · have closed := s.dropWant_claim own
    exact State.closed_congr closed ((State.dropWant_yields _ .heat).of_closed closed)
  · have not : b.kind ≠ .scrape := by simpa [AU.claims, opened, body] using own
    obtain ⟨claim, stands⟩ := s.dropWant_other (k := .scrape) (by simpa using own)
    refine State.dropWant_claim _ ?_
    have heat : b.kind = .heat := by
      cases k : b.kind
      · exact absurd k kind
      · exact absurd k not
      · rfl
    have still : (s.dropWant .scrape).au.claimOpen = s.au.claimOpen := by simp [AU.claimOpen, claim]
    simp [AU.claims, still, opened, stands, body, heat]

/-- CLEARING that ends: the state of the table, the clear streak at 0, and the exit from CLEARING (R135, R138). -/
theorem State.formIce_leaves {s : State} {im : Image} (clearing : s.icu.state = .clearing)
    (ends : s.clearingEnds im = true) :
    (s.formIce im).icu = { (s.leaveClearing im).icu with state := s.nextIce im, clearStreak := 0 } ∧
      (s.formIce im).au = (s.leaveClearing im).au := by
  unfold State.formIce
  rw [if_pos clearing, if_pos ends]
  dsimp only
  split_ifs <;> exact ⟨rfl, rfl⟩

theorem State.formIce_stays {s : State} {im : Image} (clearing : s.icu.state = .clearing)
    (stays : s.clearingEnds im = false) : s.formIce im = s := by
  unfold State.formIce
  rw [if_pos clearing, if_neg (by simp [stays])]

/-- Where CLEARING does not stay, the ice state is that of the table, with the clear streak at 0 (R135, R136). -/
theorem State.formIce_moves {s : State} {im : Image} (moves : s.icu.state ≠ .clearing ∨ s.clearingEnds im = true) :
    (s.formIce im).icu.state = s.nextIce im ∧ (s.formIce im).icu.clearStreak = 0 := by
  by_cases clearing : s.icu.state = .clearing
  · rw [(State.formIce_leaves clearing (moves.resolve_left (not_not.mpr clearing))).1]
    exact ⟨rfl, rfl⟩
  · unfold State.formIce
    rw [if_neg clearing]
    exact ⟨rfl, rfl⟩

theorem State.clearingEnds_iff {s : State} {im : Image} : s.clearingEnds im = true ↔
    s.iceOff im = true ∨ s.iceHold = true ∨ (s.icu.mode = .auto ∧ 16 ≤ s.icu.clearStreak) := by
  simp only [State.clearingEnds, Bool.or_eq_true, Bool.and_eq_true, decide_eq_true_eq, or_assoc]
  exact Iff.rfl

theorem State.nextIce_watching {s : State} {im : Image} (on : s.iceOff im = false) (free : s.iceHold = false) :
    s.nextIce im = if s.icu.mode = .forced ∨ im.tIce ≤ s.icu.arcSum then .clearing else .watch := by
  simp only [State.nextIce, on, free]
  by_cases forced : s.icu.mode = .forced <;> simp [forced]

/-- Settles O50. -/
theorem arcEdgeIsRecorded : Obligations.ArcEdgeIsRecorded := by
  unfold Obligations.ArcEdgeIsRecorded
  refine ⟨fun s im p rising us released image => ⟨fun no => ?_, fun counted apart => ?_⟩,
    fun s im code valid released image last => ?_, fun u n => ?_, fun s t im image => ?_, fun s im => ?_⟩
  · have on := reacts_eventEnd (c := .arcEdge p rising us) (by simp) s
    rw [show direct (.arcEdge p rising us) s = s from State.arcInput_ignored no] at on
    exact ⟨_, exec_eq_event released rfl, on⟩
  · obtain ⟨u, taken, icu, lq, pc, distance, speed, edge, other⟩ := State.arcInput_taken image counted apart
    have effect : direct (.arcEdge p rising us) s = u.countArc im p := taken
    have on := reacts_eventEnd (c := .arcEdge p rising us) (by simp) s
    have rings : (eventEnd (.arcEdge p rising us) s).lq = s.lq →
        (eventEnd (.arcEdge p rising us) s).icu.rings = (u.countArc im p).icu.rings := fun stands => by
      rw [← effect]
      exact eventEnd_rings (by rw [stands, effect, (u.countArc_ioc im p).2, lq])
    rw [effect] at on
    obtain ⟨ioc, -⟩ := u.countArc_ioc im p
    refine ⟨_, exec_eq_event released rfl, ?_, ?_, fun low => ?_, fun up => ?_⟩
    · rw [on.kept_ioc, ioc, edge]
    · rw [on.kept_ioc, ioc, other]
    · have idle : u.countArc im p = u := if_neg (by simp [pc, low])
      rw [idle] at on rings
      refine ⟨on.kept_arcCount.trans (by rw [icu]), on.kept_arcFields.trans (by rw [icu]), fun stands => ?_⟩
      have same := rings stands
      rw [icu] at same
      exact ⟨congrArg (fun x => x.2.2.1) same, congrArg (fun x => x.2.2.2) same⟩
    · obtain ⟨count, fields, winA, winB⟩ := u.countArc_collecting im (pc ▸ up)
      rw [icu] at count fields winA winB
      rw [lq, distance, speed] at fields
      refine ⟨on.kept_arcCount.trans count, on.kept_arcFields.trans fields, fun stands => ?_⟩
      have same := rings stands
      exact ⟨(congrArg (fun x => x.2.2.1) same).trans winA, (congrArg (fun x => x.2.2.2) same).trans winB⟩
  · have effect := direct_windowEnd image last (code := code) (valid := valid)
    have icu : (direct (.sampleEvent code valid) s).icu = s.icu.advance im.tClear := by
      rw [effect]
      unfold State.windowEnd
      dsimp only
      split_ifs <;> simp
    have empty : (direct (.sampleEvent code valid) s).lq.index = 0 := by rw [effect, State.windowEnd_lq]; rfl
    have rings : (eventEnd (.sampleEvent code valid) s).icu.rings = (s.icu.advance im.tClear).rings := by
      rw [← icu]
      refine eventEnd_rings ?_
      rcases (reacts_eventEnd (c := .sampleEvent code valid) (by simp) s).lq with same | gone
      · rw [same]
      · rw [gone, empty]; rfl
    obtain ⟨ringA, ringB, winA, winB, -⟩ := s.icu.advance_rings im.tClear
    exact ⟨_, exec_eq_event released rfl, (congrArg Prod.fst rings).trans ringA,
      (congrArg (fun x => x.2.1) rings).trans ringB, (congrArg (fun x => x.2.2.1) rings).trans winA,
      (congrArg (fun x => x.2.2.2) rings).trans winB⟩
  · obtain ⟨ringA, ringB, winA, winB, -⟩ := u.advance_rings n
    have streak := u.advance_streak n
    refine ⟨ringA, ringB, winA, winB, u.advance_sum n, fun other => ?_, fun clearing high => ?_, fun clearing low => ?_⟩
    · rw [streak, if_neg other]
    · rw [streak, if_pos clearing, if_neg (by omega)]
    · rw [streak, if_pos clearing, if_pos low]
  · refine ⟨fun changed => ?_, fun p was is alone => ?_, fun standing => ?_, fun same => ?_⟩
    · have left : s.wiring t = s.takeArcPan t.abandonWindow := by
        rw [State.wiring, if_pos (wiringChanged_iff.mpr changed)]
      obtain ⟨lq, rings, streak⟩ := s.takeArcPan_rest t.abandonWindow
      rw [State.abandonWindow_eq image] at lq rings streak
      rw [left, State.abandonWindow_eq image]
      obtain ⟨ringA, ringB, winA, winB, -⟩ := t.icu.advance_rings im.tClear
      refine ⟨lq, fun held => ?_, fun empty => ?_⟩
      · rw [if_pos held] at rings streak ⊢
        exact ⟨(congrArg Prod.fst rings).trans ringA, (congrArg (fun x => x.2.1) rings).trans ringB,
          (congrArg (fun x => x.2.2.1) rings).trans winA, (congrArg (fun x => x.2.2.2) rings).trans winB, streak⟩
      · rw [if_neg (by omega)] at rings streak ⊢
        exact ⟨congrArg Prod.fst rings, congrArg (fun x => x.2.1) rings, congrArg (fun x => x.2.2.1) rings,
          congrArg (fun x => x.2.2.2) rings, streak⟩
    · obtain ⟨u, e, pcs⟩ : ∃ u : State, s.wiring t = s.takeArcPan u ∧ ∀ q, u.pc q = t.pc q := by
        refine ⟨_, rfl, fun q => ?_⟩
        split_ifs
        · rw [State.abandonWindow_eq image]; rfl
        · rfl
      rw [e, State.takeArcPan_entering was (by rw [pcs, is]) (by rw [pcs, alone])]
      exact ⟨rfl, by cases p <;> exact total_eq_sum _⟩
    · have still : ∀ u : State, u.pcA = t.pcA → u.pcB = t.pcB → s.takeArcPan u = u := fun u a b =>
        State.takeArcPan_standing fun p => by
          have pc : u.pc p = t.pc p := by cases p <;> [exact a; exact b]
          rw [pc]
          exact standing p
      unfold State.wiring
      split_ifs
      · rw [still _ (by simp) (by simp), State.abandonWindow_eq image]
        dsimp only
        split_ifs
        · exact (t.icu.advance_rings im.tClear).2.2.2.2
        · rfl
      · rw [still t rfl rfl]
    · have stands : ¬ wiringChanged s t = true := fun changed => same (wiringChanged_iff.mp changed)
      rw [State.wiring, if_neg stands]
      refine State.takeArcPan_standing fun p up => ?_
      by_contra low
      exact same ⟨p, .inl fun e => low (e.trans up)⟩
  · have ends : (s.iceOff im = true ∨ s.iceHold = true ∨ (s.icu.mode = .auto ∧ 16 ≤ s.icu.clearStreak)) →
        s.icu.state ≠ .clearing ∨ s.clearingEnds im = true := fun x => .inr (State.clearingEnds_iff.mpr x)
    refine ⟨fun off => ?_, fun on hold => ?_, fun on free clearing stays => ?_, fun on free other => ?_,
      fun clearing leaves => ?_, fun on free clearing auto many arcs => ?_, fun on free clearing auto many few => ?_⟩
    · obtain ⟨state, streak⟩ := State.formIce_moves (ends (.inl off))
      exact ⟨state.trans (by simp [State.nextIce, off]), streak⟩
    · obtain ⟨state, streak⟩ := State.formIce_moves (ends (.inr (.inl hold)))
      exact ⟨state.trans (by simp [State.nextIce, on, hold]), streak⟩
    · refine State.formIce_stays clearing ?_
      rw [← Bool.not_eq_true, State.clearingEnds_iff]
      simp [on, free, stays]
    · obtain ⟨state, streak⟩ := State.formIce_moves (im := im) (.inl other)
      exact ⟨state.trans (State.nextIce_watching on free), streak⟩
    · obtain ⟨icu, au⟩ := State.formIce_leaves clearing (State.clearingEnds_iff.mpr leaves)
      obtain ⟨raise, scrape, heat, claim⟩ := s.leaveClearing_au im
      rw [icu, au, s.leaveClearing_icu im]
      exact ⟨rfl, rfl, rfl, heat, scrape, rfl, raise, claim, fun p pass => by simp [pass, Image.cooldownPulses]⟩
    · obtain ⟨state, streak⟩ := State.formIce_moves (ends (.inr (.inr ⟨auto, many⟩)))
      exact ⟨state.trans ((State.nextIce_watching on free).trans (if_pos (.inr arcs))), streak⟩
    · obtain ⟨state, streak⟩ := State.formIce_moves (ends (.inr (.inr ⟨auto, many⟩)))
      exact ⟨state.trans ((State.nextIce_watching on free).trans (if_neg (by simp [auto, few]))), streak⟩

end Sys2Proof.Machine
end

section
/-! PROOFS. The configuration-good event (R202, R204): the levels formed afresh, the absent pantographs and the lower timers. -/

namespace Sys2Proof.Machine

/-! ### An accepted level at the IOC, the breaker state and the flags -/

theorem State.setView_ioc (s : State) (d : Direction) : (s.setView d).ioc = { s.ioc with view := d } := by
  unfold State.setView State.ifGood
  split_ifs with same
  · rw [← same]
  · split <;> simp

/-- An acceptance of any input but DIR changes its level and its run count at the IOC (R190). -/
theorem State.accept_ioc (s : State) {i : LevelInput} (b : Bool) (h : i ≠ .dir) :
    (s.accept i b).ioc = { s.ioc with levels := withLevel s.ioc.levels i b, runs := s.ioc.runs.set i 0 } := by
  unfold State.accept State.readers
  cases i
  case dir => exact absurd rfl h
  case eloop => cases b <;> simp [State.eloopLevel]
  all_goals simp

/-- The breaker state and the stuck flag take an accepted level of BRK_FB alone (R48, R52). -/
theorem State.accept_breaker (s : State) (i : LevelInput) (b : Bool) :
    (s.accept i b).bi.closed = (if i = .brkFb then b else s.bi.closed) ∧
      (s.accept i b).bi.stuck = (if i = .brkFb then s.bi.stuck && b else s.bi.stuck) := by
  unfold State.accept State.readers
  cases i
  case brkFb => exact ⟨rfl, rfl⟩
  all_goals simp

theorem State.setView_requested {s : State} {k : AlertKind} (d : Direction) (h : s.al.requested k = true) :
    (s.setView d).al.requested k = true := by
  have changeover : ∀ (t : State) (im : Image), t.al.requested k = true → (t.ccDirection im).al.requested k = true := by
    intro t im x
    unfold State.ccDirection
    dsimp only
    split
    · exact x
    · exact x
    · exact (State.Reacts.returnToNormal _ im).flags k x
    · exact (State.Reacts.abort _).flags k x
  unfold State.setView State.ifGood
  split_ifs
  · exact h
  · split
    · exact changeover _ _ h
    · exact h

theorem State.accept_requested {s : State} {k : AlertKind} (i : LevelInput) (b : Bool) (h : s.al.requested k = true) :
    (s.accept i b).al.requested k = true := by
  have start : ({ s with ioc := { s.ioc with
      levels := withLevel s.ioc.levels i b, runs := s.ioc.runs.set i 0 } } : State).al.requested k = true := h
  unfold State.accept
  generalize ({ s with ioc := { s.ioc with
      levels := withLevel s.ioc.levels i b, runs := s.ioc.runs.set i 0 } } : State) = t at start
  unfold State.readers
  cases i
  case upA | upB => exact (show (t.heightLevel _ b).al = t.al by simp) ▸ start
  case eloop =>
    cases b
    · exact (State.Reacts.eloopOpens t).flags k start
    · exact start
  case dir =>
    dsimp only [State.dirAccepted]
    split_ifs
    · exact State.setView_requested _ start
    · exact State.request_mono _ _ _ start
    · exact start
  all_goals exact start

/-! ### The levels formed afresh -/

theorem Levels.ext_levelOf {l m : Levels} (h : ∀ i, levelOf l i = levelOf m i) : l = m := by
  cases l
  cases m
  simp only [Levels.mk.injEq]
  exact ⟨h .upA, h .downA, h .upB, h .downB, h .airA, h .airB, h .brkFb, h .eloop, h .dir⟩

theorem State.reformInput_level (s : State) (l : Levels) {i : LevelInput} (h : i ≠ .dir) (j : LevelInput) :
    levelOf (s.reformInput l i).ioc.levels j = if j = i then levelOf l j else levelOf s.ioc.levels j := by
  unfold State.reformInput
  split_ifs with same own own
  · rw [own, same]
  · rfl
  · rw [s.accept_ioc _ h, levelOf_withLevel, if_pos own, own]
  · rw [s.accept_ioc _ h, levelOf_withLevel, if_neg own]

/-- The breaker state is the level of BRK_FB. -/
def State.InStep (s : State) : Prop := s.bi.closed = levelOf s.ioc.levels .brkFb

theorem State.InStep.reformInput {s : State} (h : s.InStep) (l : Levels) {i : LevelInput} (other : i ≠ .dir) :
    (s.reformInput l i).InStep := by
  unfold State.reformInput
  split_ifs
  · exact h
  · unfold State.InStep at h ⊢
    rw [s.accept_ioc _ other, (s.accept_breaker i _).1, levelOf_withLevel, h]
    by_cases own : i = .brkFb
    · simp [own]
    · rw [if_neg own, if_neg (Ne.symm own)]

/-- The levels formed afresh are those of the pins, with the run counts 0, and the view is that of DIR (R191, R198). -/
theorem State.reformLevels_ioc (s : State) (l : Levels) :
    (s.reformLevels l).ioc.levels = l ∧ (s.reformLevels l).ioc.runs = .zero ∧
      (s.reformLevels l).ioc.view = directionOf l.dir := by
  rw [State.reformLevels_eq, State.setView_ioc]
  refine ⟨Levels.ext_levelOf fun i => ?_, rfl, rfl⟩
  dsimp only
  rw [levelOf_withLevel]
  split_ifs with dir
  · rw [dir]; rfl
  · have one := fun (t : State) (i : LevelInput) (h : i ≠ .dir) => t.reformInput_level l h
    simp only [State.reformInputs, one _ _ (show LevelInput.eloop ≠ .dir by decide),
      one _ _ (show LevelInput.brkFb ≠ .dir by decide), one _ _ (show LevelInput.airB ≠ .dir by decide),
      one _ _ (show LevelInput.airA ≠ .dir by decide), one _ _ (show LevelInput.downB ≠ .dir by decide),
      one _ _ (show LevelInput.upB ≠ .dir by decide), one _ _ (show LevelInput.downA ≠ .dir by decide),
      one _ _ (show LevelInput.upA ≠ .dir by decide)]
    cases i
    case dir => exact absurd rfl dir
    all_goals rfl

theorem State.InStep.reformLevels {s : State} (h : s.InStep) (l : Levels) : (s.reformLevels l).InStep := by
  have inputs : (s.reformInputs l).InStep := by
    unfold State.reformInputs
    have one := fun (t : State) (i : LevelInput) (other : i ≠ .dir) (x : t.InStep) => x.reformInput l other
    exact one _ _ (by decide) <| one _ _ (by decide) <| one _ _ (by decide) <| one _ _ (by decide) <|
      one _ _ (by decide) <| one _ _ (by decide) <| one _ _ (by decide) <| one _ _ (by decide) h
  unfold State.InStep at inputs ⊢
  rw [State.reformLevels_eq, State.setView_ioc]
  simpa [levelOf_withLevel] using inputs

/-! ### The controllers through the moves of an event -/

/-- A law of a controller with its entry that the sensors and every ease keep is kept by the moves. -/
theorem Moves.panel {Law : PC × Bool → Prop} {p : Pan}
    {s t : State} (ease : ∀ closed x y, Ease closed (s.upSensor p) x y → Law x → Law y) (sense : ∀ u : State, u.cl = s.cl → u.ioc = s.ioc → Law (u.panel p) → Law ((u.sense p).panel p)) (m : Moves s t)
    (law : Law (s.panel p)) : Law (t.panel p) := by
  have all : Law (t.panel p) ∧ t.cl = s.cl ∧ t.ioc = s.ioc := by
    refine m.keeps (Law := fun u => Law (u.panel p) ∧ u.cl = s.cl ∧ u.ioc = s.ioc) (fun u v one h => ?_) ⟨law, rfl, rfl⟩
    obtain ⟨law, cl, ioc⟩ := h
    refine ⟨?_, one.cl.trans cl, one.ioc.trans ioc⟩
    rcases one.sense_or_eases with ⟨q, rfl⟩ | eases
    · by_cases own : p = q
      · subst own
        exact sense u cl ioc law
      · rw [State.panel, u.sense_pc_ne own, u.sense_hold_ne own]
        exact law
    · refine (eases p).keeps (Law := Law) (fun x y step => ease u.bi.closed x y ?_) law
      rwa [State.upSensor_congr ioc p] at step
  exact all.1

/-- The lower timer of a LOWERING controller that has just begun. -/
def PC.Timed (c : PC) : Prop := c.state = .lowering → c.lowerT = Timer.started

theorem PC.vent_timed (c : PC) : c.vent.Timed := fun _ => rfl

theorem Ease.timed {closed up : Bool} {x y : PC × Bool} (e : Ease closed up x y) (h : x.1.Timed) : y.1.Timed := by
  cases e
  case soft c _ =>
    rcases c.softLowered_cases closed with ⟨-, e⟩ | ⟨-, -, ⟨-, e⟩ | ⟨-, -, e⟩ | ⟨-, -, -, e⟩ | ⟨-, -, -, e⟩⟩
    all_goals
      change (c.softLowered closed).Timed
      rw [e]
    · exact h
    · exact c.vent_timed
    · exact h
    · exact h
    · exact c.vent_timed
  case advance c _ =>
    rcases c.advance_cases closed with e | ⟨-, -, -, -, e⟩ | ⟨-, -, -, -, e⟩
    all_goals
      change (c.advance closed).Timed
      rw [e]
    · exact h
    · exact h
    · exact c.vent_timed
  case vent c _ _ _ => exact c.vent_timed
  case arrive => exact fun x => (nomatch x)
  case target => exact h

theorem State.sense_timed {s : State} {p : Pan} (h : (s.pc p).Timed) : ((s.sense p).pc p).Timed := by
  rcases s.senses p with ⟨-, e⟩ | ⟨acts, k⟩
  · rwa [e]
  generalize s.sense p = t at k ⊢
  induction k
  case none => exact h
  case airLoss raised _ =>
    rw [State.airLoss_pc, State.faultDrop_pc, State.fastDrop_pc, if_pos acts, PC.dropped, if_pos raised]
    exact fun _ => rfl
  case up => rw [State.setPc_pc]; exact fun x => (nomatch x)
  case drop | fault => rw [State.enterFault_pc]; exact fun x => (nomatch x)
  case down => simp [PC.Timed]
  case off fault _ => exact fun x => by simp [fault] at x

/-- What an event leaves LOWERING has its lower timer from 0, where its direct effect does so (R47). -/
theorem eventEnd_timed {c : Instr} {s : State} {p : Pan} (h : ((direct c s).pc p).Timed) : ((eventEnd c s).pc p).Timed :=
  Moves.panel (Law := fun x => x.1.Timed) (fun _ _ _ => Ease.timed) (fun _ _ _ x => State.sense_timed x)
    (moves_event c s) h

/-- A pantograph that its image marks absent gets no hold-open entry. -/
theorem eventEnd_absent {c : Instr} {s : State} {p : Pan} (absent : (direct c s).acts p = false)
    (hold : (direct c s).bi.hold.pan p = false) (disc : ((direct c s).pc p).disc = false) :
    (eventEnd c s).bi.hold.pan p = false := by
  refine (Moves.panel (Law := fun x => x.2 = false ∧ x.1.disc = false) (fun closed x y one h => ?_) (fun u cl _ x => ?_)
    (moves_event c s) (p := p) ⟨hold, disc⟩).1
  · cases one
    case soft d _ =>
      obtain ⟨rfl, isolated⟩ : _ = false ∧ d.disc = false := h
      refine ⟨by simp [isolated], ?_⟩
      change (d.softLowered closed).disc = false
      rcases d.softLowered_cases closed with ⟨-, e⟩ | ⟨-, -, ⟨-, e⟩ | ⟨-, -, e⟩ | ⟨-, -, -, e⟩ | ⟨-, -, -, e⟩⟩ <;>
        rw [e] <;> exact isolated
    case advance d _ =>
      refine ⟨h.1, ?_⟩
      change (d.advance closed).disc = false
      rcases d.advance_cases closed with e | ⟨-, -, -, -, e⟩ | ⟨-, -, -, -, e⟩ <;> rw [e] <;> exact h.2
    all_goals exact h
  · have off : u.acts p = false := by rw [← absent]; simp only [State.acts, cl]
    have same : u.sense p = u := by simp [State.sense, off]
    rwa [same]

/-! ### The configuration-good event -/

theorem State.eloopOpens_hold {s : State} {p : Pan} (off : s.acts p = false) (hold : s.bi.hold.pan p = false) :
    s.eloopOpens.bi.hold.pan p = false := by
  have drop : ∀ (t : State) (q : Pan), t.acts p = false ∧ t.bi.hold.pan p = false →
      (t.fastDrop q).acts p = false ∧ (t.fastDrop q).bi.hold.pan p = false := by
    intro t q ⟨x, y⟩
    refine ⟨by simpa [State.acts] using x, ?_⟩
    by_cases own : p = q
    · subst own
      rw [State.fastDrop_hold, x, y]; rfl
    · rw [State.fastDrop_hold_ne _ own, y]
  have both := drop _ .b (drop (s.setCause .emergency true) .a ⟨off, hold⟩)
  unfold State.eloopOpens State.latchEmergency
  split_ifs
  · exact hold
  · exact both.2

section
variable (s : State) (r : Vector Byte 128) (pins : Levels)

theorem State.holdAbsent_al (p : Pan) : (s.holdAbsent p).al = s.al := by
  unfold State.holdAbsent
  split_ifs
  · rfl
  · cases p <;> rfl

theorem State.holdAbsent_hold_ne {p q : Pan} (h : q ≠ p) : (s.holdAbsent p).bi.hold.pan q = s.bi.hold.pan q := by
  unfold State.holdAbsent
  split_ifs
  · rfl
  · cases p <;> cases q
    case a.a | b.b => exact absurd rfl h
    all_goals rfl

theorem State.holdAbsent_both_hold {p : Pan} (off : s.acts p = false) :
    ((s.holdAbsent .a).holdAbsent .b).bi.hold.pan p = false := by
  have own : ∀ (t : State) (q : Pan), t.acts q = false → (t.holdAbsent q).bi.hold.pan q = false := by
    intro t q x
    unfold State.holdAbsent
    rw [if_neg (by simp [x])]
    cases q <;> rfl
  cases p
  · rw [State.holdAbsent_hold_ne _ (by decide)]
    exact own s .a off
  · exact own _ .b (by simpa [State.acts] using off)

/-- An acceptance leaves the hold-open entry of an absent pantograph. -/
theorem State.accept_hold {p : Pan} (i : LevelInput) (b : Bool) (off : s.acts p = false)
    (hold : s.bi.hold.pan p = false) : (s.accept i b).bi.hold.pan p = false := by
  have start : ∀ o, ({ s with ioc := o } : State).acts p = false ∧ ({ s with ioc := o } : State).bi.hold.pan p = false :=
    fun o => ⟨off, hold⟩
  unfold State.accept
  obtain ⟨acts, hold'⟩ := start { s.ioc with levels := withLevel s.ioc.levels i b, runs := s.ioc.runs.set i 0 }
  generalize ({ s with ioc := { s.ioc with
      levels := withLevel s.ioc.levels i b, runs := s.ioc.runs.set i 0 } } : State) = t at acts hold'
  unfold State.readers
  cases i
  case eloop =>
    cases b
    · exact State.eloopOpens_hold acts hold'
    · exact hold'
  all_goals cases p <;> simpa [HoldOpen.pan, State.breakerLevel] using hold'

theorem State.verdict_lau :
    s.verdict.lau = if s.cl.verdictGiven then s.lau else { s.lau with statusT := Timer.started } := by
  unfold State.verdict
  split_ifs <;> rfl

/-- The configuration-good event at the Link Access Unit: the first verdict starts the STATUS countdown (R181). -/
theorem State.goodVerdict_lau : (s.goodVerdict r pins).lau =
    if s.cl.verdictGiven then { s.lau with faultMode := false }
    else { s.lau with faultMode := false, statusT := Timer.started } := by
  have given : (s.goodStart r).cl.verdictGiven = s.cl.verdictGiven := by simp [State.goodStart]
  simp [State.goodVerdict_eq, State.verdict_lau, given]

theorem State.startLower_timed (p : Pan) : ((s.startLower p).pc p).Timed := by
  unfold State.startLower
  split_ifs with low
  · rw [State.setPc_pc]
    exact fun _ => rfl
  · exact fun x => absurd x low

theorem State.startLower_pc_ne {p q : Pan} (h : q ≠ p) : (s.startLower p).pc q = s.pc q := by
  unfold State.startLower
  split_ifs
  · exact s.setPc_pc_ne _ h
  · rfl

theorem State.goodVerdict_timed (p : Pan) : ((s.goodVerdict r pins).pc p).Timed := by
  rw [State.goodVerdict_eq]
  cases p
  · rw [State.startLower_pc_ne _ (by decide)]
    exact State.startLower_timed _ _
  · exact State.startLower_timed _ _

theorem State.goodVerdict_clamped (changed : clampImage (rawImage r) ≠ rawImage r) :
    (s.goodVerdict r pins).al.requested .configClamped = true := by
  have start : (s.goodStart r).al.requested .configClamped = true := by
    unfold State.goodStart State.markClamped
    dsimp only
    rw [State.holdAbsent_al, State.holdAbsent_al, if_pos (decide_eq_true changed)]
    exact State.request_self _ _
  rw [State.goodVerdict_eq]
  have al : ∀ t : State, ((t.verdict.startLower .a).startLower .b).al = t.al := fun t => by simp
  rw [al]
  exact State.reformLevels_keeps (Law := fun u => u.al.requested .configClamped = true) (fun _ _ x => x)
    (fun _ i b x => State.accept_requested i b x) (fun _ d x => State.setView_requested d x) _ _ start

/-- The levels, the view and the breaker state at the configuration-good event (R191, R198, R48). -/
theorem State.goodVerdict_levels :
    (s.goodVerdict r pins).ioc.levels = logical (clampImage (rawImage r)).polarities.levels pins ∧
      (s.goodVerdict r pins).ioc.runs = .zero ∧
      (s.goodVerdict r pins).ioc.view = directionOf (s.goodVerdict r pins).ioc.levels.dir ∧
      (s.InStep → (s.goodVerdict r pins).InStep) := by
  generalize l : logical (clampImage (rawImage r)).polarities.levels pins = levels
  have formed : s.goodVerdict r pins =
      (((s.goodStart r).reformLevels levels).verdict.startLower .a).startLower .b := by
    rw [State.goodVerdict_eq, l]
  have ioc : (s.goodVerdict r pins).ioc = ((s.goodStart r).reformLevels levels).ioc := by rw [formed]; simp
  obtain ⟨same, runs, view⟩ := (s.goodStart r).reformLevels_ioc levels
  rw [ioc, same]
  refine ⟨rfl, runs, view, fun inStep => ?_⟩
  have start : (s.goodStart r).InStep := by
    unfold State.InStep at inStep ⊢
    simpa using inStep
  have after := start.reformLevels levels
  unfold State.InStep at after ⊢
  rw [ioc, ← after, formed]
  simp

/-- An absent pantograph is held DOWN and ISOLATED with its outputs off, and out of the hold-open set (R28). -/
theorem State.goodVerdict_absent {p : Pan} (absent : ((clampImage (rawImage r)).pan p).present = false) :
    (PC.reset true).Drift ((s.goodVerdict r pins).pc p) ∧ (s.goodVerdict r pins).bi.hold.pan p = false := by
  have drift := goodVerdict_drifts s r pins p
  rw [goodPan, if_neg (by simp [absent])] at drift
  refine ⟨drift, ?_⟩
  have off : (s.goodStart r).acts p = false := by simp [State.acts, absent]
  have start : (s.goodStart r).bi.hold.pan p = false := by
    unfold State.goodStart
    dsimp only
    exact State.holdAbsent_both_hold _ (by simpa [State.acts, State.goodStart] using off)
  have formed : ((s.goodStart r).reformLevels (logical (clampImage (rawImage r)).polarities.levels pins)).acts p = false ∧
      ((s.goodStart r).reformLevels (logical (clampImage (rawImage r)).polarities.levels pins)).bi.hold.pan p = false :=
    State.reformLevels_keeps (Law := fun u => u.acts p = false ∧ u.bi.hold.pan p = false) (fun _ _ x => x)
      (fun u i b x => ⟨by simpa [State.acts] using x.1, u.accept_hold i b x.1 x.2⟩)
      (fun u d x => ⟨by simpa [State.acts] using x.1, by cases p <;> simpa [HoldOpen.pan] using x.2⟩) _ _ ⟨off, start⟩
  rw [State.goodVerdict_eq]
  simpa using formed.2

end

/-- Settles O6. -/
theorem goodRecordStartsThePart : Obligations.GoodRecordStartsThePart := by
  intro s r pins released reading good
  have effect : direct (.configReadEnd r pins) s = s.goodVerdict r pins := by
    have ends : direct (.configReadEnd r pins) s = s.readEnds r pins := if_pos reading
    rw [ends, State.readEnds, if_pos good]
  have on := reacts_eventEnd (c := .configReadEnd r pins) (by simp) s
  have timed := fun p => eventEnd_timed (c := .configReadEnd r pins) (s := s) (p := p) (effect ▸ s.goodVerdict_timed r pins p)
  have absent' := fun p => eventEnd_absent (c := .configReadEnd r pins) (s := s) (p := p)
  have placed := eventEnd_placed (c := .configReadEnd r pins) (s := s)
  rw [effect] at on absent' placed
  obtain ⟨levels, runs, view, inStep⟩ := s.goodVerdict_levels r pins
  have cl := on.kept_cl.trans (s.goodVerdict_cl r pins)
  have ioc := on.kept_ioc
  obtain ⟨-, -, -, -, -, -, -, -, -, -, -, fault⟩ := on.kept_lau
  refine ⟨_, exec_eq_event released rfl, by rw [cl], by rw [cl], by rw [cl], by rw [cl],
    fun changed => on.flags _ (s.goodVerdict_clamped r pins changed), (congrArg Kept.holdCL on.kept).trans ?_,
    (congrArg PV.learningT on.kept_pv).trans ?_, fault.trans ?_, by rw [ioc, levels], by rw [ioc, runs],
    by rw [ioc, view], fun same => ?_, fun p absent => ?_, fun p low => timed p low, fun first gap => ?_⟩
  · simp [State.kept, State.goodVerdict_eq]
  · rw [State.goodVerdict_pv]
  · rw [State.goodVerdict_lau]
    split_ifs <;> rfl
  · rw [on.kept_closed, ioc]
    exact inStep same
  · obtain ⟨drift, hold⟩ := s.goodVerdict_absent r pins absent
    have down : ((eventEnd (.configReadEnd r pins) s).pc p).state = .down ∧
        ((eventEnd (.configReadEnd r pins) s).pc p).disc = false ∧
        ((eventEnd (.configReadEnd r pins) s).pc p).valve = false ∧
        ((eventEnd (.configReadEnd r pins) s).pc p).fset = 0 := by
      have all := drift.trans (on.drifts p)
      refine ⟨all.down rfl, Bool.eq_false_iff.mpr fun x => (nomatch all.disc x), Bool.eq_false_iff.mpr fun x => (nomatch all.valve x), ?_⟩
      rcases all.force with ⟨same, -⟩ | ⟨zero, -⟩
      · exact same
      · exact zero
    have off : (s.goodVerdict r pins).acts p = false := by simp [State.acts, goodVerdict_image, absent]
    refine ⟨down.1, down.2.1, down.2.2.1, down.2.2.2, absent' p off hold (Bool.eq_false_iff.mpr fun x => (nomatch drift.disc x))⟩
  · have lau : (s.goodVerdict r pins).lau = { s.lau with faultMode := false, statusT := Timer.started } := by
      rw [State.goodVerdict_lau, if_neg (by simp [first])]
    rw [lau] at placed
    have asks : (s.reading && !s.cl.verdictGiven) = true := by simp [State.reading, reading, first]
    obtain ⟨u, e⟩ := (placed asks rfl).1 (.inr gap)
    rw [e]
    exact ⟨rfl, rfl⟩

end Sys2Proof.Machine
end

section
/-! PROOFS. An accepted level reaches its readers (O17). -/

namespace Sys2Proof.Machine

/-! ### What is accepted -/

/-- The view follows the level of DIR while the train is stationary (R198). -/
theorem State.dirAccepted_ioc (s : State) : s.dirAccepted.ioc =
    { s.ioc with view := if s.ioc.stationary = true then directionOf s.ioc.levels.dir else s.ioc.view } := by
  unfold State.dirAccepted
  by_cases held : s.directionHeld = true
  · rw [if_pos held]
    split_ifs
    · exact s.setView_ioc _
    · rfl
  · have same : s.ioc.view = directionOf s.ioc.levels.dir := by simpa [State.directionHeld] using held
    rw [if_neg held, ← same, ite_self]

theorem State.accept_view (s : State) (i : LevelInput) (b : Bool) :
    (s.accept i b).ioc = { s.ioc with
      levels := withLevel s.ioc.levels i b, runs := s.ioc.runs.set i 0,
      view := (if i = .dir ∧ s.ioc.stationary = true then directionOf b else s.ioc.view) } := by
  by_cases dir : i = .dir
  · subst dir
    rw [State.accept, State.readers, State.dirAccepted_ioc]
    simp only [true_and]
    rfl
  · rw [s.accept_ioc b dir, if_neg fun h => dir h.1]

theorem State.accept_sensorFault {s : State} {b : Bool} (moving : s.ioc.stationary = false)
    (apart : directionOf b ≠ s.ioc.view) : (s.accept .dir b).al.requested .sensorFault = true := by
  unfold State.accept State.readers State.dirAccepted
  rw [if_pos, if_neg (by simp [moving])]
  · exact State.request_self _ _
  · exact (bne_iff_ne.mpr (Ne.symm apart) : (s.ioc.view != directionOf b) = true)

/-- An emergency loop that comes to read open is latched and requested, and drops what it finds raised (R155). -/
theorem State.eloopOpens_drops (s : State) :
    s.eloopOpens.ds.cause.emergency = true ∧ s.eloopOpens.ds.latch.emergency = true ∧
      s.eloopOpens.al.requested .emergency = true ∧
      (s.ds.latch.emergency = false → ∀ p, s.acts p = true → (s.eloopOpens.pc p).risingOrUp = false) := by
  refine ⟨?_, ?_, State.request_self _ _, fun new p acts => ?_⟩
  · change (s.setCause .emergency true).latchEmergency.ds.cause.emergency = true
    unfold State.latchEmergency
    split_ifs <;> simp [State.setCause, DropSet.set]
  · change (s.setCause .emergency true).latchEmergency.ds.latch.emergency = true
    unfold State.latchEmergency
    split_ifs with latched
    · exact latched
    · simp [State.setLatch, DropSet.set]
  · rw [State.eloopOpens, State.request_pc, State.latchEmergency, if_neg (by simp [State.setCause, new])]
    cases p
    · rw [State.setLatch_pc, State.fastDrop_pc_ne _ (by decide), State.fastDrop_pc,
        if_pos (show (s.setCause .emergency true).acts .a = true from acts)]
      exact (PC.dropped_low _).1
    · rw [State.setLatch_pc, State.fastDrop_pc, if_pos (by simpa [State.acts] using acts)]
      exact (PC.dropped_low _).1

/-! ### What the moves leave of the drop latches -/

/-- The drop latches and their causes move by the sensors, by a judged cause and by the restore alone. -/
theorem Reaction.ds_cases {w x : Prop} {s t : State} (m : Reaction w x s t) :
    t.ds = s.ds ∨ (∃ p, t = s.sense p) ∨ (∃ im c, c.maskable = true ∧ t = s.judgeCause im c) ∨ ∃ im, t = s.formRestore im := by
  induction m
  case sense p => exact .inr (.inl ⟨p, rfl⟩)
  case judge im c _ h _ => exact .inr (.inr (.inl ⟨im, c, h, rfl⟩))
  case restore im _ => exact .inr (.inr (.inr ⟨im, rfl⟩))
  all_goals exact .inl (by simp)

theorem State.sense_latched {s : State} {k : DropCondition} (p : Pan) (h : s.ds.latch.get k = true) :
    (s.sense p).ds.latch.get k = true := by
  rcases s.senses p with ⟨-, e⟩ | ⟨-, senses⟩
  · rw [e]; exact h
  generalize s.sense p = t at senses ⊢
  cases senses
  case airLoss =>
    unfold State.airLoss State.latchAirLoss
    split_ifs
    · simpa using h
    · simp [DropSet.get_set, h]
  all_goals simpa using h

/-- A condition without a mask keeps its cause and its latch through the moves of an event. -/
theorem Reaction.unmasked {w x : Prop} {s t : State} (m : Reaction w x s t) {k : DropCondition} (h : k.maskable = false) :
    t.ds.cause.get k = s.ds.cause.get k ∧ (s.ds.latch.get k = true → t.ds.latch.get k = true) := by
  rcases m.ds_cases with e | ⟨p, rfl⟩ | ⟨im, c, maskable, rfl⟩ | ⟨im, rfl⟩
  · rw [e]; exact ⟨rfl, id⟩
  · rw [(s.sense_latches p).1]; exact ⟨rfl, State.sense_latched p⟩
  · have other : k ≠ c := fun e => by rw [e, maskable] at h; cases h
    rw [State.judgeCause_cause, DropSet.get_set, if_neg other, State.judgeCause_latch]
    exact ⟨rfl, fun latched => by rw [latched]; rfl⟩
  · rw [State.formRestore_cause]
    refine ⟨rfl, fun latched => ?_⟩
    rcases s.formRestore_latch im with e | ⟨-, -, e⟩ <;> rw [e]
    · exact latched
    · cases k
      case emergency | airLossA | airLossB | forced => exact latched
      all_goals cases h

theorem Moves.unmasked {s t : State} (m : Moves s t) {k : DropCondition} (h : k.maskable = false) :
    t.ds.cause.get k = s.ds.cause.get k ∧ (s.ds.latch.get k = true → t.ds.latch.get k = true) := by
  induction m with
  | refl => exact ⟨rfl, id⟩
  | tail _ one ih => exact ⟨((one.unmasked h).1).trans ih.1, fun latched => (one.unmasked h).2 (ih.2 latched)⟩

/-! ### The first look at the sensors -/

/-- An event looks at the sensors of a pantograph before anything else has reached it, and goes on by reactions. -/
theorem first_sense {c : Instr} (h : ∀ x b, c ≠ .demandReceived x b) (s : State) (p : Pan) :
    ∃ u : State, u.pc p = (direct c s).pc p ∧ u.ioc = (direct c s).ioc ∧ u.cl = (direct c s).cl ∧
      Moves (u.sense p) (eventEnd c s) ∧ (u.sense p).Reacts (eventEnd c s) := by
  set d := direct c s
  have rest : Moves ((d.sense .a).sense .b) d.pantographs :=
    (((Reaction.advance .a).one.trans (Reaction.advance .b).one).trans (Reaction.watch .a).one).trans (Reaction.watch .b).one
  have on : Moves ((d.sense .a).sense .b) (eventEnd c s) := rest.trans (moves_from_pantographs c s)
  have reacts : ((d.sense .a).sense .b).Reacts (eventEnd c s) := by
    rw [eventEnd, settled_eq h]
    refine State.Reacts.trans ?_ (.finish s _ _ _)
    have first : ((d.sense .a).sense .b).Reacts d.pantographs :=
      (((State.Reacts.advancePan _ .a).trans (.advancePan _ .b)).trans (.watchIsolated _ .a)).trans (.watchIsolated _ .b)
    exact ((first.trans (.wiring s _)).trans (.others _)).trans (.settle 7 d.pantographs _)
  cases p
  · exact ⟨d, rfl, rfl, rfl, (Reaction.sense .b).one.trans on, (State.Reacts.sense _ .b).trans reacts⟩
  · exact ⟨d.sense .a, d.sense_pc_ne (by decide), by simp, by simp, on, reacts⟩

section
variable {s : State} {p : Pan} (acts : s.acts p = true)
include acts

theorem State.sense_rising (up : s.upSensor p = true) : ((s.sense p).pc p).state ≠ .rising := by
  intro rising
  have was := ((State.Reacts.sense s p).pc p).rising rising
  by_cases air : s.airOk p = true
  · have e : s.sense p = s.setPc p { s.pc p with state := .up, raiseT := none } := by
      simp [State.sense, acts, was, air, up]
    rw [e, State.setPc_pc] at rising
    cases rising
  · have e : s.sense p = s.airLoss p := by simp [State.sense, acts, was, air]
    rw [e, State.airLoss_pc, State.faultDrop_pc, State.fastDrop_pc, if_pos acts] at rising
    have low := (PC.dropped_low (s.pc p)).1
    simp [PC.risingOrUp, show (s.pc p).dropped.state = .rising from rising] at low

theorem State.sense_lowering (lowering : (s.pc p).state = .lowering) (down : s.downSensor p = true) :
    ((s.sense p).pc p).state = .down ∨ ((s.sense p).pc p).state = .fault := by
  have e : s.sense p = s.downInLowering p := by simp [State.sense, acts, lowering, down]
  rw [e]
  unfold State.downInLowering
  split
  · exact .inr (by rw [State.enterFault_pc]; rfl)
  · exact .inl (by simp)

theorem State.sense_uncommanded (up : (s.pc p).state = .up) (air : s.airOk p = true) (down : s.downSensor p = true) :
    ((s.sense p).pc p).state = .fault ∧ ((s.sense p).pc p).fault = some .uncommandedDown ∧
      ((s.sense p).pc p).disc = false := by
  have e : s.sense p = s.enterFault p .uncommandedDown := by simp [State.sense, acts, up, air, down]
  rw [e, State.enterFault_pc]
  exact ⟨rfl, rfl, by simp [PC.faultedBy, down]⟩

theorem State.sense_airless (raised : (s.pc p).risingOrUp = true) (air : s.airOk p = false) :
    ((s.sense p).pc p).risingOrUp = false ∧ (s.sense p).ds.latch.get (airLossOf p) = true ∧
      (s.sense p).al.requested (panFaultKind p) = true := by
  have e : s.sense p = s.airLoss p := by
    have states : (s.pc p).state = .rising ∨ (s.pc p).state = .up := by simpa [PC.risingOrUp] using raised
    rcases states with state | state <;> simp [State.sense, acts, state, air]
  rw [e, State.airLoss_pc, State.faultDrop_pc, State.fastDrop_pc, if_pos acts]
  refine ⟨(PC.dropped_low _).1, ?_, ?_⟩ <;> unfold State.airLoss State.latchAirLoss <;> split_ifs with latched
  · exact latched
  · simp [DropSet.get_set]
  · exact State.request_self _ _
  · exact State.request_self _ _

end

/-! ### The sensors of an accepted level -/

/-- The inputs of the sensors of a pantograph. -/
def upInput : Pan → LevelInput
  | .a => .upA
  | .b => .upB

def downInput : Pan → LevelInput
  | .a => .downA
  | .b => .downB

def airInput : Pan → LevelInput
  | .a => .airA
  | .b => .airB

theorem direct_accept {s : State} {i : LevelInput} {b : Bool} (h : levelOf s.ioc.levels i ≠ b) :
    direct (.levelAccepted i b) s = s.accept i b := if_neg h

section
variable {s : State} {i : LevelInput} {b : Bool} (h : levelOf s.ioc.levels i ≠ b)
include h

theorem accepted_look (p : Pan) (acts : s.acts p = true) :
    ∃ u : State, u.pc p = (s.accept i b).pc p ∧ u.ioc = (s.accept i b).ioc ∧ u.acts p = true ∧
      Moves (u.sense p) (eventEnd (.levelAccepted i b) s) ∧ (u.sense p).Reacts (eventEnd (.levelAccepted i b) s) := by
  obtain ⟨u, pc, ioc, cl, moves, reacts⟩ := first_sense (c := .levelAccepted i b) (by simp) s p
  rw [direct_accept h] at pc ioc cl
  exact ⟨u, pc, ioc, by rw [← acts]; exact State.acts_congr (cl.trans (by simp)) p, moves, reacts⟩

theorem accepted_arrives {p : Pan} (acts : s.acts p = true) (own : i = upInput p) (level : b = true) :
    ((eventEnd (.levelAccepted i b) s).pc p).state ≠ .rising := by
  subst own level
  obtain ⟨u, -, ioc, acts', -, reacts⟩ := accepted_look h p acts
  have sensor : u.upSensor p = true := by
    rw [State.upSensor_congr ioc p]
    cases p <;> rw [State.upSensor, State.accept_view] <;> rfl
  exact fun rising => State.sense_rising acts' sensor ((reacts.pc p).rising rising)

theorem accepted_rests {p : Pan} (acts : s.acts p = true) (own : i = downInput p) (level : b = true)
    (lowering : (s.pc p).state = .lowering) :
    ((eventEnd (.levelAccepted i b) s).pc p).state = .down ∨ ((eventEnd (.levelAccepted i b) s).pc p).state = .fault := by
  subst own level
  obtain ⟨u, pc, ioc, acts', -, reacts⟩ := accepted_look h p acts
  have same : u.pc p = s.pc p := by rw [pc]; cases p <;> rfl
  have sensor : u.downSensor p = true := by
    rw [State.downSensor_congr ioc p]
    cases p <;> rfl
  rcases State.sense_lowering acts' (same ▸ lowering) sensor with rest | fault
  · exact .inl ((reacts.pc p).down rest)
  · exact .inr ((reacts.pc p).fault fault).1

theorem accepted_uncommanded {p : Pan} (acts : s.acts p = true) (own : i = downInput p) (level : b = true)
    (up : (s.pc p).state = .up) (air : s.airOk p = true) :
    ((eventEnd (.levelAccepted i b) s).pc p).state = .fault ∧
      ((eventEnd (.levelAccepted i b) s).pc p).fault = some .uncommandedDown ∧
      ((eventEnd (.levelAccepted i b) s).pc p).disc = false := by
  subst own level
  obtain ⟨u, pc, ioc, acts', -, reacts⟩ := accepted_look h p acts
  have same : u.pc p = s.pc p := by rw [pc]; cases p <;> rfl
  have sensor : u.downSensor p = true := by
    rw [State.downSensor_congr ioc p]
    cases p <;> rfl
  have ok : u.airOk p = true := by
    rw [State.airOk_congr ioc p, ← air]
    cases p <;> rfl
  obtain ⟨fault, cause, disc⟩ := State.sense_uncommanded acts' (same ▸ up) ok sensor
  have drift := reacts.pc p
  refine ⟨(drift.fault fault).1, (drift.fault fault).2.trans cause, ?_⟩
  rw [← Bool.not_eq_true]
  intro on
  rw [drift.disc on] at disc
  cases disc

theorem accepted_airless {p : Pan} (acts : s.acts p = true) (own : i = airInput p) (level : b = false)
    (raised : (s.pc p).risingOrUp = true) :
    ((eventEnd (.levelAccepted i b) s).pc p).risingOrUp = false ∧
      (eventEnd (.levelAccepted i b) s).ds.latch.get (airLossOf p) = true ∧
      (eventEnd (.levelAccepted i b) s).al.requested (panFaultKind p) = true := by
  subst own level
  obtain ⟨u, pc, ioc, acts', moves, reacts⟩ := accepted_look h p acts
  have same : u.pc p = s.pc p := by rw [pc]; cases p <;> rfl
  have air : u.airOk p = false := by
    rw [State.airOk_congr ioc p]
    cases p <;> rfl
  obtain ⟨low, latch, request⟩ := State.sense_airless acts' (same ▸ raised) air
  exact ⟨(reacts.pc p).low low, (moves.unmasked (by cases p <;> rfl)).2 latch, reacts.flags _ request⟩

end

/-! ### The height timer -/

/-- The height timer of a controller in UP has just begun. -/
def PC.Heightened (c : PC) : Prop := c.state = .up → c.heightT = Timer.started

theorem PC.vent_heightened (c : PC) : c.vent.Heightened := fun x => nomatch x

theorem Ease.heightened {closed : Bool} {x y : PC × Bool} (e : Ease closed false x y) (h : x.1.Heightened) :
    y.1.Heightened := by
  cases e
  case soft c _ =>
    rcases c.softLowered_cases closed with ⟨-, e⟩ | ⟨-, -, ⟨-, e⟩ | ⟨-, -, e⟩ | ⟨-, -, -, e⟩ | ⟨-, -, -, e⟩⟩
    all_goals
      change (c.softLowered closed).Heightened
      rw [e]
    · exact h
    · exact c.vent_heightened
    · exact h
    · exact h
    · exact c.vent_heightened
  case advance c _ =>
    rcases c.advance_cases closed with e | ⟨-, -, -, -, e⟩ | ⟨-, -, -, -, e⟩
    all_goals
      change (c.advance closed).Heightened
      rw [e]
    · exact h
    · exact h
    · exact c.vent_heightened
  case vent c _ _ _ => exact c.vent_heightened
  case arrive up => cases up
  case target => exact h

theorem State.sense_heightened {s : State} {p : Pan} (low : s.upSensor p = false) (h : (s.pc p).Heightened) :
    ((s.sense p).pc p).Heightened := by
  rcases s.senses p with ⟨-, e⟩ | ⟨acts, k⟩
  · rwa [e]
  generalize s.sense p = t at k ⊢
  induction k
  case none => exact h
  case airLoss raised _ =>
    rw [State.airLoss_pc, State.faultDrop_pc, State.fastDrop_pc, if_pos acts, PC.dropped, if_pos raised]
    exact fun x => nomatch x
  case up _ _ sensor => rw [low] at sensor; cases sensor
  case drop | fault => rw [State.enterFault_pc]; exact fun x => nomatch x
  case down => simp [PC.Heightened]
  case off fault _ => exact fun x => by simp [fault] at x

theorem accepted_falls {s : State} {i : LevelInput} {b : Bool} (h : levelOf s.ioc.levels i ≠ b) {p : Pan}
    (acts : s.acts p = true) (own : i = upInput p) (level : b = false)
    (up : ((eventEnd (.levelAccepted i b) s).pc p).state = .up) :
    ((eventEnd (.levelAccepted i b) s).pc p).heightT = Timer.started := by
  subst own level
  have low : ∀ u : State, u.ioc = (direct (.levelAccepted (upInput p) false) s).ioc → u.upSensor p = false := fun u ioc => by
    rw [direct_accept h] at ioc
    rw [State.upSensor_congr ioc p]
    cases p <;> rw [State.upSensor, State.accept_view] <;> rfl
  refine Moves.panel (Law := fun x => x.1.Heightened) (fun _ x y one => (low _ rfl ▸ one : Ease _ false x y).heightened)
    (fun u _ ioc law => State.sense_heightened (low u ioc) law) (moves_event _ s) (p := p) ?_ up
  rw [direct_accept h]
  have reader : (s.accept (upInput p) false).pc p = if (s.pc p).state = .up then { s.pc p with heightT := Timer.started }
      else s.pc p := by
    unfold State.accept
    generalize e : ({ s with ioc := { s.ioc with
      levels := withLevel s.ioc.levels (upInput p) false, runs := s.ioc.runs.set (upInput p) 0 } } : State) = t
    have acts' : t.acts p = true := by subst e; exact acts
    have same : t.pc p = s.pc p := by subst e; cases p <;> rfl
    have effect : t.readers (upInput p) false = t.heightLevel p false := by cases p <;> rfl
    rw [effect, State.heightLevel, if_pos acts', if_neg (by simp), same]
    split_ifs
    · exact State.setPc_pc _ _ _
    · exact same
  intro up
  change ((s.accept (upInput p) false).pc p).state = .up at up
  change ((s.accept (upInput p) false).pc p).heightT = _
  by_cases was : (s.pc p).state = .up
  · rw [reader, if_pos was]
  · rw [reader, if_neg was] at up
    exact absurd up was

/-! ### The emergency loop -/

theorem accepted_loop {s : State} {b : Bool} (h : levelOf s.ioc.levels .eloop ≠ b) :
    (eventEnd (.levelAccepted .eloop b) s).ds.cause.emergency = !b := by
  have moves := (moves_event (.levelAccepted .eloop b) s).unmasked (k := .emergency) rfl
  refine moves.1.trans ?_
  rw [direct_accept h]
  cases b
  · exact (State.eloopOpens_drops _).1
  · rfl

theorem accepted_emergency {s : State} (h : levelOf s.ioc.levels .eloop ≠ false) :
    (eventEnd (.levelAccepted .eloop false) s).ds.latch.emergency = true ∧
      (eventEnd (.levelAccepted .eloop false) s).al.requested .emergency = true ∧
      (s.ds.latch.emergency = false → ∀ p, s.acts p = true →
        ((eventEnd (.levelAccepted .eloop false) s).pc p).risingOrUp = false) := by
  have moves := (moves_event (.levelAccepted .eloop false) s).unmasked (k := .emergency) rfl
  have on := reacts_eventEnd (c := .levelAccepted .eloop false) (by simp) s
  rw [direct_accept h] at moves on
  obtain ⟨-, latch, request, low⟩ := State.eloopOpens_drops
    { s with ioc := { s.ioc with levels := withLevel s.ioc.levels .eloop false, runs := s.ioc.runs.set .eloop 0 } }
  exact ⟨moves.2 latch, on.flags _ request, fun new p acts => (on.pc p).low (low new p acts)⟩

/-- What an accepted level reaches (R190). -/
theorem levelAccepted_reaches {s : State} {i : LevelInput} {level : Bool} (released : s.released = true)
    (h : levelOf s.ioc.levels i ≠ level) :
    ∃ t, exec (.levelAccepted i level) s = .next t ∧
      t.ioc = { s.ioc with
        levels := withLevel s.ioc.levels i level, runs := s.ioc.runs.set i 0,
        view := (if i = .dir ∧ s.ioc.stationary = true then directionOf level else s.ioc.view) } ∧
      t.bi.closed = (if i = .brkFb then level else s.bi.closed) ∧
      t.bi.stuck = (if i = .brkFb then s.bi.stuck && level else s.bi.stuck) ∧
      (i = .dir → s.ioc.stationary = false → directionOf level ≠ s.ioc.view → t.al.requested .sensorFault = true) ∧
      (i = .eloop → t.ds.cause.emergency = !level) ∧
      (i = .eloop → level = false → t.ds.latch.emergency = true ∧ t.al.requested .emergency = true ∧
        (s.ds.latch.emergency = false → ∀ p, s.acts p = true → (t.pc p).risingOrUp = false)) ∧
      (∀ p, s.acts p = true →
        (i = (match p with | .a => .upA | .b => .upB) → level = true → (t.pc p).state ≠ .rising) ∧
        (i = (match p with | .a => .upA | .b => .upB) → level = false → (t.pc p).state = .up →
          (t.pc p).heightT = Timer.started) ∧
        (i = (match p with | .a => .downA | .b => .downB) → level = true → (s.pc p).state = .lowering →
          (t.pc p).state = .down ∨ (t.pc p).state = .fault) ∧
        (i = (match p with | .a => .downA | .b => .downB) → level = true → (s.pc p).state = .up → s.airOk p = true →
          (t.pc p).state = .fault ∧ (t.pc p).fault = some .uncommandedDown ∧ (t.pc p).disc = false) ∧
        (i = (match p with | .a => .airA | .b => .airB) → level = false → (s.pc p).risingOrUp = true →
          (t.pc p).risingOrUp = false ∧ t.ds.latch.get (airLossOf p) = true ∧
            t.al.requested (panFaultKind p) = true)) := by
  have on := reacts_eventEnd (c := .levelAccepted i level) (by simp) s
  rw [direct_accept h] at on
  refine ⟨_, exec_eq_event released rfl, on.kept_ioc.trans (s.accept_view i level),
    on.kept_closed.trans (s.accept_breaker i level).1, on.kept_stuck.trans (s.accept_breaker i level).2, ?_, ?_, ?_,
    fun p acts => ⟨fun own => accepted_arrives h acts ?_, fun own => accepted_falls h acts ?_,
      fun own => accepted_rests h acts ?_, fun own => accepted_uncommanded h acts ?_,
      fun own => accepted_airless h acts ?_⟩⟩
  · rintro rfl moving apart
    exact on.flags _ (State.accept_sensorFault moving apart)
  · rintro rfl
    exact accepted_loop h
  · rintro rfl rfl
    exact accepted_emergency h
  all_goals cases p <;> exact own

/-! ### A pantograph that arrives in COLLECTING connection -/

/-- A collecting controller on which nothing is being lowered passes the rest of the first round. -/
theorem State.pantographs_of_sensed {d : State} {p : Pan} {c : PC} (h : ((d.sense .a).sense .b).pc p = c)
    (idle : c.lowering = none) (disc : c.disc = true) : d.pantographs.pc p = c := by
  have advance : ∀ (u : State) (q : Pan), u.pc p = c → (u.advancePan q).pc p = c := fun u q e => by
    by_cases own : p = q
    · subst own
      rw [State.advancePan_pc, e, PC.advance, idle, ite_self]
    · rw [u.advancePan_pc_ne own, e]
  have watch : ∀ (u : State) (q : Pan), u.pc p = c → (u.watchIsolated q).pc p = c := fun u q e => by
    by_cases own : p = q
    · subst own
      rw [State.watchIsolated_pc, if_neg (by simp [State.watched, e, disc]), e]
    · rw [u.watchIsolated_pc_ne own, e]
  exact watch _ _ (watch _ _ (advance _ _ (advance _ _ h)))

/-- The arc pantograph stands while the other one is not in COLLECTING connection. -/
def State.ArcsOf (p : Pan) (s : State) : Prop := s.icu.arcPan = some p ∧ (s.pc p.other).disc = false

theorem State.ArcsOf.of_reacts {p : Pan} {s t : State} (h : s.ArcsOf p) (arcs : t.icu.arcPan = s.icu.arcPan)
    (reacts : s.Reacts t) : t.ArcsOf p := by
  refine ⟨arcs.trans h.1, ?_⟩
  rw [← Bool.not_eq_true]
  intro on
  have off := h.2
  rw [(reacts.pc p.other).disc on] at off
  cases off

theorem State.ArcsOf.wiring {p : Pan} {s : State} (h : s.ArcsOf p) (ref : State) : (ref.wiring s).ArcsOf p := by
  refine h.of_reacts ?_ (.wiring ref s)
  have arcs : ∀ u : State, u.icu.arcPan = some p → (u.pc p.other).disc = false →
      (ref.takeArcPan u).icu.arcPan = some p := fun u is alone => by
    have low : (u.pc p.other).upCollecting = false := by simp [PC.upCollecting, alone]
    unfold State.takeArcPan
    cases p
    all_goals
      simp only [Pan.other, State.pc_a, State.pc_b] at low
      simp only [low, Bool.false_and, Bool.false_eq_true, if_false]
      split_ifs
      · rfl
      · exact is
  rw [h.1]
  unfold State.wiring
  split_ifs
  · refine arcs _ ?_ (by cases p <;> simpa [State.pc] using h.2)
    unfold State.abandonWindow
    dsimp only
    split
    · split_ifs
      · rw [(ICU.advance_rings _ _).2.2.2.2]; exact h.1
      · exact h.1
    · exact h.1
  · exact arcs s h.1 h.2

theorem Reactions.arcPan {x : Prop} {s t : State} (m : Reactions False x s t) : t.icu.arcPan = s.icu.arcPan := by
  induction m with
  | refl => rfl
  | tail _ one ih => exact one.arcs_stand.1.trans ih

theorem State.ArcsOf.settle {p : Pan} {s : State} (h : s.ArcsOf p) (n : Nat) (ref : State) : (settle n ref s).ArcsOf p := by
  induction n generalizing ref s with
  | zero => exact h
  | succ n ih =>
    have round : (s.pantographs).ArcsOf p := h.of_reacts (by simp) (.pantographs s)
    exact ih ((round.wiring ref).of_reacts (moves_others (w := False) (x := False) _).arcPan (.others _)) _

/-- A pantograph that comes to be UP in COLLECTING connection abandons the window and becomes the arc pantograph (R17 to
R19, R131). -/
theorem accepted_abandons {s : State} {im : Image} {p : Pan} (image : s.cl.image = some im) (acts : s.acts p = true)
    (rising : (s.pc p).state = .rising) (disc : (s.pc p).disc = true) (idle : (s.pc p).lowering = none)
    (alone : (s.pc p.other).disc = false) (air : s.airOk p = true) (low : s.upSensor p = false) :
    let t := eventEnd (.levelAccepted (upInput p) true) s
    t.lq = s.lq.abandon ∧ t.icu.arcPan = some p ∧
      t.icu.rings = (if 0 < s.lq.index then s.icu.advance im.tClear else s.icu).rings := by
  have h : levelOf s.ioc.levels (upInput p) ≠ true := by
    have same : levelOf s.ioc.levels (upInput p) = s.upSensor p := by cases p <;> rfl
    rw [same, low]
    decide
  set d := s.accept (upInput p) true with hd
  have own : (d.pc p).state = .rising ∧ (d.pc p).disc = true ∧ (d.pc p).lowering = none := by
    have reader : d.pc p = { s.pc p with heightT := none } := by
      rw [hd, State.accept]
      generalize e : ({ s with ioc := { s.ioc with
        levels := withLevel s.ioc.levels (upInput p) true, runs := s.ioc.runs.set (upInput p) 0 } } : State) = u
      have acts' : u.acts p = true := by subst e; exact acts
      have same : u.pc p = s.pc p := by subst e; cases p <;> rfl
      have effect : u.readers (upInput p) true = u.heightLevel p true := by cases p <;> rfl
      rw [effect, State.heightLevel, if_pos acts', if_pos rfl, State.setPc_pc, same]
    rw [reader]
    exact ⟨rising, disc, idle⟩
  have look : ∀ u : State, u.pc p = d.pc p → u.ioc = d.ioc → u.cl = d.cl →
      (u.sense p).pc p = { d.pc p with state := .up, raiseT := none } := fun u pc ioc cl => by
    have acts' : u.acts p = true := by rw [← acts]; exact State.acts_congr (cl.trans (by simp [hd])) p
    have up : u.upSensor p = true := by
      rw [State.upSensor_congr ioc p]
      cases p <;> rw [State.upSensor, hd, State.accept_view] <;> rfl
    have ok : u.airOk p = true := by
      rw [State.airOk_congr ioc p, ← air]
      cases p <;> rw [State.airOk, hd, State.accept_view] <;> rfl
    have e : u.sense p = u.setPc p { u.pc p with state := .up, raiseT := none } := by
      simp [State.sense, acts', pc, own.1, ok, up]
    rw [e, State.setPc_pc, pc]
  have sensed : ((d.sense .a).sense .b).pc p = { d.pc p with state := .up, raiseT := none } := by
    cases p
    · rw [State.sense_pc_ne _ (by decide)]
      exact look d rfl rfl rfl
    · exact look (d.sense .a) (d.sense_pc_ne (by decide)) (by simp) (by simp)
  have first : d.pantographs.pc p = { d.pc p with state := .up, raiseT := none } :=
    State.pantographs_of_sensed sensed own.2.2 own.2.1
  have up : (d.pantographs.pc p).upCollecting = true := by simp [first, PC.upCollecting, own.2.1]
  have was : (s.pc p).upCollecting = false := by simp [PC.upCollecting, rising]
  have other : (d.pantographs.pc p.other).disc = false := by
    rw [← Bool.not_eq_true]
    intro on
    have before := ((drifts_accept s (upInput p) true) p.other).disc (((State.Reacts.pantographs d).pc p.other).disc on)
    rw [alone] at before
    cases before
  have apart : (d.pantographs.pc p.other).upCollecting = false := by simp [PC.upCollecting, other]
  have changed : wiringChanged s d.pantographs = true := wiringChanged_iff.mpr ⟨p, .inl (by rw [was, up]; decide)⟩
  have image' : d.pantographs.cl.image = some im := by simpa [hd] using image
  set v := s.wiring d.pantographs with hv
  have wired : v = { d.pantographs with
      lq := s.lq.abandon
      icu := ({ (if 0 < s.lq.index then s.icu.advance im.tClear else s.icu) with arcPan := some p } : ICU).formSum } := by
    have same : d.pantographs.lq = s.lq ∧ d.pantographs.icu = s.icu := by simp [hd]
    rw [hv, State.wiring, if_pos changed, State.abandonWindow_eq image', same.1, same.2]
    exact State.takeArcPan_entering was up apart
  have arcs : v.ArcsOf p := ⟨by rw [wired]; rfl, by rw [wired]; cases p <;> exact other⟩
  have begins : settled (.levelAccepted (upInput p) true) s = settle 7 d.pantographs v.others := by
    rw [settled_eq (by simp), direct_accept h]
    rfl
  have tail : v.Reacts (eventEnd (.levelAccepted (upInput p) true) s) := by
    rw [eventEnd, begins]
    exact ((State.Reacts.others v).trans (.settle 7 _ _)).trans (.finish s _ _ _)
  have moves : Moves v (eventEnd (.levelAccepted (upInput p) true) s) := by
    rw [eventEnd, begins]
    exact ((moves_others v).trans (moves_settle 7 _ _)).trans (moves_finish s _ _ _)
  have empty : v.lq = s.lq.abandon := by rw [wired]
  refine ⟨?_, ?_, ?_⟩
  · rcases tail.lq with e | e <;> rw [e, empty]
    rfl
  · have before := ((arcs.of_reacts (moves_others (w := False) (x := False) v).arcPan (.others v)).settle 7 d.pantographs).1
    rw [eventEnd, begins]
    exact (moves_finish (w := False) s _ _ _).arcPan.trans before
  · rcases moves.rings with ⟨rings, -⟩ | ⟨-, held⟩
    · rw [rings, wired]
      rfl
    · rw [empty] at held
      exact absurd held (lt_irrefl 0)

/-! ### A command that leaves the roof wiring leaves the Line Qualifier -/

/-- A controller stands, or comes to rest in DOWN or FAULT, with DISC no more than it was. -/
def PC.Settles (c d : PC) : Prop :=
  (d.disc = true → c.disc = true) ∧ (d.state = c.state ∨ d.state = .down ∨ d.state = .fault)

theorem PC.Settles.refl (c : PC) : c.Settles c := ⟨id, .inl rfl⟩

/-- What comes to rest in an event and ends it as it began has not moved. -/
theorem PC.Settles.between {c d e : PC} (h : c.Settles d) (k : d.Drift e) (state : e.state = c.state)
    (disc : e.disc = c.disc) : d.state = c.state ∧ d.disc = c.disc := by
  obtain ⟨off, rests⟩ := h
  constructor
  · rcases rests with same | down | fault
    · exact same
    · rw [down, ← state, k.down down]
    · rw [fault, ← state, (k.fault fault).1]
  · cases on : c.disc with
    | true => exact k.disc (disc.trans on)
    | false => exact Bool.eq_false_iff.mpr fun x => by rw [off x] at on; cases on

theorem State.takeDemand_settles (s : State) (im : Image) (h : RxHeader) (b : Vector Byte 10) (p : Pan) :
    ∃ r : PC, (s.pc p).Settles r ∧ r.Drift ((s.takeDemand im h b).pc p) := by
  unfold State.takeDemand
  dsimp only
  have entered : Drifts s (s.enterDemand h b).judgeForced :=
    .trans (.of_same (by simp) (by simp)) (State.Reacts.judgeForced _).drifts
  split_ifs
  case neg =>
    exact ⟨_, .refl _, Drifts.of_same (by simp) (by simp) p⟩
  generalize (actingToggles s.pv.table h b (s.enterDemand h b).pv.governing).restore = r
  have on := drifts_handOn (s.enterDemand h b) im s.pv.force r p
  rcases (s.enterDemand h b).judgeForced.pc_restoreAll r p with same | ⟨-, -, -, restored⟩
  · exact ⟨_, .refl _, (entered p).trans (same ▸ on)⟩
  · exact ⟨_, ⟨fun x => (entered p).disc (by rwa [restored] at x), .inr (.inl (by rw [restored]))⟩, on⟩

/-- The direct effect of a command brings a pantograph to rest at most, but for a grant that raises. -/
theorem direct_settles {c : Instr} {s : State} (runs : resets c = false)
    (grant : c = .holdOffExpiry → ∀ h, s.au.head = some h → h.kind = .heat ∨ s.taken h = false) (p : Pan) :
    ∃ r : PC, (s.pc p).Settles r ∧ r.Drift ((direct c s).pc p) := by
  cases steers : steersPantographs c
  case false => exact ⟨_, .refl _, direct_drifts steers s p⟩
  have d := direct_acts c s
  generalize direct c s = t at d ⊢
  induction d
  case none => exact ⟨_, .refl _, .refl _⟩
  case release => cases runs
  case goodRecord r pins _ _ =>
    refine ⟨_, ?_, goodVerdict_drifts s r pins p⟩
    unfold goodPan
    split_ifs
    · exact .refl _
    · exact ⟨(fun x => nomatch x), .inr (.inl rfl)⟩
  case badRecord => exact ⟨_, .refl _, Drifts.of_same (by simp) (by simp) p⟩
  case lowerTimeout q _ =>
    by_cases e : p = q
    · subst e
      refine ⟨_, ?_, .refl _⟩
      rw [State.lowerTimeout, State.enterFault_pc]
      refine ⟨fun x => ?_, .inr (.inr rfl)⟩
      simp only [PC.faultedBy, Bool.and_eq_true] at x
      exact x.1
    · rw [State.lowerTimeout, State.enterFault_pc_ne _ _ e]
      exact ⟨_, .refl _, .refl _⟩
  case ramp =>
    refine ⟨_, ?_, .refl _⟩
    rcases s.rampBoth_pc p with same | ⟨im, -, ramped⟩
    · rw [same]; exact .refl _
    · rw [ramped]; exact ⟨id, .inl rfl⟩
  case demand h b im _ _ _ => exact s.takeDemand_settles im h b p
  case holdOff im _ _ =>
    rcases s.holdOffEnd_pc im p with same | ⟨h, head, raises, pan, -, taken, -⟩
    · rw [same]; exact ⟨_, .refl _, .refl _⟩
    · rcases grant rfl h head with heat | refused
      · exact absurd heat raises
      · obtain ⟨kind, q, amount⟩ := h
        obtain rfl : q = p := pan
        cases kind
        case raise | scrape => exact absurd (taken.symm.trans refused) (by decide)
        case heat => exact absurd rfl raises
  case clash => exact ⟨_, .refl _, Drifts.of_same (by simp) (by simp) p⟩
  case error => exact ⟨_, .refl _, Drifts.of_same (by simp) (by simp) p⟩
  all_goals cases steers

/-- A command but a sample leaves the Line Qualifier where the state and the DISC of both pantographs stand. -/
theorem exec_lq_of_same {c : Instr} {s t : State} (sample : ∀ code valid, c ≠ .sampleEvent code valid)
    (next : exec c s = .next t) (released : s.released = true) (live : t.released = true)
    (grant : c = .holdOffExpiry → ∀ h, s.au.head = some h → h.kind = .heat ∨ s.taken h = false)
    (same : ∀ p, (t.pc p).state = (s.pc p).state ∧ (t.pc p).disc = (s.pc p).disc) : t.lq = s.lq := by
  cases exec_answer next with
  | idle => rfl
  | reset => cases live
  | event runs =>
    have kind : resets c = false := by
      rcases runs with ⟨-, h⟩ | ⟨h, -⟩
      · exact h
      · cases released.symm.trans h
    have start : SameWiring s (direct c s) := fun p => by
      obtain ⟨r, settles, drifts⟩ := direct_settles kind grant p
      have rest := drifts_eventEnd c s p
      have now := settles.between (drifts.trans rest) (same p).1 (same p).2
      have next := drifts.between rest ((same p).1.trans now.1.symm) ((same p).2.trans now.2.symm)
      exact ⟨next.1.trans now.1, next.2.trans now.2⟩
    exact (eventEnd_lq_of_same start same).trans (direct_lq sample s)

/-! ### BRK_FB comes to read OPEN -/

theorem State.forceTarget_of_ramping {s : State} {p : Pan} {v : Bool} {n : Nat} (h : (s.pc p).Ramping v n) :
    s.forceTarget p = 0 := by
  unfold State.forceTarget
  split
  · rfl
  · simp [h.low]

/-- A soft lowering goes on at BRK_FB OPEN: it ramps down, or vents at F_set 0 (R39). -/
theorem accepted_opens {s : State} {p : Pan} (closed : s.ioc.levels.brkFb = true) (air : s.airOk p = true)
    (down : s.downSensor p = false) {v : Bool} {n : Nat} (h : (s.pc p).Lowered v n) :
    ((eventEnd (.levelAccepted .brkFb false) s).pc p).Gone v n := by
  have effect : direct (.levelAccepted .brkFb false) s = s.accept .brkFb false :=
    direct_accept (by simp [levelOf, closed])
  have on := moves_from_pantographs (.levelAccepted .brkFb false) s
  rw [effect] at on
  have same : (s.accept .brkFb false).pc p = s.pc p := by cases p <;> rfl
  have steady : (s.accept .brkFb false).Steady p := by
    refine .inr ⟨?_, fun _ => ?_⟩
    · rw [← down]; cases p <;> rfl
    · rw [← air]; cases p <;> rfl
  have first := State.pantographs_lets steady rfl (same ▸ h)
  have before : Moves (s.accept .brkFb false) (s.accept .brkFb false).pantographs := moves_pantographs _
  exact (on.eases (before.eases steady).2.1).1.gone first

/-- Settles O17: the levels and the breaker by the direct effect, the sensors by the first round of the pantographs, and the
window by the roof wiring. -/
theorem acceptedLevelReachesItsReaders : Obligations.AcceptedLevelReachesItsReaders := by
  refine ⟨fun s i level released h => levelAccepted_reaches released h,
    fun s im p released image acts rising disc idle alone air low => ?_,
    fun c s t sample next released live grant same => exec_lq_of_same sample next released live grant same,
    fun s p released closed acts raised disc air down => ?_⟩
  · obtain ⟨lq, arcPan, rings⟩ := accepted_abandons image acts rising disc idle alone air low
    obtain ⟨ringA, ringB, winA, winB, -⟩ := s.icu.advance_rings im.tClear
    have next : exec (.levelAccepted (upInput p) true) s = .next (eventEnd (.levelAccepted (upInput p) true) s) :=
      exec_eq_event released rfl
    refine ⟨_, by cases p <;> exact next, lq, arcPan, fun empty => ?_, fun held => ?_⟩
    · rw [if_neg (by omega)] at rings
      exact ⟨congrArg Prod.fst rings, congrArg (fun x => x.2.1) rings, congrArg (fun x => x.2.2.1) rings,
        congrArg (fun x => x.2.2.2) rings⟩
    · rw [if_pos held] at rings
      exact ⟨(congrArg Prod.fst rings).trans ringA, (congrArg (fun x => x.2.1) rings).trans ringB,
        (congrArg (fun x => x.2.2.1) rings).trans winA, (congrArg (fun x => x.2.2.2) rings).trans winB⟩
  · refine ⟨_, exec_eq_event released rfl, fun waits force => ?_, fun lowering zero => ?_⟩
    · have gone := accepted_opens closed air down ⟨raised, disc, rfl, .inl waits, rfl⟩
      have ramping := (gone.resolve_left fun x => force x.1).2
      refine ⟨ramping.raised, ramping.low, ?_, ramping.valve, ramping.force⟩
      rw [eventEnd_target]
      exact State.forceTarget_of_ramping ramping
    · have low : (s.pc p).lowering = some .softWait ∨ (s.pc p).lowering = some .softRamp := by
        match e : (s.pc p).lowering with
        | some .softWait => exact .inl rfl
        | some .softRamp => exact .inr rfl
        | none => rw [e] at lowering; cases lowering
      have gone := accepted_opens closed air down ⟨raised, disc, rfl, low, zero⟩
      have vented := (gone.resolve_right fun x => x.1 rfl).2
      exact ⟨vented.state, vented.valve, vented.low, vented.timer, vented.stopped⟩

end Sys2Proof.Machine
end

section
/-! PROOFS. The bytes and the signals of line frames are read back (O59). -/

namespace Sys2Proof.Machine

/-! ### Bytes -/

theorem bit_getLsbD (b : Byte) (i : Nat) : bit (b.getLsbD i) = b.toNat / 2 ^ i % 2 := by
  rw [bit, BitVec.getLsbD, Nat.testBit_eq_decide_div_mod_eq]
  have : b.toNat / 2 ^ i % 2 < 2 := Nat.mod_lt _ (by decide)
  split_ifs with h
  · exact (of_decide_eq_true h).symm
  · have : ¬ b.toNat / 2 ^ i % 2 = 1 := fun x => h (decide_eq_true x)
    omega

/-- A number below 256 is the sum of its eight binary digits. -/
theorem eight_digits : ∀ n < 256, 128 * (n / 2 ^ 7 % 2) + 64 * (n / 2 ^ 6 % 2) + 32 * (n / 2 ^ 5 % 2) +
    16 * (n / 2 ^ 4 % 2) + 8 * (n / 2 ^ 3 % 2) + 4 * (n / 2 ^ 2 % 2) + 2 * (n / 2 ^ 1 % 2) + n / 2 ^ 0 % 2 = n := by
  decide +kernel

/-- The eight bits of a byte make that byte. -/
theorem byteOfBits_bitsOf (b : Byte) : byteOfBits (b.getLsbD 7) (b.getLsbD 6) (b.getLsbD 5) (b.getLsbD 4) (b.getLsbD 3)
    (b.getLsbD 2) (b.getLsbD 1) (b.getLsbD 0) = b := by
  refine BitVec.eq_of_toNat_eq ?_
  simp only [byteOfBits, BitVec.toNat_ofNat, bit_getLsbD]
  rw [eight_digits _ b.isLt]
  exact Nat.mod_eq_of_lt b.isLt

theorem packBits_bytes (bytes : List Byte) : packBits (bytes.flatMap bitsOf) = some bytes := by
  induction bytes with
  | nil => rfl
  | cons b bytes ih =>
    change (packBits (bytes.flatMap bitsOf)).map (byteOfBits _ _ _ _ _ _ _ _ :: ·) = _
    rw [ih, byteOfBits_bitsOf]
    rfl

/-- A part of a byte is no byte. -/
theorem packBits_part : ∀ bits : List Bool, bits.length % 8 ≠ 0 → packBits bits = none
  | [], h => absurd rfl h
  | [_], _ | [_, _], _ | [_, _, _], _ | [_, _, _, _], _ | [_, _, _, _, _], _ | [_, _, _, _, _, _], _
  | [_, _, _, _, _, _, _], _ => rfl
  | a :: b :: c :: d :: e :: f :: g :: i :: rest, h => by
    have part : rest.length % 8 ≠ 0 := fun whole => h ((Nat.add_mod_right rest.length 8).trans whole)
    change (packBits rest).map (byteOfBits a b c d e f g i :: ·) = none
    rw [packBits_part rest part]
    rfl

/-! ### Manchester bits -/

theorem readBits_halves (bits tail : List Bool) :
    readBits (bits.flatMap bitHalves ++ tail) = (readBits tail).map (bits ++ ·) := by
  induction bits with
  | nil => simp
  | cons b bits ih =>
    cases b
    · change (readBits (bits.flatMap bitHalves ++ tail)).map (false :: ·) = _
      rw [ih, Option.map_map]
      rfl
    · change (readBits (bits.flatMap bitHalves ++ tail)).map (true :: ·) = _
      rw [ih, Option.map_map]
      rfl

/-- Two low halves among the data are no Manchester bit, but for the end mark. -/
theorem readBits_low {rest : List Bool} (h : rest ≠ [false, false]) : readBits (false :: false :: rest) = none := by
  match rest with
  | [] => rfl
  | [a] => cases a <;> rfl
  | [false, false] => exact absurd rfl h
  | [true, _] | [false, true] => rfl
  | a :: b :: _ :: _ => cases a <;> cases b <;> rfl

theorem readBits_bytes (bytes : List Byte) : readBits (bytes.flatMap byteHalves ++ endMark) = some (bytes.flatMap bitsOf) := by
  have halves : bytes.flatMap byteHalves = (bytes.flatMap bitsOf).flatMap bitHalves := by
    rw [List.flatMap_assoc]
    rfl
  rw [halves, readBits_halves]
  exact congrArg some (List.append_nil _)

/-! ### The start mark -/

/-- What stands before the first start mark is passed over. -/
theorem afterStart_pairs (pre : List (Bool × Bool)) (h : ¬[(true, true), (false, false)] <:+: pre) (rest : List Bool) :
    afterStart (pre.flatMap (fun x => [x.1, x.2])) = none ∧
      afterStart (pre.flatMap (fun x => [x.1, x.2]) ++ (startMark ++ rest)) = some rest := by
  induction pre with
  | nil => exact ⟨rfl, rfl⟩
  | cons x pre ih =>
    have later := ih fun k => h (k.trans (List.suffix_cons x pre).isInfix)
    obtain ⟨a, b⟩ := x
    by_cases high : (a, b) = (true, true)
    · obtain ⟨rfl, rfl⟩ := Prod.mk.inj high
      cases pre with
      | nil => exact ⟨rfl, rfl⟩
      | cons y pre =>
        obtain ⟨c, d⟩ := y
        have low : ¬(c = false ∧ d = false) := fun ⟨x, y⟩ => h (by
          subst x y
          exact (List.prefix_append [(true, true), (false, false)] pre).isInfix)
        cases c <;> cases d
        · exact absurd ⟨rfl, rfl⟩ low
        all_goals exact later
    · cases a <;> cases b
      · exact later
      · exact later
      · exact later
      · exact absurd rfl high

/-! ### Headers and frames -/

theorem headerWho_src (h : RxHeader) : (headerWho h).setWidth 4 = h.src := by
  refine BitVec.eq_of_toNat_eq ?_
  have small := h.src.isLt
  rw [headerWho, BitVec.toNat_setWidth, BitVec.toNat_ofNat]
  cases h.kind <;> dsimp only <;> omega

theorem headerWho_kind (h : RxHeader) : headerKind (headerWho h) = h.kind := by
  have small := h.src.isLt
  have bit4 : (headerWho h).getLsbD 4 = decide (h.kind = .control) := by
    rw [BitVec.getLsbD, Nat.testBit_eq_decide_div_mod_eq, headerWho, BitVec.toNat_ofNat]
    cases h.kind <;> simp only [decide_eq_decide, reduceCtorEq, iff_false, iff_true] <;> omega
  rw [headerKind, bit4]
  cases h.kind <;> rfl

/-- The checks of R174 on the bytes of a frame of the least length. -/
theorem decodeLineFrame_eq (ty who seq len : Byte) (payload crc : List Byte) (two : crc.length = 2) :
    decodeLineFrame (ty :: who :: seq :: len :: (payload ++ crc)) =
      if crc ≠ crcBytes (ty :: who :: seq :: len :: payload) then .receiveError .crc
      else if len.toNat ≠ payload.length then .receiveError .length
      else frameCommand ty ⟨who.setWidth 4, headerKind who, seq⟩ payload := by
  have long : (payload ++ crc).length - 2 = payload.length := by rw [List.length_append, two]; omega
  have enough : ¬ (payload ++ crc).length < 2 := by rw [List.length_append, two]; omega
  change (if (payload ++ crc).length < 2 then _ else _) = _
  rw [if_neg enough]
  simp only [long, List.take_left, List.drop_left]

/-- The bytes of a frame are read back as its type, its header and its payload. -/
theorem decodeLineFrame_frameBytes (ty : Byte) (h : RxHeader) (payload : List Byte) (small : payload.length ≤ 255) :
    decodeLineFrame (frameBytes ty h payload) = frameCommand ty h payload := by
  have len : (BitVec.ofNat 8 payload.length).toNat = payload.length := by rw [BitVec.toNat_ofNat]; omega
  have read := decodeLineFrame_eq ty (headerWho h) h.seq (BitVec.ofNat 8 payload.length) payload
    (crcBytes (ty :: headerWho h :: h.seq :: BitVec.ofNat 8 payload.length :: payload)) rfl
  rw [if_neg (by simp), if_neg (by simp [len]), headerWho_src, headerWho_kind] at read
  exact read

theorem exactly_toList {n : Nat} (v : Vector Byte n) : exactly n v.toList = some v := by
  obtain ⟨a, size⟩ := v
  simp [exactly, size]

/-- The bytes of a command that is a frame are read back as the command. -/
theorem decodeLineFrame_encodeLineFrame {i : Instr} {bytes : List Byte} (fits : i.wellFormed = true)
    (h : encodeLineFrame i = some bytes) : decodeLineFrame bytes = i := by
  cases i
  case statusReceived x p | claimReceived x p | demandReceived x p =>
    cases h
    rw [decodeLineFrame_frameBytes _ _ _ (by simp)]
    change (exactly _ p.toList).elim _ _ = _
    rw [exactly_toList]
    rfl
  case withdrawReceived x n =>
    cases h
    exact decodeLineFrame_frameBytes _ _ _ (by simp)
  case recordReceived x p =>
    cases h
    have short : p.length ≤ 28 := of_decide_eq_true fits
    rw [decodeLineFrame_frameBytes _ _ _ (by omega)]
    exact if_pos short
  all_goals cases h

/-! ### The own CLAIM -/

theorem byteOf_toNat {n : Nat} (h : n ≤ 255) : (byteOf n).toNat = n := by
  rw [byteOf, BitVec.toNat_ofNat]
  omega

theorem word16_bytes {n : Nat} (h : n ≤ 65535) : word16 (BitVec.ofNat 8 (n / 256)) (BitVec.ofNat 8 n) = n := by
  rw [word16, BitVec.toNat_ofNat, BitVec.toNat_ofNat]
  omega

/-- A peer reads in the payload of a CLAIM the claim that its station made (section 12.3). -/
theorem claimContent_payload {c : ClaimFrame} {n : Nat} {b : Vector Byte 8} (payload : b.toList = c.payload)
    (serial : c.serial ≤ 255) (position : c.p ≤ n) (length : n ≤ 65535) (amount : c.amount ≤ 65535)
    (holdOff : c.holdOff ≤ 255) :
    claimContent n b = some ⟨c.serial, c.kind, c.pan, c.p, c.amount, c.holdOff * 10, 0⟩ := by
  have get : ∀ (i : Nat) (h : i < 8), some b[i] = c.payload[i]? := fun i h => by
    rw [← payload]
    simp [h]
  have kind : claimKindOfCode (byteOf c.kind.code).toNat = some c.kind := by cases c.kind <;> rfl
  have pan : panOfCode (byteOf (panCode c.pan)).toNat = some c.pan := by cases c.pan <;> rfl
  rw [claimContent, Option.some.inj (get 0 (by decide)), Option.some.inj (get 1 (by decide)),
    Option.some.inj (get 2 (by decide)), Option.some.inj (get 3 (by decide)), Option.some.inj (get 4 (by decide)),
    Option.some.inj (get 5 (by decide)), Option.some.inj (get 6 (by decide)), Option.some.inj (get 7 (by decide)), kind, pan]
  simp only [byteOf_toNat serial, byteOf_toNat holdOff, word16_bytes amount, word16_bytes (position.trans length),
    min_eq_left position]

/-! ### Signals -/

theorem lineSignal_length (bytes : List Byte) : (lineSignal bytes).length = 2 * (12 + 8 * bytes.length) := by
  have halves : (bytes.flatMap byteHalves).length = 16 * bytes.length := by
    induction bytes with
    | nil => rfl
    | cons b bytes ih =>
      rw [List.flatMap_cons, List.length_append, ih, List.length_cons]
      have : (byteHalves b).length = 16 := rfl
      omega
  simp only [lineSignal, List.length_append, halves, preamble, startMark, endMark]
  simp [bitHalves]
  omega

theorem receiveSignal_of_start {signal rest : List Bool} (start : afterStart signal = some rest) :
    receiveSignal signal = some (((readBits rest).bind packBits).elim (.receiveError .coding) decodeLineFrame) := by
  rw [receiveSignal, start]
  rfl

theorem receiveSignal_frame {signal : List Bool} {bytes : List Byte}
    (start : afterStart signal = some (bytes.flatMap byteHalves ++ endMark)) :
    receiveSignal signal = some (decodeLineFrame bytes) := by
  rw [receiveSignal_of_start start, readBits_bytes]
  change some ((packBits (bytes.flatMap bitsOf)).elim _ _) = _
  rw [packBits_bytes]
  rfl

/-- Data that the start mark of a whole preamble opens. -/
theorem receiveSignal_coding {bits tail : List Bool}
    (h : readBits (bits.flatMap bitHalves ++ tail) = none ∨
      ∃ l, readBits (bits.flatMap bitHalves ++ tail) = some l ∧ packBits l = none) :
    receiveSignal (preamble ++ startMark ++ bits.flatMap bitHalves ++ tail) = some (.receiveError .coding) := by
  have start : afterStart (preamble ++ startMark ++ bits.flatMap bitHalves ++ tail) =
      some (bits.flatMap bitHalves ++ tail) := by
    rw [List.append_assoc]
    rfl
  rw [receiveSignal_of_start start]
  rcases h with none' | ⟨l, read, part⟩
  · rw [none']; rfl
  · rw [read, Option.bind_some, part]; rfl

/-- Settles O59: bytes by their bits, frames by their checks, signals by their start mark. -/
theorem lineFramesAreReadBack : Obligations.LineFramesAreReadBack := by
  refine ⟨fun i bytes fits h => decodeLineFrame_encodeLineFrame fits h, fun ty who seq len payload crc two wrong => ?_,
    fun c n b payload serial position length amount holdOff =>
      claimContent_payload payload serial position length amount holdOff, fun s a on => ?_, fun s idle => ?_,
    fun bytes => ⟨lineSignal_length bytes, ?_⟩, fun pre spoiled => ⟨?_, fun bytes => ?_⟩, fun bits rest => ?_⟩
  · rw [decodeLineFrame_eq _ _ _ _ _ _ two, if_pos wrong]
  · simp [State.outputs, on, Attempt.lineBytes]
  · simp [State.outputs, idle]
  · refine receiveSignal_frame ?_
    rw [lineSignal, List.append_assoc]
    rfl
  · rw [receiveSignal, (afterStart_pairs pre spoiled []).1]
    rfl
  · refine receiveSignal_frame ?_
    have drop : (lineSignal bytes).drop 16 = startMark ++ (bytes.flatMap byteHalves ++ endMark) := by
      rw [lineSignal, List.append_assoc, List.append_assoc]
      rfl
    rw [drop]
    exact (afterStart_pairs pre spoiled _).2
  · have data : ∀ tail, readBits (bits.flatMap bitHalves ++ tail) = (readBits tail).map (bits ++ ·) := readBits_halves bits
    refine ⟨receiveSignal_coding (.inl ?_), fun more => receiveSignal_coding (.inl ?_), ?_, fun part => ?_⟩
    · rw [data]; rfl
    · rw [data, readBits_low more]
      rfl
    · have coding := receiveSignal_coding (bits := bits) (tail := []) (.inl (by rw [data]; rfl))
      rw [List.append_nil] at coding
      exact coding
    · refine receiveSignal_coding (.inr ⟨_, data _, ?_⟩)
      exact packBits_part _ (by simpa using part)

end Sys2Proof.Machine
end

section
/-! PROOFS. The window in progress and the counters of the part stay in their ranges. -/

namespace Sys2Proof.Machine

/-! ### The window in progress (R5, R7) -/

theorem satInc_le (k n : Nat) : satInc k n ≤ k := by
  unfold satInc
  split_ifs <;> omega

theorem wrapInc_le (k n : Nat) : wrapInc k n ≤ k := by
  unfold wrapInc
  split_ifs <;> omega

theorem bit_le_one (b : Bool) : bit b ≤ 1 := by cases b <;> decide

theorem LQ.used_range {q : LQ} (h : q.InRange) (code : BitVec 14) (valid : Bool) :
    -8192 ≤ q.used code valid ∧ q.used code valid ≤ 8191 := by
  unfold LQ.used
  split_ifs
  · have := @BitVec.le_toInt 14 code
    have := @BitVec.toInt_lt 14 code
    norm_num at *
    constructor <;> omega
  · decide
  · exact ⟨h.lastLow, h.lastHigh⟩

/-- An empty window is within the ranges (R4). -/
theorem LQ.inRange_of_empty {q : LQ} (index : q.index = 0) (s1 : q.s1 = 0) (s2 : q.s2 = 0) (invalid : q.invalid = 0)
    (clipped : q.clipped = 0) (last : q.lastUsed = 0) : q.InRange := by
  constructor <;> simp [*]

theorem LQ.take_inRange {q : LQ} (h : q.InRange) (inside : q.index < 2303) (n : Nat) (code : BitVec 14) (valid : Bool) :
    (q.take n code valid).InRange := by
  have used := LQ.used_range h code valid
  have square (u : Int) (k : -8192 ≤ u ∧ u ≤ 8191) : u.natAbs * u.natAbs ≤ 67108864 :=
    Nat.mul_le_mul (n₂ := 8192) (m₂ := 8192) (by omega) (by omega)
  have index : ((q.take n code valid).index : Int) = q.index + 1 := rfl
  constructor
  case index => exact inside
  case s1Low => rw [index, mul_add, mul_one]; exact add_le_add h.s1Low used.1
  case s1High => rw [index, mul_add, mul_one]; exact add_le_add h.s1High used.2
  case s2 => exact add_le_add h.s2 (square _ used)
  case invalid => exact add_le_add h.invalid (bit_le_one _)
  case clipped => exact add_le_add h.clipped (bit_le_one _)
  case lastLow => exact used.1
  case lastHigh => exact used.2

theorem LQ.tracked_of_empty {q : LQ} (index : q.index = 0) (crossings : q.crossings = 0) (side : q.side = .none)
    (first : q.first = none) (last : q.last = none) : q.Tracked := by
  refine ⟨index.trans_le (Nat.zero_le _), fun _ => ⟨first, last⟩, fun pos => ?_, fun neg => ?_⟩
  · exact absurd crossings (Nat.ne_of_gt pos)
  · rw [side] at neg; cases neg

/-- A used value leaves the crossings, or is a crossing out of the negative side (R6). -/
theorem LQ.track_cases (q : LQ) (n : Nat) (u : Int) :
    ((q.track n u).crossings = q.crossings ∧ (q.track n u).first = q.first ∧ (q.track n u).last = q.last) ∨
      (q.side = .neg ∧ (q.track n u).side = .pos ∧ (q.track n u).crossings = q.crossings + 1 ∧
        (q.track n u).first = (if q.crossings = 0 then some q.index else q.first) ∧
        (q.track n u).last = some q.index) := by
  unfold LQ.track
  split
  · exact .inl ⟨rfl, rfl, rfl⟩
  · split
    · split
      · exact .inr ⟨‹_›, rfl, rfl, rfl, rfl⟩
      · exact .inl ⟨rfl, rfl, rfl⟩
    · exact .inl ⟨rfl, rfl, rfl⟩

/-- The last crossing lies before the sample at the index. -/
theorem LQ.last_lt {q : LQ} (h : q.Tracked) {j : Nat} (last : q.last = some j) : j < q.index := by
  rcases Nat.eq_zero_or_pos q.crossings with zero | pos
  · rw [(h.none zero).2] at last
    cases last
  · obtain ⟨_, k, _, last', _, _, below⟩ := h.some pos
    rw [last'] at last
    cases last
    exact below

theorem next_crossing {i j k n : Nat} (count : 0 < n) (below : i + 2 * (n - 1) ≤ j) (gap : j + 2 ≤ k) : i + 2 * n ≤ k := by
  omega

theorem LQ.take_tracked {q : LQ} (h : q.Tracked) (inside : q.index < 2303) (n : Nat) (code : BitVec 14) (valid : Bool) :
    (q.take n code valid).Tracked := by
  have index : (q.take n code valid).index = q.index + 1 := rfl
  rcases q.track_cases n (q.used code valid) with ⟨crossings, first, last⟩ | ⟨neg, pos, crossings, first, last⟩
  · change (q.take n code valid).crossings = _ at crossings
    change (q.take n code valid).first = _ at first
    change (q.take n code valid).last = _ at last
    constructor
    case index => exact inside
    case none => rw [crossings, first, last]; exact h.none
    case some =>
      rw [crossings, first, last, index]
      intro some
      obtain ⟨i, j, first, last, one, gap, below⟩ := h.some some
      exact ⟨i, j, first, last, one, gap, Nat.lt_succ_of_lt below⟩
    case neg =>
      rw [last, index]
      exact fun _ => ⟨Nat.le_add_left _ _, fun j last => Nat.succ_le_succ (LQ.last_lt h last)⟩
  · change (q.take n code valid).side = _ at pos
    change (q.take n code valid).crossings = _ at crossings
    change (q.take n code valid).first = _ at first
    change (q.take n code valid).last = _ at last
    obtain ⟨one, gap⟩ := h.neg neg
    constructor
    case index => exact inside
    case none => rw [crossings]; exact fun zero => absurd zero (Nat.succ_ne_zero _)
    case some =>
      rw [crossings, first, last, index, Nat.add_sub_cancel]
      intro _
      split_ifs with zero
      · exact ⟨q.index, q.index, rfl, rfl, one, by rw [zero]; exact le_rfl, Nat.lt_succ_self _⟩
      · have count := Nat.pos_of_ne_zero zero
        obtain ⟨i, j, first, last, one, below, -⟩ := h.some count
        exact ⟨i, q.index, first, rfl, one, next_crossing count below (gap j last), Nat.lt_succ_self _⟩
    case neg => rw [pos]; exact fun x => nomatch x

/-- What an event makes of the window in progress: it stands, or a sample enters it, or it is empty (R4, R17). -/
theorem eventEnd_window (c : Instr) (s : State) : (eventEnd c s).lq = s.lq ∨
    (∃ n code valid, s.lq.index < 2303 ∧ (eventEnd c s).lq = s.lq.take n code valid) ∨
    (eventEnd c s).lq = (eventEnd c s).lq.clearWindow := by
  rcases eventEnd_lq c s with same | thrown
  · rw [same]
    by_cases sample : ∃ code valid, c = .sampleEvent code valid
    · obtain ⟨code, valid, rfl⟩ := sample
      cases i : s.cl.image with
      | none => exact .inl (by simp [direct, State.ifGood_of_none i])
      | some im =>
        rw [direct_sample i, State.takeSample_lq]
        split_ifs with inside
        · exact .inr (.inl ⟨_, code, valid, inside, rfl⟩)
        · exact .inr (.inr rfl)
    · exact .inl (direct_lq (fun code valid e => sample ⟨code, valid, e⟩) s)
  · rw [thrown]
    exact .inr (.inr rfl)

theorem step_window (s t : State) (law : s.lq.InRange ∧ s.lq.Tracked)
    (h : step s = .next t) : t.lq.InRange ∧ t.lq.Tracked := by
  refine step_keeps (Law := fun s => s.lq.InRange ∧ s.lq.Tracked) (fun _ _ law => law) (fun _ => ?_)
    (fun _ _ law => law) (fun c s law _ => ?_) s t law h
  · exact ⟨LQ.reset_inRange, LQ.reset_tracked⟩
  · rcases eventEnd_window c s with same | ⟨n, code, valid, inside, taken⟩ | empty
    · rw [same]; exact law
    · rw [taken]; exact ⟨LQ.take_inRange law.1 inside n code valid, LQ.take_tracked law.2 inside n code valid⟩
    · rw [empty]; exact ⟨LQ.inRange_of_empty rfl rfl rfl rfl rfl rfl, LQ.tracked_of_empty rfl rfl rfl rfl rfl⟩

end Sys2Proof.Machine
end

section
/-! PROOFS. Every counter of the part stays within its maximum (O16). -/

namespace Sys2Proof.Machine

/-! ### The counters by block -/

/-- The result number and the streaks of the Line Qualifier (R21 to R23). -/
structure LQ.Counts (q : LQ) : Prop where
  result : q.resultCounter ≤ 65535
  candidate : q.candCount ≤ 255
  unknown : q.unknownStreak ≤ 255
  dead : q.deadCount ≤ 255

/-- A waiting frame has failed seven times at most (R173). -/
def Tried {α : Type} (slot : Option (Slot α)) : Prop := ∀ f, slot = some f → f.fails ≤ 7

/-- The counters of the Link Access Unit that no reaction changes. -/
structure LAU.Sums (l : LAU) : Prop where
  rxErrors : l.rxErrors ≤ 65535
  collisions : l.collisions ≤ 65535
  txDrops : l.txDrops ≤ 65535
  period : l.periodErrors ≤ 16
  sequence : l.seq ≤ 255
  record : Tried l.rcSlot
  attempt : ∀ a, l.onLine = some a → a.fails ≤ 7

/-- The frames that reactions and the end of an event place. -/
structure LAU.Waits (l : LAU) : Prop where
  withdraw : Tried l.wdSlot
  claim : Tried l.clSlot
  status : Tried l.stSlot

/-- The rings with the counts of the window in progress (R130). -/
structure RingCounts (r : List Nat × List Nat × Nat × Nat) : Prop where
  ringA : r.1.length = 8 ∧ ∀ n ∈ r.1, n ≤ 255
  ringB : r.2.1.length = 8 ∧ ∀ n ∈ r.2.1, n ≤ 255
  windowA : r.2.2.1 ≤ 255
  windowB : r.2.2.2 ≤ 255

/-- The train distance with its remainder, the run counts, and the loader at rest on a good configuration. -/
structure IOC.Counts (c : IOC) (l : CL) : Prop where
  distance : c.distance ≤ 4294967295
  runs : ∀ i, c.runs.get i < classTime i
  remainder : match l.image with
    | some im => c.remainder < im.ppm ∧ l.read = none ∧ l.retryT = none
    | none => c.remainder = 0

/-- The counters of the kept part of a state. -/
structure Kept.Counts (k : Kept) : Prop where
  missed : k.pv.missedSeq ≤ 65535
  arcs : k.arcCount ≤ 255
  sums : k.lau.Sums
  inputs : k.ioc.Counts k.cl

theorem State.counterLaw_iff (s : State) : s.CounterLaw ↔
    s.lq.Counts ∧ s.kept.Counts ∧ s.lau.Waits ∧ s.au.serial ≤ 255 ∧ RingCounts s.icu.rings ∧ s.cc.rqCount ≤ 255 := by
  constructor
  · intro h
    obtain ⟨wd, cl, st, rc⟩ := h.waiting
    exact ⟨⟨h.result, h.candidate, h.unknown, h.dead⟩,
      ⟨h.missed, h.arcs, ⟨h.rxErrors, h.collisions, h.txDrops, h.period, h.sequence, rc, h.attempt⟩,
        ⟨h.distance, h.runs, h.remainder⟩⟩,
      ⟨wd, cl, st⟩, h.serial, ⟨h.ringA, h.ringB, h.windowA, h.windowB⟩, h.requalify⟩
  · rintro ⟨lq, ⟨missed, arcs, sums, inputs⟩, ⟨wd, cl, st⟩, serial, rings, requalify⟩
    exact ⟨lq.result, lq.candidate, lq.unknown, lq.dead, missed, sums.rxErrors, sums.collisions, sums.txDrops, sums.period,
      sums.sequence, serial, arcs, rings.windowA, rings.windowB, rings.ringA, rings.ringB, inputs.distance,
      inputs.remainder, requalify, inputs.runs, ⟨wd, cl, st, sums.record⟩, sums.attempt⟩

/-! ### The Line Qualifier -/

theorem LQ.Counts.abandon {q : LQ} (h : q.Counts) : q.abandon.Counts := ⟨h.result, Nat.zero_le _, h.unknown, Nat.zero_le _⟩

theorem LQ.Counts.take {q : LQ} (h : q.Counts) (n : Nat) (code : BitVec 14) (valid : Bool) :
    (q.take n code valid).Counts := by
  obtain ⟨-, -, cand, unknown, dead, -, result, -⟩ := q.take_frame n code valid
  exact ⟨result ▸ h.result, cand ▸ h.candidate, unknown ▸ h.unknown, dead ▸ h.dead⟩

theorem LQ.close_counts (q : LQ) (kq : Nat) : (q.close kq).Counts where
  result := wrapInc_le _ _
  candidate := by
    change q.clearWindow.nextCount _ ≤ 255
    unfold LQ.nextCount
    split_ifs
    · exact satInc_le _ _
    · decide
  unknown := by
    change q.clearWindow.nextUnknown _ ≤ 255
    unfold LQ.nextUnknown
    split_ifs
    · exact satInc_le _ _
    · decide
  dead := by
    change (if _ then satInc 255 _ else 0) ≤ 255
    split_ifs
    · exact satInc_le _ _
    · decide

theorem eventEnd_lqCounts (c : Instr) {s : State} (h : s.lq.Counts) : (eventEnd c s).lq.Counts := by
  have effect : (direct c s).lq.Counts := by
    by_cases sample : ∃ code valid, c = .sampleEvent code valid
    · obtain ⟨code, valid, rfl⟩ := sample
      cases i : s.cl.image with
      | none => simpa [direct, State.ifGood_of_none i] using h
      | some im =>
        rw [direct_sample i, State.takeSample_lq]
        split_ifs
        · exact h.take _ _ _
        · exact LQ.close_counts _ _
    · rw [direct_lq fun code valid e => sample ⟨code, valid, e⟩]
      exact h
  rcases eventEnd_lq c s with same | thrown
  · rw [same]; exact effect
  · rw [thrown]; exact effect.abandon

/-! ### The kept part through an event -/

theorem Kept.Counts.of_reacts {s t : State} (h : s.kept.Counts) (k : s.Reacts t) : t.kept.Counts := by
  rw [k.kept]
  exact h

theorem Tried.fresh {α : Type} {f : α} {n : Option Nat} : Tried (some (⟨f, 0, n⟩ : Slot α)) := by
  rintro _ ⟨⟩
  exact Nat.zero_le 7

theorem Tried.none {α : Type} : Tried (none : Option (Slot α)) := fun _ e => by cases e

theorem Kept.Counts.reportAndClear {s : State} (h : s.kept.Counts) (a : Acting) : (s.reportAndClear a).kept.Counts := by
  have reported (f : RecordFrame) : (s.placeRecord f).kept.Counts :=
    ⟨h.missed, h.arcs, { h.sums with record := Tried.fresh }, h.inputs⟩
  have cleared (t : State) (k : t.kept.Counts) : t.clearToggle.kept.Counts :=
    ⟨Nat.zero_le _, Nat.zero_le _, { k.sums with rxErrors := Nat.zero_le _, collisions := Nat.zero_le _, txDrops := Nat.zero_le _ },
      k.inputs⟩
  have placed := prop_ite (P := fun t : State => t.kept.Counts) (c := a.report) (reported s.recordSnapshot) h
  exact prop_ite (P := fun t : State => t.kept.Counts) (cleared _ placed) placed

theorem eventEnd_keptCounts {c : Instr} {s : State} (h : (direct c s).kept.Counts) : (eventEnd c s).kept.Counts :=
  ((h.of_reacts (State.Reacts.settle rounds s _)).reportAndClear _).of_reacts (State.Reacts.finish _ _ _ _)

end Sys2Proof.Machine
end

section
/-! PROOFS. The counters of the Peer View and the arc counts through the direct effect of a command. -/

namespace Sys2Proof.Machine

/-! ### The missed sequence numbers -/

theorem PV.form_missed (v : PV) : v.form.missedSeq = v.missedSeq := by rw [PV.form_eq]

theorem State.tableChanged_missed (s : State) (im : Image) (l : List Entry) :
    (s.tableChanged im l).pv.missedSeq = s.pv.missedSeq := by
  rw [State.tableChanged_pv, PV.form_missed]

theorem State.takeRoof_missed (s : State) (im : Image) (h : RxHeader) (f : RoofData → RoofData) :
    (s.takeRoof im h f).pv.missedSeq = s.pv.missedSeq := by
  rw [State.takeRoof_pv, PV.form_missed]

theorem State.takeDemand_missed (s : State) (im : Image) (h : RxHeader) (b : Vector Byte 10) :
    (s.takeDemand im h b).pv.missedSeq = s.pv.missedSeq := by
  have heard (v : PV) : v.hear.missedSeq = v.missedSeq := by
    unfold PV.hear
    split_ifs <;> rfl
  rw [State.takeDemand_pv, State.enterDemand_pv]
  dsimp only
  split_ifs
  · rw [heard, PV.form_missed]
  · rw [PV.form_missed]

/-! ### The arc counts -/

/-- The arc count, the rings and the counts of the window in progress, the sum and the ice state. -/
def ICU.tally (u : ICU) : (Nat × List Nat × List Nat × Nat × Nat) × Nat × Option Pan × IceState :=
  ((u.arcCount, u.rings), u.arcSum, u.arcPan, u.state)

/-- The tally with the clear streak. -/
def ICU.account (u : ICU) : ((Nat × List Nat × List Nat × Nat × Nat) × Nat × Option Pan × IceState) × Nat :=
  (u.tally, u.clearStreak)

/-- The tally stands, and the clear streak stands or starts again (R135). -/
def ICU.Same (u v : ICU) : Prop := v.tally = u.tally ∧ (v.clearStreak = u.clearStreak ∨ v.clearStreak = 0)

theorem ICU.Same.of_account {u v : ICU} (h : v.account = u.account) : u.Same v :=
  ⟨congrArg Prod.fst h, .inl (congrArg Prod.snd h)⟩

/-- The arc counts are within their maxima. -/
def ICU.Counts (u : ICU) : Prop := u.arcCount ≤ 255 ∧ RingCounts u.rings

theorem ICU.Counts.same {u v : ICU} (h : u.Counts) (same : u.Same v) : v.Counts := by
  obtain ⟨arcs, rings⟩ := Prod.mk.inj (show (v.arcCount, v.rings) = (u.arcCount, u.rings) from congrArg Prod.fst same.1)
  unfold ICU.Counts
  rw [arcs, rings]
  exact h

theorem mem_advanceRing {r : List Nat} {n : Nat} (len : r.length = 8) (all : ∀ m ∈ r, m ≤ 255) (h : n ≤ 255) :
    (r.tail ++ [n]).length = 8 ∧ ∀ m ∈ r.tail ++ [n], m ≤ 255 := by
  refine ⟨by simp [len], fun m mem => ?_⟩
  rcases List.mem_append.mp mem with old | new
  · exact all m (List.mem_of_mem_tail old)
  · rw [List.mem_singleton.mp new]
    exact h

theorem RingCounts.advance {u : ICU} (h : RingCounts u.rings) (n : Nat) : RingCounts (u.advance n).rings := by
  obtain ⟨a, b, winA, winB, -⟩ := u.advance_rings n
  constructor
  · change (u.advance n).ringA.length = 8 ∧ ∀ m ∈ (u.advance n).ringA, m ≤ 255
    rw [a]
    exact mem_advanceRing h.ringA.1 h.ringA.2 h.windowA
  · change (u.advance n).ringB.length = 8 ∧ ∀ m ∈ (u.advance n).ringB, m ≤ 255
    rw [b]
    exact mem_advanceRing h.ringB.1 h.ringB.2 h.windowB
  · exact winA.le.trans (Nat.zero_le _)
  · exact winB.le.trans (Nat.zero_le _)

theorem State.takeIceMode_same (s : State) : s.icu.Same s.takeIceMode.icu := by
  unfold State.takeIceMode
  cases s.pv.force.ice with
  | none => exact .of_account rfl
  | some m =>
    refine prop_ite (P := fun t : State => s.icu.Same t.icu) (.of_account rfl) ⟨rfl, ?_⟩
    exact prop_ite (P := fun n => n = s.icu.clearStreak ∨ n = 0) (.inr rfl) (.inl rfl)

theorem State.tableChanged_same (s : State) (im : Image) (l : List Entry) : s.icu.Same (s.tableChanged im l).icu := by
  rcases s.tableChanged_icu im l with same | mode
  · rw [same]
    exact .of_account rfl
  · rw [mode]
    exact State.takeIceMode_same _

theorem State.takeRoof_same (s : State) (im : Image) (h : RxHeader) (f : RoofData → RoofData) :
    s.icu.Same (s.takeRoof im h f).icu := by
  obtain ⟨l, same⟩ := s.takeRoof_icu im h f
  rw [same]
  exact s.tableChanged_same im l

theorem State.takeDemand_same (s : State) (im : Image) (h : RxHeader) (b : Vector Byte 10) :
    s.icu.Same (s.takeDemand im h b).icu := by
  have entered : (s.enterDemand h b).icu = s.icu := by simp
  refine prop_ite (P := fun t : State => s.icu.Same t.icu) ?_ ?_
  · rw [State.handOn_icu, ← entered]
    exact State.takeIceMode_same _
  · rw [entered]
    exact .of_account rfl

theorem State.endScrape_account (s : State) (im : Image) (p : Pan) : (s.endScrape im p).icu.account = s.icu.account := by
  have icu : (s.softLower p).icu = s.icu := by simp
  exact .trans (b := (s.softLower p).icu.account) rfl (congrArg ICU.account icu)

theorem State.scrapeEnds_account (s : State) (im : Image) : (s.scrapeEnds im).icu.account = s.icu.account := by
  unfold State.scrapeEnds
  cases s.icu.scrape <;> cases s.icu.scrapeCount
  case some.some => exact State.endScrape_account _ _ _
  all_goals rfl

theorem State.countCooldown_account (s : State) : s.countCooldown.icu.account = s.icu.account := by
  unfold State.countCooldown
  cases s.icu.cooldown <;> rfl

theorem State.countScrape_account (s : State) (im : Image) : (s.countScrape im).icu.account = s.icu.account := by
  unfold State.countScrape
  cases s.icu.scrapeCount with
  | none => rfl
  | some n =>
    dsimp only
    split_ifs
    · cases s.icu.scrape with
      | none => rfl
      | some p => exact State.endScrape_account _ _ _
    · rfl

theorem State.odoInput_account (s : State) (rising : Bool) (us : Nat) : (s.odoInput rising us).icu.account = s.icu.account := by
  unfold State.odoInput State.ifGood State.pulseReaders
  split_ifs
  · cases s.cl.image with
    | none => rfl
    | some im => simp [State.countScrape_account, State.countCooldown_account]
  · rfl

theorem State.act_account (s : State) (im : Image) (h : Head) : (s.act im h).icu.account = s.icu.account := by
  unfold State.act
  cases h.kind with
  | heat => rfl
  | raise | scrape =>
    have icu (b : Bool) : (s.raisePan h.pan b).icu = s.icu := by simp
    exact .trans (b := (s.raisePan h.pan _).icu.account) rfl (congrArg ICU.account (icu _))

theorem State.holdOffEnd_account (s : State) (im : Image) : (s.holdOffEnd im).icu.account = s.icu.account := by
  unfold State.holdOffEnd State.grant
  cases s.au.head with
  | none => rfl
  | some h =>
    dsimp only
    split_ifs
    · rw [State.act_account]
    · rfl
    · simp

theorem State.takeSample_counts {s : State} (h : s.icu.Counts) (im : Image) (code : BitVec 14) (valid : Bool) :
    (s.takeSample im code valid).icu.Counts := by
  have closed : (s.windowEnd im (s.lq.take im.h code valid)).icu = s.icu.advance im.tClear := by
    unfold State.windowEnd
    dsimp only
    split_ifs <;> simp
  unfold State.takeSample
  dsimp only
  split_ifs
  · exact h
  · rw [closed]
    exact ⟨(ICU.advance_arcCount _ _).le.trans h.1, h.2.advance _⟩

theorem State.arcInput_counts {s : State} (h : s.icu.Counts) (p : Pan) (rising : Bool) (us : Nat) :
    (s.arcInput p rising us).icu.Counts := by
  have counted (u : State) (im : Image) (k : u.icu.Counts) : (u.countArc im p).icu.Counts := by
    unfold State.countArc
    split_ifs
    · cases p
      · exact ⟨wrapInc_le _ _, { k.2 with windowA := satInc_le _ _ }⟩
      · exact ⟨wrapInc_le _ _, { k.2 with windowB := satInc_le _ _ }⟩
    · exact k
  have taken (u : State) (same : u.icu = s.icu) : (u.ifGood fun im t => t.countArc im p).icu.Counts := by
    unfold State.ifGood
    cases u.cl.image with
    | none => exact same ▸ h
    | some im => exact counted u im (same ▸ h)
  unfold State.arcInput
  split_ifs
  · cases p <;> exact taken _ rfl
  · exact h

/-! ### The direct effect of a command -/

/-- The end of one of an entry's times leaves the state, or changes the table (R56, R57, R63). -/
def State.Retabled (s : State) (im : Image) (t : State) : Prop := t = s ∨ ∃ l, t = s.tableChanged im l

theorem State.Retabled.ite {s : State} {im : Image} {l : List Entry} {q : Prop} [Decidable q] :
    s.Retabled im (if q then s.tableChanged im l else s) := prop_ite (.inr ⟨l, rfl⟩) (.inl rfl)

theorem State.loseEntry_retabled (s : State) (im : Image) (a : Addr) : s.Retabled im (s.loseEntry im a) := by
  unfold State.loseEntry
  cases findEntry s.pv.table a with
  | none => exact .inl rfl
  | some e => exact .ite

theorem State.ageOutClaim_retabled (s : State) (im : Image) (a : Addr) : s.Retabled im (s.ageOutClaim im a) := by
  unfold State.ageOutClaim
  cases findEntry s.pv.table a with
  | none => exact .inl rfl
  | some e => exact .ite

theorem State.Retabled.counts {s t : State} {im : Image} (h : s.Retabled im t) :
    t.pv.missedSeq = s.pv.missedSeq ∧ s.icu.Same t.icu := by
  rcases h with rfl | ⟨l, rfl⟩
  · exact ⟨rfl, .of_account rfl⟩
  · exact ⟨s.tableChanged_missed im l, s.tableChanged_same im l⟩

theorem direct_missed {c : Instr} {s : State} (h : s.pv.missedSeq ≤ 65535) : (direct c s).pv.missedSeq ≤ 65535 := by
  have d := direct_acts c s
  generalize direct c s = t at d ⊢
  induction d
  case goodRecord => rw [State.goodVerdict_pv]; exact h
  case demand => rw [State.takeDemand_missed]; exact h
  case status x b im _ _ _ => rw [State.takeStatus_pv]; exact min_le_left _ _
  case claim => exact (State.takeRoof_missed ..).le.trans h
  case withdraw => exact (State.takeRoof_missed ..).le.trans h
  case record => exact (State.takeRoof_missed ..).le.trans h
  case removeLearning a im _ | removeLost a im _ =>
    exact (State.Retabled.ite (s := s) (im := im)).counts.1.le.trans h
  case lose => exact (s.loseEntry_retabled ..).counts.1.le.trans h
  case ageOut => exact (s.ageOutClaim_retabled ..).counts.1.le.trans h
  case silence =>
    unfold State.silenceEnds
    cases s.pv.silence <;> exact h
  case endLearning => exact h
  all_goals simp [h]

/-- The direct effect of a command but a sample and an arc edge leaves the arcs, and at most clears the streak. -/
theorem direct_same {c : Instr} {s : State} (sample : ∀ code valid, c ≠ .sampleEvent code valid)
    (edge : ∀ p rising us, c ≠ .arcEdge p rising us) : s.icu.Same (direct c s).icu := by
  have d := direct_acts c s
  generalize direct c s = t at d ⊢
  induction d
  case sample code valid _ _ => exact absurd rfl (sample code valid)
  case arc p r n => exact absurd rfl (edge p r n)
  case demand => exact s.takeDemand_same ..
  case status | claim | withdraw | record => exact s.takeRoof_same ..
  case removeLearning a im _ | removeLost a im _ => exact (State.Retabled.ite (s := s) (im := im)).counts.2
  case lose => exact (s.loseEntry_retabled ..).counts.2
  case ageOut => exact (s.ageOutClaim_retabled ..).counts.2
  case holdOff => exact .of_account (s.holdOffEnd_account ..)
  case pulse => exact .of_account (s.odoInput_account ..)
  case scrapeEnd => exact .of_account (s.scrapeEnds_account ..)
  case cooldownEnd => exact .of_account rfl
  all_goals exact .of_account (congrArg ICU.account (by simp))

theorem direct_arcs {c : Instr} {s : State} (h : s.icu.Counts) : (direct c s).icu.Counts := by
  by_cases sample : ∃ code valid, c = .sampleEvent code valid
  · obtain ⟨code, valid, rfl⟩ := sample
    cases i : s.cl.image with
    | none => simpa [direct, State.ifGood_of_none i] using h
    | some im => rw [direct_sample i]; exact State.takeSample_counts h im code valid
  · by_cases edge : ∃ p rising us, c = .arcEdge p rising us
    · obtain ⟨p, rising, us, rfl⟩ := edge
      exact State.arcInput_counts h p rising us
    · exact h.same (direct_same (fun code valid e => sample ⟨code, valid, e⟩) fun p r n e => edge ⟨p, r, n, e⟩)

end Sys2Proof.Machine
end

section
/-! PROOFS. The counters of the line and of the inputs through the direct effect of a command. -/

namespace Sys2Proof.Machine

/-! ### The Link Access Unit -/

/-- The counters of the Link Access Unit with the frames that wait. -/
def LAU.Counts (l : LAU) : Prop := l.Sums ∧ l.Waits

theorem LAU.Counts.error {s : State} (h : s.lau.Counts) : s.countError.lau.Counts := by
  have counted : LAU.Counts { s.lau with
      rxErrors := satInc 65535 s.lau.rxErrors, periodErrors := satInc Config.errorLimit s.lau.periodErrors } :=
    ⟨{ h.1 with rxErrors := satInc_le _ _, period := satInc_le _ _ }, { h.2 with }⟩
  refine prop_ite (P := fun t : State => t.lau.Counts) ?_ counted
  exact ⟨{ counted.1 with }, { counted.2 with }⟩

theorem LAU.Counts.chosen {l : LAU} (h : l.Counts) {c : Chosen} (chosen : l.chosen = some c) : c.fails ≤ 7 := by
  unfold LAU.chosen at chosen
  cases wd : l.wdSlot with
  | some w => rw [wd] at chosen; cases chosen; exact h.2.withdraw w wd
  | none =>
    cases cl : l.clSlot with
    | some k => rw [wd, cl] at chosen; cases chosen; exact h.2.claim k cl
    | none =>
      cases st : l.stSlot with
      | some f => rw [wd, cl, st] at chosen; cases chosen; exact h.2.status f st
      | none =>
        cases rc : l.rcSlot with
        | some r => rw [wd, cl, st, rc] at chosen; cases chosen; exact h.1.record r rc
        | none => rw [wd, cl, st, rc] at chosen; cases chosen

theorem LAU.Counts.leaveSlot {l : LAU} (h : l.Counts) (f : Frame) : (l.leaveSlot f).Counts := by
  cases f
  case withdraw => exact ⟨{ h.1 with }, { h.2 with withdraw := Tried.none }⟩
  case claim => exact ⟨{ h.1 with }, { h.2 with claim := Tried.none }⟩
  case status => exact ⟨{ h.1 with }, { h.2 with status := Tried.none }⟩
  case record => exact ⟨{ h.1 with record := Tried.none }, { h.2 with }⟩

theorem LAU.Counts.start {l : LAU} (h : l.Counts) (a : Addr) (idle : Nat) : (l.start a idle).Counts := by
  have placed (t : LAU) (k : t.Counts) (x : Attempt) (seq : Nat) (fails : x.fails ≤ 7) (le : seq ≤ 255) :
      LAU.Counts { t with onLine := some x, seq := seq } :=
    ⟨{ k.1 with sequence := le, attempt := by rintro _ ⟨⟩; exact fails }, { k.2 with }⟩
  unfold LAU.start
  cases l.onLine with
  | some x => cases l.chosen <;> exact h
  | none =>
    cases chosen : l.chosen with
    | none => exact h
    | some c =>
      have left := h.leaveSlot c.frame
      dsimp only
      split_ifs
      · cases c.seq with
        | some n => exact placed _ left _ _ (h.chosen chosen) left.1.sequence
        | none => exact placed _ left _ _ (h.chosen chosen) (wrapInc_le _ _)
      · exact h

theorem LAU.Counts.dropWithdraw {l : LAU} (h : l.Counts) (serial : Nat) : (l.dropWithdraw serial).Counts :=
  prop_ite ⟨{ h.1 with }, { h.2 with withdraw := Tried.none }⟩ h

theorem LAU.Counts.giveBack {l : LAU} (h : l.Counts) (a : Attempt) {fails : Nat} (le : fails ≤ 7) :
    (l.giveBack a fails).Counts := by
  have again {α : Type} {f : α} {n : Option Nat} : Tried (some (⟨f, fails, n⟩ : Slot α)) := by
    rintro _ ⟨⟩
    exact le
  unfold LAU.giveBack
  cases a.frame
  case withdraw => exact prop_ite h ⟨{ h.1 with }, { h.2 with withdraw := again }⟩
  case claim => exact prop_ite h (prop_ite (h.dropWithdraw _) ⟨{ h.1 with }, { h.2 with claim := again }⟩)
  case status => exact prop_ite h ⟨{ h.1 with }, { h.2 with status := again }⟩
  case record => exact prop_ite h ⟨{ h.1 with record := again }, { h.2 with }⟩

theorem State.claimSent_counts (s : State) (n : Nat) :
    (s.claimSent n).lau = s.lau ∧ (s.claimSent n).au.serial = s.au.serial := by
  unfold State.claimSent
  split_ifs <;> exact ⟨rfl, rfl⟩

theorem State.claimDiscarded_counts (s : State) (n : Nat) :
    (s.claimDiscarded n).lau = s.lau ∧ (s.claimDiscarded n).au.serial = s.au.serial := by
  unfold State.claimDiscarded
  split_ifs <;> exact ⟨rfl, rfl⟩

/-- The counters of the line with the serial of the own claim. -/
def State.LineCounts (s : State) : Prop := s.lau.Counts ∧ s.au.serial ≤ 255

theorem State.LineCounts.congr {s t : State} (h : s.LineCounts) (lau : t.lau = s.lau) (au : t.au.serial = s.au.serial) :
    t.LineCounts := by
  unfold State.LineCounts
  rw [lau, au]
  exact h

theorem State.LineCounts.attemptEnds {s : State} (h : s.LineCounts) : s.attemptEnds.LineCounts := by
  unfold State.attemptEnds
  cases s.lau.onLine with
  | none => exact h
  | some a =>
    have left : State.LineCounts { s with lau := { s.lau with onLine := none } } :=
      ⟨⟨{ h.1.1 with attempt := fun _ e => by cases e }, { h.1.2 with }⟩, h.2⟩
    dsimp only
    cases a.frame
    case claim c =>
      obtain ⟨lau, serial⟩ := State.claimSent_counts { s with lau := { s.lau with onLine := none } } c.serial
      exact left.congr lau serial
    all_goals exact left

theorem State.LineCounts.discard {s : State} (h : s.LineCounts) (a : Attempt) : (s.discard a).LineCounts := by
  have dropped : LAU.Counts { s.lau with txDrops := satInc 65535 s.lau.txDrops, periodDrop := true, degraded := true } :=
    ⟨{ h.1.1 with txDrops := satInc_le _ _ }, { h.1.2 with }⟩
  unfold State.discard
  dsimp only
  cases a.frame
  case claim c =>
    obtain ⟨lau, serial⟩ := State.claimDiscarded_counts _ c.serial
    exact State.LineCounts.congr (s := { s with lau := _ }) ⟨dropped.dropWithdraw c.serial, h.2⟩ lau serial
  all_goals exact ⟨dropped, h.2⟩

theorem State.LineCounts.attemptFails {s : State} (h : s.LineCounts) : s.attemptFails.LineCounts := by
  unfold State.attemptFails
  cases s.lau.onLine with
  | none => exact h
  | some a =>
    have left : LAU.Counts { s.lau with onLine := none, collisions := satInc 65535 s.lau.collisions } :=
      ⟨{ h.1.1 with collisions := satInc_le _ _, attempt := fun _ e => by cases e }, { h.1.2 with }⟩
    dsimp only
    split_ifs with last
    · exact State.LineCounts.discard (s := { s with lau := _ }) ⟨left, h.2⟩ a
    · have more : a.fails + 1 ≤ 7 := by
        simp only [Config.maxAttempts] at last
        omega
      exact ⟨left.giveBack a more, h.2⟩

theorem State.LineCounts.withdraw {s : State} (h : s.LineCounts) : s.withdraw.LineCounts :=
  prop_ite (P := State.LineCounts) ⟨⟨{ h.1.1 with }, { h.1.2 with claim := Tried.none }⟩, h.2⟩
    ⟨⟨{ h.1.1 with }, { h.1.2 with withdraw := Tried.fresh }⟩, h.2⟩

theorem State.LineCounts.holdOffEnd {s : State} (h : s.LineCounts) (im : Image) : (s.holdOffEnd im).LineCounts := by
  have acted (t : State) (lau : t.lau = s.lau) (serial : t.au.serial = s.au.serial) (x : Head) :
      (t.act im x).LineCounts := by
    refine h.congr (by simp [lau]) (.trans ?_ serial)
    unfold State.act
    cases x.kind <;> simp [State.heaterOn]
  unfold State.holdOffEnd State.grant
  cases s.au.head with
  | none => exact h
  | some x =>
    dsimp only
    split_ifs
    · refine acted _ ?_ ?_ x <;> rfl
    · exact h
    · exact h.withdraw

theorem direct_lineCounts {c : Instr} {s : State} (h : s.LineCounts) : (direct c s).LineCounts := by
  have d := direct_acts c s
  generalize direct c s = t at d ⊢
  induction d
  case goodRecord =>
    refine ⟨?_, ?_⟩
    · rw [State.goodVerdict_lau]
      exact prop_ite ⟨{ h.1.1 with }, { h.1.2 with }⟩ ⟨{ h.1.1 with }, { h.1.2 with }⟩
    · simpa using h.2
  case badRecord | readTimeout =>
    refine ⟨?_, by simpa using h.2⟩
    unfold State.badVerdict State.verdict
    exact prop_ite (P := fun t : State => t.lau.Counts) ⟨{ h.1.1 with }, { h.1.2 with }⟩ ⟨{ h.1.1 with }, { h.1.2 with }⟩
  case error => exact ⟨h.1.error, by simpa using h.2⟩
  case holdOff => exact h.holdOffEnd _
  case endRetry => exact h
  case conflict p _ =>
    refine h.congr (by simp) ?_
    unfold State.resolveConflict
    cases p <;> simp
  case start => exact ⟨h.1.start _ _, h.2⟩
  case attemptEnds => exact h.attemptEnds
  case attemptFails => exact h.attemptFails
  case errorPeriod => exact ⟨⟨{ h.1.1 with period := Nat.zero_le _ }, { h.1.2 with }⟩, h.2⟩
  case statusCountdown | statusGap => exact ⟨⟨{ h.1.1 with }, { h.1.2 with }⟩, h.2⟩
  all_goals exact h.congr (by simp) (by simp)

end Sys2Proof.Machine
end

section
/-! PROOFS. The counters of the inputs and of the odometer, and O16. -/

namespace Sys2Proof.Machine

/-! ### The inputs -/

theorem classTime_pos (i : LevelInput) : 0 < classTime i := by cases i <;> decide

theorem RunCounts.zero_lt (i : LevelInput) : RunCounts.zero.get i < classTime i := by cases i <;> decide

theorem IOC.Counts.congr {c d : IOC} {l : CL} (h : c.Counts l) (distance : d.distance = c.distance)
    (remainder : d.remainder = c.remainder) (runs : d.runs = c.runs) : d.Counts l :=
  ⟨distance ▸ h.distance, runs ▸ h.runs, by rw [remainder]; exact h.remainder⟩

/-- A run count within its class time replaces that of an input (R190). -/
theorem IOC.Counts.set {c d : IOC} {l : CL} (h : c.Counts l) (distance : d.distance = c.distance)
    (remainder : d.remainder = c.remainder) {i : LevelInput} {n : Nat} (runs : d.runs = c.runs.set i n)
    (le : n < classTime i) : d.Counts l := by
  refine ⟨distance ▸ h.distance, fun j => ?_, by rw [remainder]; exact h.remainder⟩
  rw [runs, RunCounts.get_set]
  split_ifs with own
  · exact own ▸ le
  · exact h.runs j

/-- A read or its retry runs only before the configuration is good. -/
theorem IOC.Counts.waiting {c : IOC} {l : CL} (h : c.Counts l) (loading : l.read.isSome = true ∨ l.retryT.isSome = true) :
    l.image = none ∧ c.remainder = 0 := by
  have remainder := h.remainder
  cases image : l.image with
  | none => rw [image] at remainder; exact ⟨rfl, remainder⟩
  | some im =>
    rw [image] at remainder
    obtain ⟨-, read, retry⟩ := remainder
    rw [read, retry] at loading
    simp at loading

/-- Before the configuration is good the loader may do what it does. -/
theorem IOC.Counts.loader {c : IOC} {l m : CL} (h : c.Counts l) (image : l.image = none) (same : m.image = l.image) :
    c.Counts m := by
  have remainder := h.remainder
  rw [image] at remainder
  refine ⟨h.distance, h.runs, ?_⟩
  rw [same, image]
  exact remainder

theorem IOC.Counts.pulse {c : IOC} {l : CL} {im : Image} (h : c.Counts l) (image : l.image = some im) :
    (c.runPulse im.ppm).Counts l := by
  have remainder := h.remainder
  rw [image] at remainder
  obtain ⟨below, rest⟩ := remainder
  unfold IOC.runPulse
  split_ifs with full
  · exact ⟨wrapInc_le _ _, h.runs, by rw [image]; exact ⟨Nat.zero_lt_of_lt below, rest⟩⟩
  · exact ⟨h.distance, h.runs, by rw [image]; exact ⟨Nat.lt_of_not_le full, rest⟩⟩

theorem State.accept_counts {s : State} (h : s.ioc.Counts s.cl) (i : LevelInput) (b : Bool) :
    (s.accept i b).ioc.Counts (s.accept i b).cl := by
  have cl : (s.accept i b).cl = s.cl := by simp
  rw [s.accept_view, cl]
  exact h.set rfl rfl rfl (classTime_pos i)

theorem State.sampleInput_counts {s : State} (h : s.ioc.Counts s.cl) (i : LevelInput) (b : Bool) :
    (s.sampleInput i b).ioc.Counts (s.sampleInput i b).cl := by
  unfold State.sampleInput
  split_ifs with same time
  · exact h.set rfl rfl rfl (classTime_pos i)
  · exact State.accept_counts h i b
  · exact h.set rfl rfl rfl (Nat.lt_of_not_le time)

theorem State.sampleAll_counts {s : State} (h : s.ioc.Counts s.cl) (l : Levels) :
    (s.sampleAll l).ioc.Counts (s.sampleAll l).cl := by
  unfold State.sampleAll
  generalize levelInputs = is
  induction is generalizing s with
  | nil => exact h
  | cons i is ih => exact ih (State.sampleInput_counts h i _)

theorem State.odoInput_counts {s : State} (h : s.ioc.Counts s.cl) (rising : Bool) (us : Nat) :
    (s.odoInput rising us).ioc.Counts (s.odoInput rising us).cl := by
  have taken : (s.ioc.takePulse us).Counts s.cl := h.congr rfl rfl rfl
  unfold State.odoInput
  split_ifs
  · cases i : s.cl.image with
    | none => rw [State.ifGood_of_none (by exact i)]; exact taken
    | some im =>
      rw [State.ifGood_of_some (by exact i)]
      obtain ⟨-, -, -, cl, ioc, -⟩ := pulse_rest (s.odoTaken im us).countPulse im
      have started : (s.odoTaken im us).countPulse.ioc = (s.ioc.takePulse us).runPulse im.ppm := by
        simp [State.odoTaken]
      have loader : (s.odoTaken im us).countPulse.cl = s.cl := by simp [State.odoTaken]
      rw [started] at ioc
      rw [loader] at cl
      change IOC.Counts (((s.odoTaken im us).countPulse.countCooldown).countScrape im).ioc
        (((s.odoTaken im us).countPulse.countCooldown).countScrape im).cl
      rw [ioc, cl]
      exact taken.pulse i
  · exact h

/-- An edge on an arc input notes its time (R193). -/
theorem State.arcInput_ioc (s : State) (p : Pan) (rising : Bool) (us : Nat) :
    (s.arcInput p rising us).ioc.distance = s.ioc.distance ∧ (s.arcInput p rising us).ioc.remainder = s.ioc.remainder ∧
      (s.arcInput p rising us).ioc.runs = s.ioc.runs := by
  have taken (u : State) : (u.ifGood fun im t => t.countArc im p).ioc = u.ioc := by
    unfold State.ifGood
    cases u.cl.image with
    | none => rfl
    | some im => exact (u.countArc_ioc im p).1
  unfold State.arcInput
  split_ifs
  · cases p <;> dsimp only <;> rw [taken] <;> exact ⟨rfl, rfl, rfl⟩
  · exact ⟨rfl, rfl, rfl⟩

/-! ### The configuration-good event -/

/-- The train distance with its remainder. -/
def IOC.odo (c : IOC) : Nat × Nat := (c.distance, c.remainder)

theorem State.reformLevels_odo (s : State) (l : Levels) : (s.reformLevels l).ioc.odo = s.ioc.odo := by
  have one (t : State) (i : LevelInput) : (t.reformInput l i).ioc.odo = t.ioc.odo := by
    unfold State.reformInput
    split_ifs
    · rfl
    · rw [t.accept_view]; rfl
  rw [State.reformLevels_eq, State.setView_ioc]
  change (s.reformInputs l).ioc.odo = _
  simp [State.reformInputs, one]

theorem State.goodVerdict_counts {s : State} (h : s.ioc.Counts s.cl) (reading : s.reading = true) (r : Vector Byte 128)
    (pins : Levels) : (s.goodVerdict r pins).ioc.Counts (s.goodVerdict r pins).cl := by
  obtain ⟨-, zero⟩ := h.waiting (.inl reading)
  have ioc : (s.goodVerdict r pins).ioc = ((s.goodStart r).reformLevels
      (logical (clampImage (rawImage r)).polarities.levels pins)).ioc := by simp [State.goodVerdict_eq]
  have odo : (s.goodVerdict r pins).ioc.odo = s.ioc.odo := by
    rw [ioc, State.reformLevels_odo]
    simp
  obtain ⟨distance, remainder⟩ := Prod.mk.inj odo
  refine ⟨distance ▸ h.distance, fun i => ?_, ?_⟩
  · rw [ioc, (State.reformLevels_ioc _ _).2.1]
    exact RunCounts.zero_lt i
  · rw [State.goodVerdict_cl, remainder, zero]
    have ppm : 0 < (clampImage (rawImage r)).ppm := le_clamp (by decide) _
    exact ⟨ppm, rfl, rfl⟩

theorem direct_inputs {c : Instr} {s : State} (runs : Runs c s) (held : s.HeldLaw) (h : s.ioc.Counts s.cl) :
    (direct c s).ioc.Counts (direct c s).cl := by
  have same {t : State} (ioc : t.ioc = s.ioc) (cl : t.cl = s.cl) : t.ioc.Counts t.cl := by
    rw [ioc, cl]; exact h
  have moved {t : State} (cl : t.cl = s.cl) (distance : t.ioc.distance = s.ioc.distance)
      (remainder : t.ioc.remainder = s.ioc.remainder) (runs : t.ioc.runs = s.ioc.runs) : t.ioc.Counts t.cl := by
    rw [cl]; exact h.congr distance remainder runs
  have d := direct_acts c s
  generalize direct c s = t at d ⊢
  induction d
  case release pins straps =>
    have off : s.released = false := (runs.resolve_left fun x => by cases x.2).1
    have image : s.cl.image = none := by rw [held off]; rfl
    obtain ⟨distance, -, remainder⟩ := h.loader image rfl
    have parts : (s.release pins straps).ioc = { s.ioc with
          levels := logical .negated pins, runs := .zero, view := directionOf pins.dir, stationaryT := .started } ∧
        (s.release pins straps).cl = { s.cl with
          address := straps, cause := s.resetCause.restart, read := .started } := by
      constructor <;> simp [State.release]
    rw [parts.1, parts.2]
    exact IOC.Counts.loader ⟨distance, RunCounts.zero_lt, remainder⟩ image rfl
  case goodRecord r pins reading _ => exact State.goodVerdict_counts h reading r pins
  case badRecord reading _ | readTimeout reading =>
    obtain ⟨image, -⟩ := h.waiting (.inl reading)
    rw [State.badVerdict_cl, show s.badVerdict.ioc = s.ioc by simp]
    exact h.loader image rfl
  case readRetry retry =>
    obtain ⟨image, -⟩ := h.waiting (.inr retry)
    exact h.loader image rfl
  case accept i b _ => exact State.accept_counts h i b
  case levels pins => exact State.sampleAll_counts h _
  case pulse => exact State.odoInput_counts h _ _
  case bucket => exact moved rfl rfl rfl rfl
  case stationary =>
    have ioc : s.becomeStationary.ioc = _ := State.setView_ioc _ _
    refine moved (by simp) ?_ ?_ ?_ <;> rw [ioc]
  case ambient r =>
    refine moved (by simp) ?_ ?_ ?_ <;> unfold State.convert <;> dsimp only <;> split_ifs <;> rfl
  case arc p rising us =>
    obtain ⟨distance, remainder, runs⟩ := s.arcInput_ioc p rising us
    exact moved (by simp) distance remainder runs
  all_goals exact same (by simp) (by simp)

end Sys2Proof.Machine
end

section
/-! PROOFS. The results counted in REQUALIFY, the arc rings through an event, and O16. -/

namespace Sys2Proof.Machine

/-! ### The results counted in REQUALIFY (R118) -/

/-- No more than so many results are counted. -/
def State.Results (n : Nat) (s : State) : Prop := s.cc.rqCount ≤ n

section
variable {n : Nat} {s t : State} (h : s.Results n)
include h

theorem State.Results.of_cc (cc : t.cc = s.cc) : t.Results n := by
  unfold State.Results
  rw [cc]
  exact h

theorem State.Results.setUp (im : Image) (sec : CurrentSection) : (s.setUp im sec).Results n := by
  unfold State.setUp
  dsimp only
  cases State.chooseNext _ im sec.next with
  | none => exact h
  | some p => exact prop_ite (P := State.Results n) h h

theorem State.Results.takeUpPending (im : Image) : (s.takeUpPending im).Results n := by
  unfold State.takeUpPending
  cases s.cc.pendingSec with
  | none => exact h
  | some w => exact State.Results.setUp (s := { s with cc := { s.cc with pendingSec := none } }) h im _

theorem State.Results.returnToNormal (im : Image) : (s.returnToNormal im).Results n := by
  unfold State.returnToNormal
  exact State.Results.takeUpPending (by exact h) im

theorem State.Results.takeRecord (im : Image) (r : SectionRecord) : (s.takeRecord im r).Results n := by
  have kept : (s.keepPending r).Results n := h
  unfold State.takeRecord
  cases s.cc.phase
  case normal | armed => exact h.setUp im _
  case aborted => exact kept.returnToNormal im
  all_goals exact kept

theorem State.Results.takeIdZero (im : Image) : (s.takeIdZero im).Results n := by
  have gone : State.Results n { s with cc := { s.cc with current := none } } := h
  unfold State.takeIdZero
  cases s.cc.phase
  case normal => exact gone
  case armed | aborted => exact gone.returnToNormal im
  all_goals exact h

theorem State.Results.restoreCC (im : Image) : (s.restoreCC im).Results n :=
  prop_ite (P := State.Results n) (h.returnToNormal im) h

theorem State.Results.sectionRecord (im : Image) (r : SectionRecord) (restore : Bool) :
    (s.sectionRecord im r restore).Results n :=
  prop_ite (P := State.Results n) (prop_ite (h.restoreCC im) h) (prop_ite (h.restoreCC im) (h.takeRecord im r))

theorem State.Results.ccDemand (im : Image) (d : DemandInForce) (restore : Bool) : (s.ccDemand im d restore).Results n := by
  unfold State.ccDemand
  cases d.presence
  case none => exact prop_ite (h.restoreCC im) h
  all_goals
    cases d.sect with
    | none => exact h.takeIdZero im
    | some r => exact h.sectionRecord im r restore

theorem State.Results.handOn (im : Image) (old : DemandInForce) (restore : Bool) : (s.handOn im old restore).Results n := by
  have before : ((s.judgeForced).restoreAll restore).Results n := h.of_cc (by simp)
  have handed := prop_ite (P := State.Results n) (c := (s.judgeForced.restoreAll restore).pv.learning && s.pv.force.sect.isSome)
    (prop_ite (c := restore) (before.restoreCC im) before) (before.ccDemand im s.pv.force restore)
  exact handed.of_cc (by simp [State.handOn, State.ccHanded])

theorem State.Results.tableChanged (im : Image) (l : List Entry) : (s.tableChanged im l).Results n := by
  have formed : ({ s with pv := { s.pv with table := l } } : State).formDemand.Results n := h.of_cc (by simp)
  exact prop_ite (P := State.Results n) (formed.handOn im _ false) formed

theorem State.Results.takeRoof (im : Image) (x : RxHeader) (f : RoofData → RoofData) : (s.takeRoof im x f).Results n :=
  prop_ite (P := State.Results n) (h.tableChanged im _) (h.tableChanged im _)

theorem State.Results.takeDemand (im : Image) (x : RxHeader) (b : Vector Byte 10) : (s.takeDemand im x b).Results n := by
  have entered : (s.enterDemand x b).Results n := h.of_cc (by simp)
  exact prop_ite (P := State.Results n) (entered.handOn im _ _) entered

theorem State.Results.setView (d : Direction) : (s.setView d).Results n := by
  have turned (u : State) (im : Image) (k : u.Results n) : (u.ccDirection im).Results n := by
    have cleared : State.Results n { u with cc := { u.cc with pendingSec := none } } := k
    unfold State.ccDirection
    dsimp only
    cases u.cc.phase
    case normal | aborted => exact cleared
    case armed => exact cleared.returnToNormal im
    all_goals exact cleared
  refine prop_ite (P := State.Results n) h ?_
  unfold State.ifGood
  cases s.cl.image with
  | none => exact h
  | some im => exact turned _ im h

theorem State.Results.accept (i : LevelInput) (b : Bool) : (s.accept i b).Results n := by
  have taken : State.Results n { s with
      ioc := { s.ioc with levels := withLevel s.ioc.levels i b, runs := s.ioc.runs.set i 0 } } := h
  unfold State.accept State.readers
  cases i
  case dir =>
    exact prop_ite (P := State.Results n) (prop_ite (taken.setView _) taken) taken
  case eloop => exact taken.of_cc (by simp)
  all_goals exact taken.of_cc (by simp)

theorem State.Results.failRequalify : s.failRequalify.Results n := by
  unfold State.failRequalify
  cases s.cc.nextPan with
  | none => exact h
  | some p => exact State.Results.of_cc (s := s) (t := s.softLower p) h (by simp)

theorem State.Results.fastDrop (p : Pan) : (s.fastDrop p).Results n := h.of_cc (by simp)

theorem State.Results.forcedDropStowing : s.forcedDropStowing.Results n := by
  have a := prop_ite (P := State.Results n) (c := s.lateStowing .a) (h.fastDrop .a) h
  have b := prop_ite (P := State.Results n) (c := s.lateStowing .b) (a.fastDrop .b) a
  exact prop_ite (P := State.Results n) (show State.Results n (State.markForcedDrop _) from b) h

theorem State.Results.enterStowing : s.enterStowing.Results n := by
  have lowered (t : State) (c : Bool) (p : Pan) (k : t.Results n) : (if c then t.softLower p else t).Results n :=
    prop_ite (P := State.Results n) (k.of_cc (by simp)) k
  exact lowered _ _ .b (lowered _ _ .a h)

theorem State.Results.endLeg2 : s.endLeg2.Results n := by
  unfold State.endLeg2 State.leg2Effect
  cases s.cc.phase
  case opening =>
    refine prop_ite (P := fun t => (State.loadLeg3 t).Results n) ?_ h.enterStowing.forcedDropStowing
    exact (h.fastDrop .a).fastDrop .b
  case stowing => exact h.forcedDropStowing
  all_goals exact h

theorem State.Results.countPulse : s.countPulse.Results n := by
  unfold State.countPulse
  cases s.cc.countdown with
  | stopped | ended => exact h
  | running leg m =>
    refine prop_ite (P := State.Results n) ?_ h
    cases leg
    case one | three => exact h
    case two => exact h.endLeg2

theorem State.Results.odoInput (rising : Bool) (us : Nat) : (s.odoInput rising us).Results n := by
  refine prop_ite (P := State.Results n) ?_ h
  unfold State.ifGood
  cases s.cl.image with
  | none => exact h
  | some im =>
    have counted := State.Results.countPulse (s := { s with ioc := (s.ioc.takePulse us).runPulse im.ppm }) h
    exact counted.of_cc (by simp [State.pulseReaders])

theorem State.Results.reactFault (im : Image) : (s.reactFault im).Results n := by
  unfold State.reactFault
  cases s.cc.nextPan <;> cases s.cc.nextSystem
  case some.some p next =>
    refine prop_ite (P := State.Results n) ?_ h
    cases s.chooseNext im next with
    | none => exact h
    | some q =>
      dsimp only
      cases s.cc.phase
      case requalify | closing => exact Nat.zero_le n
      all_goals exact h
  all_goals exact h

theorem State.Results.reactClosing (im : Image) : (s.reactClosing im).Results n :=
  prop_ite (P := State.Results n) (prop_ite (P := State.Results n) (Nat.zero_le n) (prop_ite (h.returnToNormal im) h)) h

theorem State.Results.reactRequalify : s.reactRequalify.Results n :=
  prop_ite (P := State.Results n)
    (prop_ite (P := State.Results n) (prop_ite (P := State.Results n) h (Nat.zero_le n)) (Nat.zero_le n)) h

end

theorem Move.results {n : Nat} {s t : State} (m : Move s t) (h : s.Results n) : t.Results n := by
  induction m
  case fault im _ => exact h.reactFault im
  case stow => exact prop_ite (P := State.Results n) h.enterStowing h
  case stowed => exact prop_ite (P := State.Results n) h h
  case coasted => exact prop_ite (P := State.Results n) (Nat.zero_le n) h
  case close im _ => exact h.reactClosing im
  case requalify => exact h.reactRequalify
  all_goals exact h.of_cc (by simp)

theorem State.Results.takeSample {s : State} (h : s.Results 255) (im : Image) (code : BitVec 14) (valid : Bool) :
    (s.takeSample im code valid).Results 255 := by
  have judged (u : State) (k : u.Results 255) : (u.judgeWindow im).Results 255 := by
    have counted : State.Results 255 { u with cc := { u.cc with rqCount := satInc 255 u.cc.rqCount } } := satInc_le _ _
    refine prop_ite (P := State.Results 255) ?_ k
    dsimp only
    cases State.qualifying _ im with
    | none => exact counted
    | some c => exact prop_ite (P := State.Results 255) counted counted.failRequalify
  refine prop_ite (P := State.Results 255) h (judged _ ?_)
  exact prop_ite (P := State.Results 255) h h

theorem direct_results {c : Instr} {s : State} (h : s.Results 255) : (direct c s).Results 255 := by
  have d := direct_acts c s
  generalize direct c s = t at d ⊢
  induction d
  case goodRecord r pins _ _ =>
    rw [State.goodVerdict_eq]
    have start : (s.goodStart r).Results 255 := h.of_cc (by simp)
    have levels := State.reformLevels_keeps (Law := State.Results 255) (fun _ _ x => x) (fun _ i b x => x.accept i b)
      (fun _ d x => x.setView d) _ (logical (clampImage (rawImage r)).polarities.levels pins) start
    exact levels.of_cc (by simp)
  case sample im _ => exact h.takeSample im _ _
  case accept i b _ => exact h.accept i b
  case demand x b im _ _ _ => exact h.takeDemand im x b
  case status => exact State.Results.takeRoof h _ _ _
  case claim => exact State.Results.takeRoof h _ _ _
  case withdraw => exact State.Results.takeRoof h _ _ _
  case record => exact State.Results.takeRoof h _ _ _
  case removeLearning | removeLost => exact prop_ite (P := State.Results 255) (h.tableChanged _ _) h
  case lose a im _ =>
    rcases s.loseEntry_retabled im a with e | ⟨l, e⟩ <;> rw [e]
    · exact h
    · exact h.tableChanged im l
  case ageOut a im _ =>
    rcases s.ageOutClaim_retabled im a with e | ⟨l, e⟩ <;> rw [e]
    · exact h
    · exact h.tableChanged im l
  case pulse => exact h.odoInput _ _
  case leg1 | leg3 => exact h
  case leg2 => exact h.endLeg2
  case requalify => exact h.failRequalify
  case stationary => exact State.Results.setView (by exact h) _
  case levels pins => exact State.sampleAll_keeps (Law := State.Results 255) (fun _ _ x => x) (fun _ i b x => x.accept i b) s _ h
  all_goals exact h.of_cc (by simp)

/-! ### The arc rings through an event -/

theorem Move.ringCounts {s t : State} (m : Move s t) (h : RingCounts s.icu.rings) : RingCounts t.icu.rings := by
  rcases m.wires with rfl | ⟨p, rfl⟩ | stands
  · unfold State.abandonWindow
    cases s.cl.image with
    | none => exact h
    | some im => exact prop_ite (P := fun t : State => RingCounts t.icu.rings) (h.advance _) h
  · exact h
  · rw [stands.arcs_stand.2.1]
    exact h

/-! ### The claim's frames and the STATUS through an event -/

theorem State.Yields.counts {s t : State} (k : s.Yields t) (h : Tried s.lau.wdSlot ∧ Tried s.lau.clSlot ∧ s.au.serial ≤ 255) :
    Tried t.lau.wdSlot ∧ Tried t.lau.clSlot ∧ t.au.serial ≤ 255 := by
  obtain ⟨wd, cl, serial⟩ := h
  rcases k with same | gone
  · simp only [State.claimPart, Prod.mk.injEq] at same
    obtain ⟨-, e, -, e', e''⟩ := same
    rw [e, e', e'']
    exact ⟨wd, cl, serial⟩
  · have left : Tried s.withdrawn.1 ∧ Tried s.withdrawn.2 :=
      prop_ite (P := fun x : Option (Slot Nat) × Option (Slot ClaimFrame) => Tried x.1 ∧ Tried x.2)
        ⟨wd, Tried.none⟩ ⟨Tried.fresh, cl⟩
    rw [← gone.slots] at left
    exact ⟨left.1, left.2, gone.serial ▸ serial⟩

theorem State.Opens.counts {s t : State} (k : s.Opens t) (h : Tried s.lau.wdSlot ∧ Tried s.lau.clSlot ∧ s.au.serial ≤ 255) :
    Tried t.lau.wdSlot ∧ Tried t.lau.clSlot ∧ t.au.serial ≤ 255 := by
  obtain ⟨wd, cl, serial⟩ := h
  rcases k with ⟨-, e, e', e''⟩ | ⟨-, e, e', f, e'', -⟩
  · rw [e, e', e'']
    exact ⟨wd, cl, serial⟩
  · rw [e, e', e'']
    exact ⟨wd, Tried.fresh, wrapInc_le _ _⟩

theorem eventEnd_waits {c : Instr} {s : State} (h : (direct c s).LineCounts) :
    (eventEnd c s).lau.Waits ∧ (eventEnd c s).au.serial ≤ 255 := by
  have claim : Tried (eventEnd c s).lau.wdSlot ∧ Tried (eventEnd c s).lau.clSlot ∧ (eventEnd c s).au.serial ≤ 255 := by
    obtain ⟨v, yields, last⟩ := eventEnd_leads c s
    have until' := yields.counts ⟨h.1.2.withdraw, h.1.2.claim, h.2⟩
    rcases last with same | ⟨-, opens⟩
    · exact State.Yields.counts (.inl same) until'
    · exact opens.counts until'
  obtain ⟨u, e, schedule⟩ := eventEnd_report c s
  have same : u.lau.stSlot = (direct c s).lau.stSlot := congrArg Prod.fst schedule
  have status : Tried u.lau.stSlot := same ▸ h.1.2.status
  have placed : Tried (eventEnd c s).lau.stSlot := by
    rw [e]
    unfold State.report State.askStatus
    split_ifs
    · exact status
    · exact Tried.fresh
    · exact status
    · exact status
  exact ⟨⟨claim.1, claim.2.1, placed⟩, claim.2.2⟩

/-! ### The law -/

theorem eventEnd_counterLaw {c : Instr} {s : State} (held : s.HeldLaw) (law : s.CounterLaw) (runs : Runs c s) :
    (eventEnd c s).CounterLaw := by
  obtain ⟨lq, kept, waits, serial, rings, results⟩ := s.counterLaw_iff.mp law
  have line := direct_lineCounts (c := c) (s := s) ⟨⟨{ kept.sums with }, waits⟩, serial⟩
  have icu := direct_arcs (c := c) (s := s) ⟨kept.arcs, rings⟩
  have effect : (direct c s).kept.Counts :=
    ⟨direct_missed kept.missed, icu.1, { line.1.1 with }, direct_inputs runs held kept.inputs⟩
  obtain ⟨waits', serial'⟩ := eventEnd_waits line
  exact (State.counterLaw_iff _).mpr ⟨eventEnd_lqCounts c lq, eventEnd_keptCounts effect, waits', serial',
    eventEnd_keeps (Law := fun u => RingCounts u.icu.rings) (fun _ _ m => m.ringCounts) icu.2,
    eventEnd_keeps (Law := State.Results 255) (fun _ _ m => m.results) (direct_results results)⟩

theorem State.CounterLaw.older {s : State} (h : s.CounterLaw) : s.older.CounterLaw := by
  refine { h with remainder := ?_ }
  have remainder := h.remainder
  change match s.cl.image with
    | some im => s.ioc.remainder < im.ppm ∧ s.cl.read.map (· + 1) = none ∧ s.cl.retryT.map (· + 1) = none
    | none => s.ioc.remainder = 0
  cases image : s.cl.image with
  | none => rw [image] at remainder; exact remainder
  | some im =>
    rw [image] at remainder
    obtain ⟨below, read, retry⟩ := remainder
    rw [read, retry]
    exact ⟨below, rfl, rfl⟩

/-- Settles O16: the window by what a sample makes of it, the counters block by block through the direct effect of each
command and the reactions. -/
theorem windowAndCountersStayInRange : Obligations.WindowAndCountersStayInRange := by
  refine ⟨fun s t _ law h => step_window s t law h, fun s t held law h => ?_⟩
  exact step_keeps_of_held (Law := State.CounterLaw) (fun _ _ h => { h with }) State.held_counterLaw
    (fun _ _ h => h.older) (fun _ _ held law runs => eventEnd_counterLaw held law runs) s t held law h

end Sys2Proof.Machine
end

section
/-! PROOFS. The ice state and the heater draw through a step (O52). -/

namespace Sys2Proof.Machine

/-! ### The hold condition stands after the ice state is formed (R134) -/

/-- What the hold condition reads stands: the phase, the breaker, and on a closed breaker who collects. -/
structure State.Standing (s t : State) : Prop where
  phase : t.cc.phase = s.cc.phase
  closed : t.bi.closed = s.bi.closed
  collects : s.bi.closed = true → ∀ p, (t.pc p).upCollecting = (s.pc p).upCollecting

theorem State.Standing.refl (s : State) : s.Standing s := ⟨rfl, rfl, fun _ _ => rfl⟩

theorem State.Standing.trans {s t u : State} (h : s.Standing t) (k : t.Standing u) : s.Standing u :=
  ⟨k.phase.trans h.phase, k.closed.trans h.closed, fun closed p =>
    (k.collects (h.closed.trans closed) p).trans (h.collects closed p)⟩

theorem State.Standing.of_fields {s t : State} (cc : t.cc = s.cc) (closed : t.bi.closed = s.bi.closed) (a : t.pcA = s.pcA)
    (b : t.pcB = s.pcB) : s.Standing t :=
  ⟨congrArg CC.phase cc, closed, fun _ p => by cases p <;> simp [State.pc, a, b]⟩

theorem State.Standing.iceHold {s t : State} (h : s.Standing t) : t.iceHold = s.iceHold := by
  unfold State.iceHold
  rw [h.phase, h.closed]
  cases closed : s.bi.closed with
  | false => simp
  | true =>
    have a := h.collects closed .a
    have b := h.collects closed .b
    simp only [State.pc] at a b
    simp [State.anyUpCollecting, a, b]

/-- On a closed breaker a collecting pantograph that is asked to be lowered waits UP (R39). -/
theorem PC.softLowered_upCollecting (c : PC) : (c.softLowered true).upCollecting = c.upCollecting := by
  unfold PC.softLowered
  refine prop_ite (P := fun d : PC => d.upCollecting = c.upCollecting) ?_ rfl
  cases disc : c.disc with
  | false => simp [PC.upCollecting, PC.vent, disc]
  | true => simp [PC.upCollecting, PC.advance, disc]

theorem State.Standing.softLower (s : State) (p : Pan) : s.Standing (s.softLower p) := by
  refine ⟨by simp, by simp, fun closed q => ?_⟩
  by_cases own : q = p
  · subst own
    rw [State.softLower_pc, closed]
    exact prop_ite (P := fun d : PC => d.upCollecting = (s.pc q).upCollecting) (PC.softLowered_upCollecting _) rfl
  · rw [s.softLower_pc_ne own]

/-- The watch vents an isolated pantograph only (R34). -/
theorem State.watchIsolated_upCollecting (s : State) (p q : Pan) :
    ((s.watchIsolated p).pc q).upCollecting = (s.pc q).upCollecting := by
  by_cases own : q = p
  · subst own
    rw [State.watchIsolated_pc]
    split_ifs with w
    · simp [PC.upCollecting, PC.vent, (State.watched_raised w).2]
    · rfl
  · rw [s.watchIsolated_pc_ne own]

theorem State.Standing.watchIsolated (s : State) (p : Pan) : s.Standing (s.watchIsolated p) :=
  ⟨by simp, by simp, fun _ q => s.watchIsolated_upCollecting p q⟩

theorem State.Standing.endScrape (s : State) (im : Image) (p : Pan) : s.Standing (s.endScrape im p) :=
  (State.Standing.softLower s p).trans (.of_fields rfl rfl rfl rfl)

theorem State.Standing.endPass (s : State) (im : Image) : s.Standing (s.endPass im) := by
  unfold State.endPass
  cases s.icu.scrape with
  | none => exact .refl s
  | some p => exact .endScrape s im p

theorem State.Standing.reactPass (s : State) (im : Image) : s.Standing (s.reactPass im) := by
  unfold State.reactPass
  cases s.icu.scrape with
  | none => exact .refl s
  | some p => exact prop_ite (P := s.Standing) (.refl s) (.endScrape s im p)

theorem State.Standing.formIce (s : State) (im : Image) : s.Standing (s.formIce im) := by
  have leaves : s.Standing (s.leaveClearing im) :=
    State.Standing.trans (.of_fields (by simp) (by simp) (by simp) (by simp)) (State.Standing.endPass _ im)
  unfold State.formIce
  refine prop_ite (P := s.Standing) (prop_ite (P := s.Standing) ?_ (.refl s)) (.of_fields rfl rfl rfl rfl)
  exact prop_ite (P := s.Standing) (leaves.trans (.of_fields rfl rfl rfl rfl)) (leaves.trans (.of_fields rfl rfl rfl rfl))

theorem State.Standing.latchSoft (s : State) (c : DropCondition) : s.Standing (s.latchSoft c) := by
  unfold State.latchSoft
  refine prop_ite (P := s.Standing) (.refl s) ?_
  exact ((State.Standing.softLower s .a).trans (.softLower _ .b)).trans (.of_fields (by simp) (by simp) (by simp) (by simp))

theorem State.Standing.judgeCause (s : State) (im : Image) (c : DropCondition) : s.Standing (s.judgeCause im c) := by
  obtain ⟨t, taken, e⟩ := s.judgeCause_cases im c
  have noted : s.Standing t := by rcases taken with rfl | rfl <;> exact .of_fields rfl (by simp [State.setCause]) rfl rfl
  rcases e with e | e
  · exact e ▸ noted
  · exact e ▸ noted.trans (.latchSoft t c)

theorem State.Standing.formRestore (s : State) (im : Image) : s.Standing (s.formRestore im) :=
  .of_fields (by simp) (by simp) (by simp) (by simp)

theorem State.Standing.dsReact (s : State) (im : Image) : s.Standing (s.dsReact im) :=
  ((((State.Standing.judgeCause s im .wrongSystem).trans (.judgeCause _ im .controlSilent)).trans
    (.judgeCause _ im .lineLost)).trans (.judgeCause _ im .arcSevere)).trans (.formRestore _ im)

theorem State.Standing.guard (s : State) : s.Standing s.guard := by
  have watched : s.Standing ((s.watchIsolated .a).watchIsolated .b) :=
    (State.Standing.watchIsolated s .a).trans (.watchIsolated _ .b)
  exact watched.trans ⟨by simp, by simp, fun _ p => by rw [s.guard_pc p]; rfl⟩

end Sys2Proof.Machine
end

section
/-! PROOFS. The ice state, the arc sum and the clear streak through a step (O52). -/

namespace Sys2Proof.Machine

/-! ### The ice state as the last round forms it (R135) -/

/-- The mode, the ice state, the arc sum and the clear streak. -/
def ICU.stage (u : ICU) : IceMode × IceState × Nat × Nat := (u.mode, u.state, u.arcSum, u.clearStreak)

/-- The ICU is in a CLEARING that goes on, or in the state of the table with the clear streak at 0. -/
def State.IceFormed (s : State) (im : Image) : Prop :=
  (s.icu.state = .clearing ∧ s.clearingEnds im = false) ∨ (s.icu.state = s.nextIce im ∧ s.icu.clearStreak = 0)

/-- What the table of the ice state reads stands. -/
structure State.SameIce (s t : State) : Prop where
  standing : s.Standing t
  stage : t.icu.stage = s.icu.stage
  ioc : t.ioc = s.ioc

theorem State.SameIce.trans {s t u : State} (h : s.SameIce t) (k : t.SameIce u) : s.SameIce u :=
  ⟨h.standing.trans k.standing, k.stage.trans h.stage, k.ioc.trans h.ioc⟩

theorem State.SameIce.of_fields {s t : State} (cc : t.cc = s.cc) (closed : t.bi.closed = s.bi.closed) (a : t.pcA = s.pcA)
    (b : t.pcB = s.pcB) (icu : t.icu.stage = s.icu.stage) (ioc : t.ioc = s.ioc) : s.SameIce t :=
  ⟨.of_fields cc closed a b, icu, ioc⟩

theorem State.iceOff_congr {s t : State} (im : Image) (mode : t.icu.mode = s.icu.mode) (ioc : t.ioc = s.ioc) :
    t.iceOff im = s.iceOff im := by
  simp only [State.iceOff, State.cold, State.warm, mode, ioc]

theorem State.nextIce_congr {s t : State} (im : Image) (standing : s.Standing t) (arcs : t.icu.arcs = s.icu.arcs)
    (ioc : t.ioc = s.ioc) : t.nextIce im = s.nextIce im := by
  obtain ⟨⟨-, sum, -, mode⟩, -⟩ : (_ ∧ t.icu.arcSum = s.icu.arcSum ∧ _ ∧ t.icu.mode = s.icu.mode) ∧ _ := by
    simpa [ICU.arcs] using arcs
  simp only [State.nextIce, State.iceOff_congr im mode ioc, standing.iceHold, sum, mode]

theorem State.IceFormed.congr {s t : State} {im : Image} (h : s.IceFormed im) (same : s.SameIce t) : t.IceFormed im := by
  obtain ⟨mode, state, sum, streak⟩ : t.icu.mode = s.icu.mode ∧ t.icu.state = s.icu.state ∧
      t.icu.arcSum = s.icu.arcSum ∧ t.icu.clearStreak = s.icu.clearStreak := by
    simpa [ICU.stage] using same.stage
  have off := State.iceOff_congr im mode same.ioc
  simpa only [State.IceFormed, State.clearingEnds, State.nextIce, off, same.standing.iceHold, mode, state, sum,
    streak] using h

theorem State.formIce_formed (s : State) (im : Image) : (s.formIce im).IceFormed im := by
  by_cases moves : s.icu.state ≠ .clearing ∨ s.clearingEnds im = true
  · obtain ⟨state, streak⟩ := State.formIce_moves moves
    have ioc : (s.formIce im).ioc = s.ioc := by simp
    refine .inr ⟨?_, streak⟩
    rw [state, State.nextIce_congr im (.formIce s im) (s.formIce_arcs im) ioc]
  · obtain ⟨clearing, stays⟩ := not_or.mp moves
    have stays : s.clearingEnds im = false := by simpa using stays
    rw [State.formIce_stays (not_not.mp clearing) stays]
    exact .inl ⟨not_not.mp clearing, stays⟩

theorem ICU.stage_of_account {u v : ICU} (account : v.account = u.account) (mode : v.mode = u.mode) : v.stage = u.stage := by
  simp only [ICU.account, ICU.tally, Prod.mk.injEq] at account
  obtain ⟨⟨-, sum, -, state⟩, streak⟩ := account
  simp [ICU.stage, sum, state, streak, mode]

theorem State.endScrape_stage (s : State) (im : Image) (p : Pan) : (s.endScrape im p).icu.stage = s.icu.stage := by
  simp [State.endScrape, ICU.stage]

theorem State.SameIce.reactPass (s : State) (im : Image) : s.SameIce (s.reactPass im) := by
  refine ⟨.reactPass s im, ?_, by simp⟩
  unfold State.reactPass
  cases s.icu.scrape with
  | none => rfl
  | some p => exact prop_ite (P := fun t : State => t.icu.stage = s.icu.stage) rfl (s.endScrape_stage im p)

theorem State.SameIce.loadScrape (s : State) (im : Image) : s.SameIce (s.loadScrape im) := by
  unfold State.loadScrape
  cases s.icu.scrape with
  | none => exact .of_fields rfl rfl rfl rfl rfl rfl
  | some p => exact prop_ite (P := s.SameIce) (.of_fields rfl rfl rfl rfl rfl rfl) (.of_fields rfl rfl rfl rfl rfl rfl)

theorem State.SameIce.guardHeaters (s : State) (im : Image) : s.SameIce (s.guardHeaters im) :=
  .of_fields rfl rfl rfl rfl rfl rfl

/-- After the ice state is formed, the rest of the round leaves what its table reads. -/
theorem State.icuReact_formed (s : State) (im : Image) : (s.icuReact im).IceFormed im := by
  unfold State.icuReact
  have formed := (s.judgeSevere im).formIce_formed im
  generalize (s.judgeSevere im).formIce im = t at formed
  exact formed.congr (((State.SameIce.guardHeaters t im).trans (.reactPass _ im)).trans (.loadScrape _ im))

theorem State.others_formed {s : State} {im : Image} (i : s.cl.image = some im) :
    s.others.IceFormed im ∧ s.others.icu.severe = decide (im.tSevere ≤ s.others.icu.arcSum) := by
  have first : s.others = (((((((s.clearMarks).ccReact im).icuReact im).dsReact im).formProfile im).reactRaise
    im).reactScrape im) := State.ifGood_of_some i fun im s =>
    let t := (((s.clearMarks).ccReact im).icuReact im).dsReact im
    ((t.formProfile im).reactRaise im).reactScrape im
  rw [first]
  have severe := ((s.clearMarks).ccReact im).icuReact_severe im
  have formed := ((s.clearMarks).ccReact im).icuReact_formed im
  generalize ((s.clearMarks).ccReact im).icuReact im = t at severe formed
  have same : t.SameIce (t.dsReact im) := ⟨.dsReact t im, by simp, by simp⟩
  refine ⟨(formed.congr same).congr (.of_fields ?_ ?_ ?_ ?_ ?_ ?_), ?_⟩
  all_goals simp [severe]

theorem State.SameIce.reportAndClear (s : State) (a : Acting) : s.SameIce (s.reportAndClear a) := by
  unfold State.reportAndClear
  dsimp only
  split_ifs <;> exact .of_fields rfl rfl rfl rfl rfl rfl

theorem State.guard_arcs (s : State) : s.guard.icu.arcs = s.icu.arcs ∧ s.guard.icu.account = s.icu.account := by
  cases i : s.cl.image with
  | some im => rw [State.guard_icu i]; simp [State.guardHeaters, ICU.arcs, ICU.account, ICU.tally, ICU.rings]
  | none =>
    have icu : s.guard.icu = s.icu := by
      unfold State.guard
      rw [State.ifGood_of_none (by simpa using i)]
      simp
    rw [icu]
    exact ⟨rfl, rfl⟩

/-- The end of an event leaves what the table of the ice state reads. -/
theorem State.SameIce.finish (before s : State) (test ask : Bool) : s.SameIce (finish before test ask s) := by
  obtain ⟨arcs, account⟩ := s.guard_arcs
  have mode : s.guard.icu.mode = s.icu.mode := congrArg (fun x => x.1.2.2.2) arcs
  have icu : (Machine.finish before test ask s).icu = s.guard.icu := by simp
  refine ⟨⟨by simp, by simp, fun closed p => ?_⟩, ?_, by simp⟩
  · rw [finish_pc]
    exact (State.Standing.guard s).collects closed p
  · rw [icu]
    exact ICU.stage_of_account account mode

/-- Every event ends in an ice state of the table, with the severe mark formed afresh. -/
theorem eventEnd_formed {c : Instr} {s : State} {im : Image} (i : (eventEnd c s).cl.image = some im) :
    (eventEnd c s).IceFormed im ∧ (eventEnd c s).icu.severe = decide (im.tSevere ≤ (eventEnd c s).icu.arcSum) := by
  obtain ⟨u, -, settles⟩ := settle_succ_others 7 s (direct c s)
  have runs : eventEnd c s = finish s (asksTest c s) (asksStatus c s) (u.others.reportAndClear (acting c s)) := by
    rw [← settles]; rfl
  rw [runs] at i ⊢
  have image : u.cl.image = some im := by simpa [finish_frame] using i
  obtain ⟨formed, severe⟩ := State.others_formed image
  generalize u.others = v at formed severe
  refine ⟨formed.congr ((State.SameIce.reportAndClear v _).trans (.finish ..)), ?_⟩
  have reported : (v.reportAndClear (acting c s)).icu.arcs = v.icu.arcs := by
    unfold State.reportAndClear
    dsimp only
    split_ifs <;> rfl
  obtain ⟨arcs, -⟩ := (v.reportAndClear (acting c s)).guard_arcs
  obtain ⟨⟨mark, sum, -⟩, -⟩ : (_ = v.icu.severe ∧ _ = v.icu.arcSum ∧ _) ∧ _ := by simpa [ICU.arcs] using arcs.trans reported
  simp [mark, sum, severe]

/-! ### The clauses that the table gives (R134 to R136) -/

theorem State.nextIce_off {s : State} {im : Image} (off : s.iceOff im = true) : s.nextIce im = .off := by
  simp [State.nextIce, off]

theorem State.nextIce_hold {s : State} {im : Image} (on : s.iceOff im = false) (hold : s.iceHold = true) :
    s.nextIce im = .suspended := by
  simp [State.nextIce, on, hold]

/-- On neither condition the table gives WATCH, only in AUTO below T_ice, or CLEARING. -/
theorem State.nextIce_free {s : State} {im : Image} (on : s.iceOff im = false) (free : s.iceHold = false) :
    s.nextIce im = .clearing ∨ (s.nextIce im = .watch ∧ s.icu.mode = .auto ∧ s.icu.arcSum < im.tIce) := by
  rw [State.nextIce_watching on free]
  split_ifs with taken
  · exact .inl rfl
  · obtain ⟨notForced, below⟩ := not_or.mp taken
    refine .inr ⟨rfl, ?_, not_le.mp below⟩
    cases mode : s.icu.mode with
    | off => simp [State.iceOff, mode] at on
    | auto => rfl
    | forced => exact absurd mode notForced

section
variable {s : State} {im : Image}

theorem State.IceFormed.off_iff (h : s.IceFormed im) : s.icu.state = .off ↔ s.iceOff im = true := by
  rcases h with ⟨clearing, stays⟩ | ⟨state, -⟩
  · simp only [State.clearingEnds, Bool.or_eq_false_iff] at stays
    simp [clearing, stays.1.1]
  · rw [state]
    cases off : s.iceOff im with
    | true => simp [State.nextIce_off off]
    | false =>
      cases hold : s.iceHold with
      | true => simp [State.nextIce_hold off hold]
      | false => rcases State.nextIce_free off hold with e | ⟨e, -⟩ <;> simp [e]

theorem State.IceFormed.suspended_iff (h : s.IceFormed im) (on : s.iceOff im = false) :
    s.icu.state = .suspended ↔ s.iceHold = true := by
  rcases h with ⟨clearing, stays⟩ | ⟨state, -⟩
  · simp only [State.clearingEnds, Bool.or_eq_false_iff] at stays
    simp [clearing, stays.1.2]
  · rw [state]
    cases hold : s.iceHold with
    | true => simp [State.nextIce_hold on hold]
    | false => rcases State.nextIce_free on hold with e | ⟨e, -⟩ <;> simp [e]

theorem State.IceFormed.of_watch (h : s.IceFormed im) (watch : s.icu.state = .watch) :
    s.icu.mode = .auto ∧ s.icu.arcSum < im.tIce := by
  rcases h with ⟨clearing, -⟩ | ⟨state, -⟩
  · rw [clearing] at watch; cases watch
  · rw [state] at watch
    cases off : s.iceOff im with
    | true => rw [State.nextIce_off off] at watch; cases watch
    | false =>
      cases hold : s.iceHold with
      | true => rw [State.nextIce_hold off hold] at watch; cases watch
      | false =>
        rcases State.nextIce_free off hold with e | ⟨-, why⟩
        · rw [e] at watch; cases watch
        · exact why

theorem State.IceFormed.streak_lt (h : s.IceFormed im) (auto : s.icu.mode = .auto) : s.icu.clearStreak < 16 := by
  rcases h with ⟨-, stays⟩ | ⟨-, streak⟩
  · have goes := (State.clearingEnds_iff (s := s) (im := im)).not.mp (by simp [stays])
    exact not_le.mp fun full => goes (.inr (.inr ⟨auto, full⟩))
  · rw [streak]; decide

end

/-! ### The arc sum and the clear streak (R131, R137) -/

/-- The arc sum is that of the arc pantograph's ring; the clear streak is 0 outside CLEARING and never above 16. -/
structure ICU.Summed (u : ICU) : Prop where
  sum : u.arcSum = match u.arcPan with
    | some .a => u.ringA.sum
    | some .b => u.ringB.sum
    | none => 0
  streak : u.state ≠ .clearing → u.clearStreak = 0
  limit : u.clearStreak ≤ 16

theorem ICU.Summed.arcs {u v : ICU} (h : u.Summed) (arcs : v.arcs = u.arcs) (streak : v.state ≠ .clearing → v.clearStreak = 0)
    (limit : v.clearStreak ≤ 16) : v.Summed := by
  obtain ⟨⟨-, sum, pan, -⟩, a, b, -⟩ : (_ ∧ v.arcSum = u.arcSum ∧ v.arcPan = u.arcPan ∧ _) ∧ v.ringA = u.ringA ∧
      v.ringB = u.ringB ∧ _ := by simpa [ICU.arcs] using arcs
  refine ⟨?_, streak, limit⟩
  rw [sum, pan, a, b]
  exact h.sum

theorem ICU.Summed.same {u v : ICU} (h : u.Summed) (same : u.Same v) : v.Summed := by
  obtain ⟨tally, streak⟩ := same
  simp only [ICU.tally, ICU.rings, ICU.arcs, Prod.mk.injEq] at tally
  obtain ⟨⟨-, a, b, -, -⟩, sum, pan, state⟩ := tally
  refine ⟨?_, fun off => ?_, ?_⟩
  · rw [sum, pan, a, b]
    exact h.sum
  · rcases streak with e | e
    · exact e.trans (h.streak (state ▸ off))
    · exact e
  · rcases streak with e | e
    · exact e.le.trans h.limit
    · exact e.le.trans (Nat.zero_le _)

theorem ICU.Summed.advance {u : ICU} (h : u.Summed) (n : Nat) : (u.advance n).Summed := by
  have pan := (u.advance_rings n).2.2.2.2
  refine ⟨pan ▸ u.advance_sum n, fun off => ?_, ?_⟩
  · have off : u.state ≠ .clearing := by simpa using off
    rw [ICU.advance_streak, if_neg off]
    exact h.streak off
  · rw [ICU.advance_streak]
    refine prop_ite (P := fun k => k ≤ 16) (prop_ite (P := fun k => k ≤ 16) (min_le_left _ _) (Nat.zero_le _)) h.limit

theorem ICU.Summed.ite {u v : ICU} {q : Prop} [Decidable q] (h : u.Summed) (k : v.Summed) :
    (if q then u else v).Summed := prop_ite (P := ICU.Summed) h k

/-- The arcs given to a pantograph are summed afresh (R131). -/
theorem ICU.Summed.formSum {u : ICU} (h : u.Summed) (p : Pan) : (({ u with arcPan := some p } : ICU).formSum).Summed := by
  refine ⟨?_, h.streak, h.limit⟩
  cases p <;> exact total_eq_sum _

theorem State.formIce_summed {s : State} (h : s.icu.Summed) (im : Image) : (s.formIce im).icu.Summed := by
  by_cases moves : s.icu.state ≠ .clearing ∨ s.clearingEnds im = true
  · have streak := (State.formIce_moves moves).2
    exact h.arcs (s.formIce_arcs im) (fun _ => streak) (streak.le.trans (Nat.zero_le _))
  · obtain ⟨clearing, stays⟩ := not_or.mp moves
    rw [State.formIce_stays (not_not.mp clearing) (by simpa using stays)]
    exact h

theorem State.abandonWindow_summed {s : State} (h : s.icu.Summed) : s.abandonWindow.icu.Summed := by
  cases image : s.cl.image with
  | none =>
    have icu : s.abandonWindow.icu = s.icu := by
      unfold State.abandonWindow
      simp [image]
    exact icu ▸ h
  | some im =>
    rw [State.abandonWindow_eq image]
    exact (h.advance _).ite h

theorem Move.summed {s t : State} (m : Move s t) (h : s.icu.Summed) : t.icu.Summed := by
  have same : ∀ {u : State}, u.icu = s.icu → u.icu.Summed := fun e => e ▸ h
  have account : ∀ {u : State}, u.icu.account = s.icu.account → u.icu.Summed := fun e => h.same (.of_account e)
  induction m
  case abandon => exact State.abandonWindow_summed h
  case arcPan p _ => exact h.formSum p
  case ice im _ => exact State.formIce_summed h im
  case guardHeaters => exact account rfl
  case pass im _ =>
    unfold State.reactPass
    cases s.icu.scrape with
    | none => exact h
    | some p => exact prop_ite (P := fun t : State => t.icu.Summed) h (account (State.endScrape_account s im p))
  case loadScrape =>
    unfold State.loadScrape
    cases s.icu.scrape with
    | none => exact h
    | some p => exact prop_ite (P := fun t : State => t.icu.Summed) (account rfl) h
  case severe im _ =>
    unfold State.judgeSevere
    exact prop_ite (P := fun t : State => t.icu.Summed) (account rfl) (account rfl)
  case clear a =>
    unfold State.reportAndClear
    dsimp only
    split_ifs <;> exact h.arcs rfl h.streak h.limit
  all_goals exact same (by simp)

theorem State.takeSample_summed {s : State} (h : s.icu.Summed) (im : Image) (code : BitVec 14) (valid : Bool) :
    (s.takeSample im code valid).icu.Summed := by
  have closed : (s.windowEnd im (s.lq.take im.h code valid)).icu = s.icu.advance im.tClear := by
    unfold State.windowEnd
    dsimp only
    split_ifs <;> simp
  unfold State.takeSample
  refine prop_ite (P := fun t : State => t.icu.Summed) h ?_
  rw [closed]
  exact h.advance _

end Sys2Proof.Machine
end

section
/-! PROOFS. The heater draw and the ice state stand by their laws (O52). -/

namespace Sys2Proof.Machine

theorem State.arcInput_summed {s : State} (h : s.icu.Summed) (p : Pan) (rising : Bool) (us : Nat) :
    (s.arcInput p rising us).icu.Summed := by
  have counted (u : State) (im : Image) (k : u.icu.Summed) : (u.countArc im p).icu.Summed := by
    unfold State.countArc
    refine prop_ite (P := fun t : State => t.icu.Summed) ?_ k
    cases p <;> exact ⟨k.sum, k.streak, k.limit⟩
  have taken (u : State) (same : u.icu = s.icu) : (u.ifGood fun im t => t.countArc im p).icu.Summed := by
    unfold State.ifGood
    cases u.cl.image with
    | none => exact same ▸ h
    | some im => exact counted u im (same ▸ h)
  unfold State.arcInput
  refine prop_ite (P := fun t : State => t.icu.Summed) ?_ h
  cases p <;> exact taken _ rfl

theorem direct_summed {c : Instr} {s : State} (h : s.icu.Summed) : (direct c s).icu.Summed := by
  by_cases sample : ∃ code valid, c = .sampleEvent code valid
  · obtain ⟨code, valid, rfl⟩ := sample
    cases i : s.cl.image with
    | none => simpa [direct, State.ifGood_of_none i] using h
    | some im => rw [direct_sample i]; exact State.takeSample_summed h im code valid
  · by_cases edge : ∃ p rising us, c = .arcEdge p rising us
    · obtain ⟨p, rising, us, rfl⟩ := edge
      exact State.arcInput_summed h p rising us
    · exact h.same (direct_same (fun code valid e => sample ⟨code, valid, e⟩) fun p r n e => edge ⟨p, r, n, e⟩)

theorem eventEnd_summed {c : Instr} {s : State} (h : s.icu.Summed) : (eventEnd c s).icu.Summed :=
  (moves_event c s).preserves (Law := fun t => t.icu.Summed) (fun _ _ m => Move.summed m) (direct_summed h)

theorem State.IceLaw.of_formed {s : State} (summed : s.icu.Summed) (formed : ∀ im, s.cl.image = some im →
    s.IceFormed im ∧ s.icu.severe = decide (im.tSevere ≤ s.icu.arcSum)) : s.IceLaw where
  off im i := (formed im i).1.off_iff
  suspended im i := (formed im i).1.suspended_iff
  watch im i := (formed im i).1.of_watch
  clearing im i _ := (formed im i).1.streak_lt
  sum := summed.sum
  severe im i := by rw [(formed im i).2, decide_eq_true_iff]
  streak := summed.streak
  limit := summed.limit

theorem eventEnd_iceLaw {c : Instr} {s : State} (h : s.IceLaw) : (eventEnd c s).IceLaw :=
  .of_formed (eventEnd_summed ⟨h.sum, h.streak, h.limit⟩) fun _ => eventEnd_formed

/-! ### The heater draw (R141, R142) -/

/-- The heaters with their draw. -/
def ICU.load (u : ICU) : Bool × Bool × Nat := (u.heaterA, u.heaterB, u.draw)

theorem direct_load_of_none {c : Instr} {s : State} (h : (direct c s).cl.image = none) :
    (direct c s).icu.load = s.icu.load := by
  have none := direct_image_of_none h
  have no {im : Image} {q : Prop} (i : s.cl.image = some im) : q := nomatch none.symm.trans i
  have d := direct_acts c s
  generalize direct c s = t at d h ⊢
  induction d
  case goodRecord => rw [goodVerdict_image] at h; cases h
  case sample | demand | status | claim | withdraw | record | removeLearning | lose | removeLost | ageOut | holdOff
      | scrapeEnd => exact no ‹_›
  case pulse r n =>
    unfold State.odoInput
    refine prop_ite (P := fun t : State => t.icu.load = s.icu.load) ?_ rfl
    simp [State.ifGood, none]
  case arc p r n =>
    unfold State.arcInput
    refine prop_ite (P := fun t : State => t.icu.load = s.icu.load) ?_ rfl
    cases p <;> simp [State.ifGood, none]
  case cooldownEnd => rfl
  all_goals exact congrArg ICU.load (by simp)

theorem Move.load_of_none {s t : State} (m : Move s t) (none : s.cl.image = none) : t.icu.load = s.icu.load := by
  have no {im : Image} {q : Prop} (i : s.cl.image = some im) : q := nomatch none.symm.trans i
  induction m
  case abandon =>
    unfold State.abandonWindow
    simp [none]
  case arcPan => rfl
  case clear a =>
    unfold State.reportAndClear
    dsimp only
    split_ifs <;> rfl
  case fault | close | severe | ice | guardHeaters | pass | loadScrape | judge | restore | profile | raise | scrape | heat
      | conflict | test => exact no ‹_›
  all_goals exact congrArg ICU.load (by simp)

/-- Without an image an event leaves the heaters. -/
theorem eventEnd_load_of_none {c : Instr} {s : State} (none : (eventEnd c s).cl.image = none) :
    (eventEnd c s).icu.load = s.icu.load := by
  have start : (direct c s).cl.image = Option.none := by rwa [(moves_eventEnd c s).cl] at none
  have kept : (eventEnd c s).cl.image = Option.none ∧ (eventEnd c s).icu.load = (direct c s).icu.load :=
    (moves_event c s).preserves
      (Law := fun t => t.cl.image = Option.none ∧ t.icu.load = (direct c s).icu.load)
      (fun _ _ m h => ⟨(congrArg CL.image (Reactions.cl m.one)).trans h.1, (Move.load_of_none m h.1).trans h.2⟩) ⟨start, rfl⟩
  exact kept.2.trans (direct_load_of_none start)

theorem State.guard_idle {s : State} {im : Image} (i : s.cl.image = some im)
    (idle : s.bi.closed = false ∨ ¬(s.cc.phase = .normal ∨ s.cc.phase = .armed)) :
    s.guard.icu.heaterA = false ∧ s.guard.icu.heaterB = false ∧ s.guard.icu.draw = 0 := by
  rw [State.guard_icu i]
  have off : ∀ p, ((s.watchIsolated .a).watchIsolated .b).heaterMayRun p = false := fun p => by
    rcases idle with opened | late
    · simp [State.heaterMayRun, opened]
    · simp [State.heaterMayRun, Phase.early, not_or.mp late]
  simp [State.guardHeaters, off, drawOf]

/-- A heater runs only on a closed breaker in NORMAL or ARMED, and the draw is formed afresh at the end of every event. -/
theorem eventEnd_heaterLaw {c : Instr} {s : State} (law : s.HeaterLaw) : (eventEnd c s).HeaterLaw := by
  unfold State.HeaterLaw
  split
  next im i =>
    refine ⟨eventEnd_draw i, fun idle => ?_⟩
    have icu : (eventEnd c s).icu = (settled c s).guard.icu := by simp [eventEnd]
    rw [icu]
    exact State.guard_idle (im := im) (by simpa [eventEnd] using i) (by simpa [eventEnd] using idle)
  next none =>
    have load := eventEnd_load_of_none none
    have before : s.cl.image = Option.none := direct_image_of_none (by rwa [(moves_eventEnd c s).cl] at none)
    simp only [ICU.load, Prod.mk.injEq] at load
    simpa [State.HeaterLaw, before, load] using law

theorem direct_imageLaw {c : Instr} {s : State} (law : s.ImageLaw) : (direct c s).ImageLaw := by
  have same {t : State} (cl : t.cl.image = s.cl.image) : t.ImageLaw := fun im i => law im (cl ▸ i)
  have d := direct_acts c s
  generalize direct c s = t at d ⊢
  induction d
  case goodRecord r pins _ _ =>
    intro im i
    rw [goodVerdict_image] at i
    cases i
    exact clampImage_clampImage _
  case badRecord | readTimeout => exact same (by simp [State.badVerdict_cl])
  case release => exact same (by simp [State.release])
  case none | readRetry => exact law
  all_goals exact same (congrArg CL.image (by simp))

theorem eventEnd_imageLaw {c : Instr} {s : State} (law : s.ImageLaw) : (eventEnd c s).ImageLaw := by
  unfold State.ImageLaw
  rw [(moves_eventEnd c s).cl]
  exact direct_imageLaw law

theorem State.IceLaw.older {s : State} (h : s.IceLaw) : s.older.IceLaw :=
  ⟨h.off, h.suspended, h.watch, h.clearing, h.sum, h.severe, h.streak, h.limit⟩

theorem State.IceLaw.queue {s : State} (h : s.IceLaw) (q : List Instr) : ({ s with pending := q } : State).IceLaw :=
  ⟨h.off, h.suspended, h.watch, h.clearing, h.sum, h.severe, h.streak, h.limit⟩

theorem State.held_imageLaw (cause : ResetCause) : (State.held cause).ImageLaw := by
  intro im i
  cases i

/-- Settles O52: the guard at the end of every event forms the draw, and the ice state is formed in the last round; what
follows in it leaves what the table reads. -/
theorem heaterDrawAndIceStateStandByTheirLaws : Obligations.HeaterDrawAndIceStateStandByTheirLaws := by
  intro s t one clamped law next
  have kept := step_keeps (Law := fun s => s.ImageLaw ∧ s.HeaterLaw ∧ s.IceLaw)
    (fun s q h => ⟨h.1, h.2.1, h.2.2.queue q⟩) (fun cause => ⟨State.held_imageLaw cause, ⟨rfl, rfl, rfl⟩, State.held_iceLaw cause⟩)
    (fun s _ h => ⟨h.1, h.2.1, h.2.2.older⟩)
    (fun c s h _ => ⟨eventEnd_imageLaw h.1, eventEnd_heaterLaw h.2.1, eventEnd_iceLaw h.2.2⟩) s t ⟨clamped, law⟩ next
  exact ⟨raisedPantographsStandByTheirLaws.1 s t one next, kept⟩

end Sys2Proof.Machine
end

end
